-- ==== Sys2Proof/Word.lean ====
section
/-!
DEFINITION. The word types of the XZG512 and their plainest arithmetic.
-/
namespace Sys2Proof

/-- One byte. -/
abbrev Byte := BitVec 8
/-- A 32-bit register or signal word. -/
abbrev Word := BitVec 32
/-- IEEE 754 binary32 as its bits (R4, R91). -/
abbrev F32 := BitVec 32
/-- An ANGLE: unsigned 32-bit count per turn (00_scope.md, notation table). -/
abbrev Angle := BitVec 32
/-- A parameter value as it is held: up to 64 bits, two's complement where signed. -/
abbrev Raw := BitVec 64

/-- A 32-bit counter that wraps. -/
def wrap32 (n : Nat) : Nat := n % 4294967296

/-- A 16-bit counter that wraps. -/
def wrap16 (n : Nat) : Nat := n % 65536

/-- Bit `k` of a word built from a truth value. -/
def bitAt (b : Bool) (k : Nat) : Word := if b then (1 : Word) <<< k else 0

/-- A field of a word: the value `n` placed with its bit 0 at bit `k`. -/
def fieldAt (n k : Nat) : Word := (BitVec.ofNat 32 n) <<< k

end Sys2Proof
end

