-- ==== Sys2Proof/Machine/Types.lean ====
section
/-!
DEFINITION. The data types of the XZG512: module states, modes, frames, image contents, operands of the commands.
-/
namespace Sys2Proof.Machine

/-- Module states (R14, SYS_STATE). -/
inductive MState | dormant | standby | configPending | ready | running | faulted
deriving DecidableEq, Repr, Inhabited

/-- Module roles (R15). -/
inductive Role | arm | aggregator | pole | compact
deriving DecidableEq, Repr, Inhabited

/-- Life-cycle states (R14, R505 to R507). -/
inductive Life | manufacture | provisioned | service | retired
deriving DecidableEq, Repr, Inhabited

/-- Kernel modes (R148). -/
inductive KMode | idle | blackStart | sync | forming | limited
deriving DecidableEq, Repr, Inhabited

/-- Submodule commands (R233): the codes 0 to 3 in this order. -/
inductive CellCmd | bypass | insertPos | insertNeg | block
deriving DecidableEq, Repr, Inhabited

/-- Rate groups of the loop engine (R95 table). -/
inductive Grp | frame | control | supervisory | background
deriving DecidableEq, Repr, Inhabited

/-- The PLLs (R418). -/
inductive Pll | c | l | h
deriving DecidableEq, Repr, Inhabited

/-- Station time states (R429). -/
inductive TState | free | acquiring | locked | holdover
deriving DecidableEq, Repr, Inhabited

/-- Recorder states (DIA.190 [2:0]). -/
inductive RecState | disarmed | filling | armed | recording | holdoff | waitMemory
deriving DecidableEq, Repr, Inhabited

/-- Bramble actions (R296). -/
inductive Action | none | record | block | bypass | breaker | selfFail
deriving DecidableEq, Repr, Inhabited

/-- Session roles in rising order (00_scope.md). -/
inductive SRole | observer | operator | engineer | guardian
deriving DecidableEq, Repr, Inhabited

/-- "Takes effect" terms (R10). -/
inductive Eff | immediate | control | supervisory | bank | restart | image
deriving DecidableEq, Repr, Inhabited

/-- Parameter types (R12). -/
inductive PTy | bool | u8 | u16 | u32 | u64 | s16 | s32 | s64 | f32 | enum | angle | time
deriving DecidableEq, Repr, Inhabited

/-- Self-test results (DIA.230 [31:28]). -/
inductive TestRes | notRun | pass | repaired | fail | timeout | interrupted | skipped
deriving DecidableEq, Repr, Inhabited

/-- Field output faults (R549). -/
inductive OutFault | openLoad | shortGnd | extHigh | crossShort
deriving DecidableEq, Repr, Inhabited

/-- Hedgerow output pair faults (R383). -/
inductive PairFault | extHigh | crossShort | shortGnd | stuckOn
deriving DecidableEq, Repr, Inhabited

/-- Response status codes (R455 table). -/
inductive Status
  | ok | accepted | busy | refused | authFail | privilege | noSession | sequence | unknownOpcode
  | malformed | aborted | classErr
deriving DecidableEq, Repr, Inhabited

/-- Reason names used throughout the manual (R455, R488, R597). -/
inductive Reason
  | bankCrc | bankTarget | bankLate | bankPending | bankNotPending | gfmRole | gfmInput | gfmOwned | gfmRange
  | armRole | armInput | armMode | armCells | pwmNotTest | pwmNotReady | pwmTestActive | pwmRange | pwmArmMismatch
  | meaTrigger | angSource | lpeDeadline | lpeRange | lpeResource | lpeOrder | lpeFit | lpeLanes
  | latencyForward | latencyFeedback | lnkBudget | lnkRanging | nstBudget | nstRange | topologyMismatch
  | prtRange | prtInput | prtBlockTime | prtActive | twnIdConflict | twnImage | twnTopology | twnLink | twnStateSize
  | twnMargin | twnShadow | hdgKernel | hdgResponse | hdgParallel | acqRate | acqSource | acqSize | acqCond
  | timCoreSlow | timNotLocked | pwrRunning | mbxRange | mbxParam | mbxBank | mbxReadOnly | mbxImageOnly
  | mbxState | mbxContention | mbxSessionOpen | mbxSnapshotSize | mbxFastSource | cfgFormat | cfgHash | cfgSignature
  | cfgHdgSignature | cfgHdgRef | cfgRollback | cfgRelease | cfgSlotEmpty | cfgSection | cfgParam | cfgNode | cfgRange
  | cfgPort | cfgUnusable | cfgCells | cfgWiring | cfgExtra | cfgParent | cfgChild | cfgBusy | cfgSequence | cfgState
  | cfgPending | fioSource | fioSafeState | fioRange
deriving DecidableEq, Repr, Inhabited

/-- A parameter or diagnostic identifier: group code of R464 and three-digit number. -/
structure Pid where
  g : Nat
  n : Nat
deriving DecidableEq, Repr, Inhabited

/-- The 48 block types of R109, in the order of the block table. -/
inductive Block
  | sum | gain | mul | div | abs | minmax | limit | ratelim | hyst | cmp | logic | edge | timer | counter | mux | sh
  | delay | integ | filt1 | filt2 | notch | mavg | rms | leadlag | pi | pr | clarke | iclarke | park | ipark | ddsrf | pq
  | sqrt | trig | atan2 | polar | angop | lut1 | lut2 | fsm | vsm | droop | vimp | clim | quant | import_ | export_ | mode
deriving DecidableEq, Repr, Inhabited

/-- Where an IMPORT block, a kernel input or a recorder channel takes its value from (R109 No. 46, R133, R393). -/
inductive Src
  | none
  | ai (k : Nat)                    -- frame value, or the CONTINUOUS mean of R50
  | aiLatest (k : Nat)              -- latest sample of a CONTINUOUS input
  | sd (k : Nat)
  | sdAge (k : Nat)                 -- age of the sigma-delta value, ns (R61)
  | sv (s k : Nat)
  | trkAngle (t : Nat) | trkMag (t : Nat) | trkFreq (t : Nat)
  | armVavg (a : Nat) | armEnergy (a : Nat) | armHealthy (a : Nat) | armInserted (a : Nat) | armReturned (a : Nat)
  | armNlo (a : Nat) | armNhi (a : Nat)
  | vcap (ch : Nat)
  | baseTemp
  | field (i : Nat)                 -- filtered field input level
  | mstate
  | exported (k : Nat)              -- value an EXPORT block publishes to Reedbed
  | kernExp (k : Nat)               -- value an EXPORT block publishes to the kernel
  | host (id : Pid) (e : Nat)       -- host value: a parameter in force
  | digital (l : List Nat)          -- up to 32 Boolean sources, bit 0 first (R393)
deriving DecidableEq, Repr, Inhabited

/-- What the COMTRADE files of one set say (R411, R412). -/
structure ComSet where
  timeMult : F32                       -- 0.5 for the main set, 0.25 for the raw set
  analogs  : List (Nat × F32 × F32 × Int) -- channel, a, b, skew in 2^-16 ns
  status   : List (Nat × Nat)          -- digital word and bit of each status channel
  rates    : List (Nat × Nat)          -- sample-rate sections: ns between samples, number of the last sample
  startUtc : Int                       -- first sample, UTC ns
  trigUtc  : Int
  rows     : List (List Word)          -- values of the analog channels, then digital words
deriving DecidableEq, Repr, Inhabited

/-- Where an EXPORT block publishes to (R109 No. 47). -/
inductive Dst
  | none | kernel (k : Nat) | armVref (a : Nat) | progTrip | progRecord | reedbed (k : Nat) | fieldOut (k : Nat) | nest (k : Nat) | snapshot (k : Nat)
deriving DecidableEq, Repr, Inhabited

/-- The producer of a block's input: a constant, an output of an instance, or a kernel output. -/
inductive InSrc
  | const (w : Word) | sig (inst out : Nat) | kern (k : Nat)
deriving DecidableEq, Repr, Inhabited

/-- One input of an instance; `prev` is the marking of R584. -/
structure InRef where
  src  : InSrc
  prev : Bool := false
deriving DecidableEq, Repr, Inhabited

/-- One block instance of a block program (R109, R110, R115, R584, R587). `opts` holds what the program fixes for the
type: the signs of SUM, the operation code of MINMAX, CMP, LOGIC and ANGOP, the edge of EDGE, the mode of TIMER, the d of
DELAY, N of LUT1 and LUT2, and the FSM's transitions as triples. -/
structure Inst where
  ty     : Block
  grp    : Grp
  ins    : List InRef
  coef   : Nat := 0
  enable : Option InRef := Option.none
  track  : Option (InRef × InRef) := Option.none
  opts   : List Int := []
  src    : Src := Src.none
  dst    : Dst := Dst.none
  nOut   : Nat := 1
deriving DecidableEq, Repr, Inhabited

/-- One node of the topology section (R479 type 1). -/
structure TopoNode where
  id     : Nat
  role   : Role
  parent : Nat
  arms   : Nat
  childIdx : Nat := 0
  pair   : Bool := false             -- the node is a twin pair
deriving DecidableEq, Repr, Inhabited

/-- One submodule position of the topology section (R479 type 1). -/
structure TopoCell where
  node   : Nat
  port   : Nat
  pos    : Nat
  arm    : Nat
  fb     : Bool
  ratedV : Nat
  capUF  : Nat
  serial : Option Nat
deriving DecidableEq, Repr, Inhabited

/-- Signals the image assigns to the kernel (R133). -/
structure KernIn where
  v   : List Src
  i   : List Src
  vdc : Src
deriving DecidableEq, Repr, Inhabited

/-- One parameter value of an image: identifier, element, raw value. -/
structure PVal where
  id  : Pid
  e   : Nat
  v   : Raw
deriving DecidableEq, Repr, Inhabited

/-- What a CONFIG image says once its sections are read (R479). The layout of the sections is not in the manual, so the
bytes are turned into this by a function of Config. -/
structure Content where
  nodeId    : Nat := 0
  secs      : List Nat := [1, 2, 3, 4, 5, 6, 7, 8] -- section types present, in image order
  typed     : Bool := true           -- every parameter known, typed and within array bounds (stage 2)
  params    : List PVal := []
  nodes     : List TopoNode := []
  cells     : List TopoCell := []
  fNom      : F32 := 0x42480000      -- nominal frequency of group SYS, Hz
  fibreDup  : Bool := false          -- a port is used twice (CFG_PORT)
  hdgLinked : Bool := true           -- a nest connection reaches each member of the far node (R326)
  prog      : List Inst := []
  lanes3    : List Bool := [false, false, false, false] -- a schedule without L0, L1, L2, L3 is present
  spans4    : List Nat := [0, 0, 0]  -- stated makespans W_F, S_C, S_S for four lanes
  spans3    : List (List Nat) := []  -- the same without L0, L1, L2, L3
  sramFits  : Bool := true           -- Merirot's count of R111
  stateSize : Nat := 0               -- Merirot's count of R326, bytes
  kern      : Option KernIn := Option.none
  gfmSet    : Bool := false          -- the GFM section is not empty
  gfmAddr   : List (Nat × Nat) := [] -- bank address of the word of each Bank parameter of group GFM (R587)
  bankA     : List Word := []
  bankB     : List Word := []
  snapList  : List (Pid × Nat × Nat) := []
  snapBytes : Nat := 0               -- payload bytes of a supervisory entry
  needPorts : Nat := 0               -- bits 0 to 36: ports the image needs (R503)
deriving DecidableEq, Repr, Inhabited

/-- Identity record of a cell as enumeration reads it (R258 table). -/
structure IdRec where
  format  : Nat
  cellType : Nat
  ratedV  : Nat
  capUF   : Nat
  serial  : Nat
  fw      : Nat
  gain    : F32
  offset  : F32
  tempco  : F32
  hold    : Nat
  profile : Nat
  crcOk   : Bool                     -- the CRC-32 at its end is that of its bytes
  crc     : Nat := 0                 -- that CRC-32, as READ_DIGEST returns it
deriving DecidableEq, Repr, Inhabited

/-- One cell as seen from one end of a chain at enumeration: its record, its first status and its ranging. -/
structure SeenCell where
  idr      : IdRec
  bypClosed : Bool := false
  delta    : Int := 0                -- TWOWAY_DELTA, ns
  rbH      : Nat := 0                -- ARRIVAL_OFFSET_H as read back, ticks (R241)
  rbT      : Nat := 0                -- ARRIVAL_OFFSET_T as read back, ticks (R241)
deriving DecidableEq, Repr, Inhabited

/-- What enumeration of one port finds (R258). -/
structure SeenPort where
  port  : Nat
  cells : List SeenCell
  loopNs : Nat                        -- measured loop or traversal time
deriving DecidableEq, Repr, Inhabited

/-- What the partner sends over link T at a wake (R325). -/
structure PairInfo where
  sideB  : Bool
  digest : Nat
  epoch  : Nat
  ready  : Bool
  leading : Bool := false              -- the partner already leads (R329)
deriving DecidableEq, Repr, Inhabited

/-- Header of a nest frame (R232, R269). `port` is PORT and NPORT read together: P00 to P31 are 0 to 31, N0 to N3 are 32 to 35. -/
structure NestHdr where
  fnum   : Nat
  lepoch : Nat
  nodeId : Nat
  sideB  : Bool
  shadow : Bool
  ready  : Bool
  port   : Nat
  ftype  : Nat
  fper   : Nat
  childIdx : Nat
  dsub   : Nat
  digest : Nat
deriving DecidableEq, Repr, Inhabited

/-- Observations a wake or an identity repetition makes outside the module (R490, R492). -/
structure WakeObs where
  ports    : List SeenPort := []
  parent   : Option NestHdr := Option.none -- header of the valid NEST_DOWN frames held
  kids     : List (Nat × NestHdr) := []    -- headers of the valid NEST_UP frames held, by index of the child
  partner  : Option PairInfo := Option.none
  refOk    : Bool := true             -- the REF count has been within its window for 1 s (R417)
deriving DecidableEq, Repr, Inhabited

/-- Readings taken at a supervisory boundary (R448, R575). -/
structure Sensors where
  temps : List F32 := []
  vbat  : Nat := 3000
  v24   : Nat := 24000
  loops : List (Nat × Nat) := []      -- measured loop time per port, ns (R240)
  wake  : WakeObs := {}               -- what a wake that waits for this boundary observes (R486, R496)
deriving DecidableEq, Repr, Inhabited

/-- What the engine measures about the runs that a frame boundary publishes (R94, R107). -/
structure EngObs where
  spans     : List Nat := []
  corrected : Nat := 0
deriving DecidableEq, Repr, Inhabited

/-- One received sample of a sampled-value stream (R65, R68). -/
structure SvSample where
  cnt   : Nat
  vals  : List Int
  good  : List Bool
  test  : List Bool
deriving DecidableEq, Repr, Inhabited

/-- A sampled-value message (R64). -/
structure SvMessage where
  mac     : Nat
  appid   : Nat
  confRev : Nat
  portE2  : Bool
  synch   : Nat
  asdus   : List SvSample
deriving DecidableEq, Repr, Inhabited

/-- A command word as the module forms it (R216, R233). -/
structure Cmd where
  st   : CellCmd
  edge : Option Nat := Option.none    -- edge offset in ticks
deriving DecidableEq, Repr, Inhabited

/-- A message slot (chapter 06, message slot table). -/
structure Msg where
  mtype   : Nat
  target  : Nat
  seq     : Nat
  addr    : Nat
  payload : List Byte
  len     : Nat := payload.length    -- LEN: of READ_ID the bytes asked for
deriving DecidableEq, Repr, Inhabited

/-- A Crihel frame the module sends: the header fields of R232 and the command words it carries. -/
structure Downlink where
  port      : Nat
  fnum      : Word
  lepoch    : Nat
  nodeId    : Nat
  sideB     : Bool
  shadow    : Bool
  ready     : Bool
  ftype     : Nat
  fper      : Nat
  applyOfs  : Nat
  slotBase  : Nat
  slotCount : Nat
  release   : Bool
  relink    : Bool
  depOfs    : Nat
  cmds      : List Cmd
  msg       : Option Msg
  cut       : Bool := false            -- abandoned: BLOCK_ALL preempted it (R247)
deriving DecidableEq, Repr, Inhabited

/-- One status slot (R234), the raw fields, and how it came. -/
structure Slot where
  vcap      : Nat
  st        : CellCmd
  filled    : Bool
  desatH    : Bool
  desatHB   : Bool
  desatL    : Bool
  desatLB   : Bool
  gsOk      : Bool
  bypClosed : Bool
  holding   : Bool
  blockLatch : Bool
  loopback  : Bool
  onward    : Bool
  cmdErr    : Bool
  epochRej  : Bool
  temp      : Int
  fseq      : Nat
  far       : Bool := false            -- it came in a frame of the tail port, or of twin B (R239)
  dep       : Nat := 0                 -- DEP_OFS of that frame, ticks (R236)
  relayed   : Bool := false            -- it came over link T (R245)
deriving DecidableEq, Repr, Inhabited

/-- The arm section of a NEST_UP frame (chapter 07). -/
structure ArmSec where
  nLo      : Int := 0
  nHi      : Int := 0
  inserted : Int := 0
  returned : Int := 0
  dirPos   : Bool := false
  blocked  : Bool := false
  healthy  : Nat := 0
  vavg     : Nat := 0
  energy   : F32 := 0
  fault    : Word := 0
  digest   : Nat := 0
  total    : Int := 0
  cum      : Int := 0
deriving DecidableEq, Repr, Inhabited

/-- A NEST_UP report (R269). `missing` lists node identifiers. -/
structure UpRep where
  epoch      : Nat                    -- ELEM_EPOCH, extended
  creditF    : Nat                    -- CREDIT_FNUM, extended
  incomplete : Bool := false          -- PARTIAL
  lost       : Bool := false
  two        : Bool := false          -- ARM1_PRESENT
  cumReset   : Bool := false
  resetCount : Nat := 0
  xtrig      : Nat := 0
  arm0       : ArmSec := {}
  arm1       : ArmSec := {}
  missing    : List Nat := []
deriving DecidableEq, Repr, Inhabited

/-- A NEST_DOWN frame's content (R269). -/
structure DownRep where
  applyF : Nat
  valid  : Bool
  demand : Bool
  two    : Bool
  ack    : Nat
  xtrig  : Nat
  grant0 : Int
  vref0  : Int
  grant1 : Int
  vref1  : Int
deriving DecidableEq, Repr, Inhabited

/-- Envelope of a link T block: FNUM and whether its CRC-32 is good (R331); of a SEAL also the block count and the CRC-32 of the frame's
vector. -/
structure TBlk where
  fnum  : Nat
  crcOk : Bool
  count : Nat := 1
  vcrc  : Nat := 0
deriving DecidableEq, Repr, Inhabited

/-- One analog sample: raw code and sampling instant in units u of T_f / 2,048,000 since frame number 0 (R48, R281). -/
structure Sample where
  code : Int
  at_  : Nat
deriving DecidableEq, Repr, Inhabited

/-- A host action that the lead's vector carries to the shadow (R330): a write or a command, with its boundary. -/
structure HostAct where
  op   : Nat                           -- opcode
  ch   : Nat
  role : SRole
  sess : Nat
  cred : Nat
  id   : Pid := ⟨0, 0⟩
  e    : Nat := 0
  v    : Raw := 0
  eff  : Eff := .immediate
  at_  : Nat := 0
  addr : Nat := 0
  ws   : List Word := []
deriving DecidableEq, Repr, Inhabited

/-- What one boundary adds to the output digest of a control sample (R337): publications of the frame and control groups and the frames
sent. -/
structure DigFrame where
  pubs : List (List Word)
  cmds : List (Nat × List Cmd)         -- commands by port, by position from the head
  nest : List (Nat × List Byte)        -- nest payloads, from byte 16 to the CRC-32, by port
deriving DecidableEq, Repr, Inhabited

/-- The lead's input vector of one frame (R333). -/
structure Vec where
  ai    : List (F32 × F32 × Bool × Bool) -- delivered mean or value, latest sample, validity, over-range
  sd    : List (F32 × Bool × Nat)      -- value, validity, age in ns
  sv    : List (List (F32 × Bool))
  arms  : List (List (Nat × Bool × Int)) -- raw samples of the arm-current inputs: instant, odd converter, code
  field : Word
  wire  : Word
  acts  : List HostAct := []
deriving DecidableEq, Repr, Inhabited

/-- Content of a link T block that the module sends (R331). -/
inductive TBody
  | vector (v : Vec)
  | exception (port : Nat) (slots : List Slot) (nest : List Byte)
  | seal (lepoch count crc : Nat)
  | digests (l : List (Nat × Nat))
  | hb (lepoch : Nat) (ready own : Bool)
  | outDigest (d : Nat)
  | fail (src : Nat)
  | swap (atF : Nat)
  | state (banks img : List Byte)
  | relay (port : Nat) (ttrav : Option Nat) (slots : List (Nat × Slot))
deriving DecidableEq, Repr, Inhabited

/-- Type byte of a link T block (R331). -/
def TBody.code : TBody → Nat
  | .vector .. => 1 | .exception .. => 2 | .seal .. => 3 | .digests .. => 4 | .hb .. => 5 | .outDigest .. => 6 | .fail .. => 7
  | .swap .. => 8 | .state .. => 9 | .relay .. => 10

/-- Samples and levels that a Hedgerow channel takes in one safety cycle (R359, R363, R373). -/
structure HdgObs where
  ins     : List F32                   -- newest samples by input: AI00 to AI23 for SA, SD0 to SD6 for SB, in units of the input
  levels  : List Bool                  -- input level of each pair as this channel reads it
  breaks  : List Bool                  -- wire break of each pair
  hsHigh  : List Bool := [false, false] -- SOx+ reads above 12 V
  lsHigh  : List Bool := [false, false] -- SOx- reads above 12 V
  hsTrip  : List Bool := [false, false] -- high-side current limit acts
  selfOk  : Bool := true
  constSd : Bool := false              -- a constant stream lasting 256 clocks (SB)
deriving DecidableEq, Repr, Inhabited

/-- Cross-link message (R360). -/
structure XMsg where
  q       : List F32
  levels  : List Bool
  breaks  : List Bool
  fnDem   : List Bool
  pairDem : List Bool
  crc     : Nat
  reads   : List Bool := []            -- read-backs of SO1+, SO2+, SO1-, SO2-
deriving DecidableEq, Repr, Inhabited

/-- What a test of an output pair reads (R382, R383, R388). -/
structure PairObs where
  hsFollows : Bool                     -- terminal, or current, follows the high-side pulse
  lsFollows : Bool
  crossSeen : Bool                     -- the pulse appears on a terminal of the other pair
  cut       : Bool := false            -- a demand fell on the output during the test (R384)
deriving DecidableEq, Repr, Inhabited

/-- One field frame toward the module (R538): voltages at the inputs and output terminals, and diagnostics. -/
structure FieldObs where
  mv      : List Int                   -- voltage of DIA00 to DIA15, DIB00 to DIB15, mV
  term    : List Int := []             -- voltage of terminals DO00 to DO15, mV
  limit   : List Bool := []            -- output in current limit
  current : List Nat := []             -- mA
  lplus   : Nat := 24000               -- mV
  ok      : Bool := true               -- the frame passed its check
deriving DecidableEq, Repr, Inhabited

/-- What a field test pulse sees (R552). -/
structure PulseObs where
  fell    : Bool                       -- the pulsed terminal fell below 5 V
  others  : List Nat                   -- off outputs whose terminal fell with the pulse
  off     : Bool := false              -- the command turned off during the pulse (R553)
  joint   : Option Nat := Option.none  -- first output whose joint pulse made it fall
deriving DecidableEq, Repr, Inhabited

/-- A rising edge of `PPS_IN` (R428, R438). -/
structure TimeMeas where
  offset : Int                         -- nearest whole second of station time less the instant of the edge, ns, before TIM.033
  frac   : Nat := 0                    -- fraction of the offset, 2^-32 ns
deriving DecidableEq, Repr, Inhabited

/-- The four stamps of a peer-delay exchange, ns, and its correction in 2^-16 ns (R4, IEEE 1588-2019). -/
structure PeerDelay where
  t1 : Int
  t2 : Int
  t3 : Int
  t4 : Int
  corr : Int := 0
deriving DecidableEq, Repr, Inhabited

/-- A PTP Sync as the client has it (R4, R436): the port and the master, the domain, the origin time-stamp of the Sync (one-step) or of
its Follow_Up (two-step; none while that has not come), the correction, the receive stamp at the MAC in units of 8 ns of station time,
corrected for the fixed delays of SFP and PHY, and the newest peer-delay exchange. -/
structure PtpMsg where
  e2     : Bool := false
  master : Nat := 0
  domain : Nat := 0
  twoStep : Bool := false
  origin : Option Int := Option.none   -- ns, TAI
  corr   : Int := 0                    -- 2^-16 ns
  rx     : Int := 0                    -- 8 ns
  peer   : Option PeerDelay := Option.none
  utcOff : Option Int := Option.none
  rank   : List Nat := []              -- data set comparison values of the master, in the order of the algorithm; lower is better
deriving DecidableEq, Repr, Inhabited

/-- An IRIG-B frame (R4, R437): the code, time of day as UTC, the IEEE 1344 bits where present, and the station time at which the
on-time marker arrived. -/
structure IrigCode where
  code   : Nat := 0                    -- n of B00n
  am     : Bool := false               -- amplitude-modulated code
  sec    : Nat
  min    : Nat
  hour   : Nat
  day    : Nat                         -- day of the year, from 1
  year   : Option Nat := Option.none   -- from the IEEE 1344 extension
  leap   : Bool := false               -- the extension announces a leap second
  rx     : Int := 0                    -- ns
deriving DecidableEq, Repr, Inhabited

/-- Result of one self-test slice (R501). -/
structure SliceRes where
  outcome : TestRes
  failAddr : Nat := 0
  failBit  : Nat := 0
  fails    : Nat := 0
  spares   : Nat := 0
  units    : Nat := 0                  -- failing units of the block (lanes, ports, inputs, PWM blocks), one bit each
  ms       : Nat := 0
deriving DecidableEq, Repr, Inhabited

/-- One flash page read by a scrub (R515, R521). -/
structure PageObs where
  part    : Nat
  block   : Nat
  bits    : List Nat                   -- corrected bits per codeword
  retries : Nat := 0
deriving DecidableEq, Repr, Inhabited

end Sys2Proof.Machine
end

