-- ==== Sys2Proof/Syntax.lean ====
section
/-!
DEFINITION. The commands of the XZG512: one constructor per row of spec/opcode_table.json, with what the command brings
from outside the module.
-/
namespace Sys2Proof
open Sys2Proof.Machine

/-- A command: an event of the module's surroundings, a host access, or a step of the module's own that falls due. -/
inductive Instr where
  /-- FRAME_BOUNDARY (R24). -/
  | frameBoundary (obs : EngObs)
  /-- CONTROL_SAMPLE_BOUNDARY (R26). -/
  | controlSampleBoundary
  /-- SUPERVISORY_SAMPLE_BOUNDARY (R27). -/
  | supervisorySampleBoundary (sens : Sensors)
  /-- DRIFT_WINDOW_END (R287). -/
  | driftWindowEnd
  /-- SNAPSHOT_EMISSION (R34). -/
  | snapshotEmission
  /-- SNAPSHOT_DMA_ERROR (R476). -/
  | snapshotDmaError
  /-- GROUP_OVERRUN (R102). -/
  | groupOverrun (g : Grp)
  /-- LOOP_OVERRUN_RAISED (R104). -/
  | loopOverrunRaised (g : Grp)
  /-- BACKGROUND_RUN_START (R586). -/
  | backgroundRunStart
  /-- BACKGROUND_RUN_END (R96). -/
  | backgroundRunEnd
  /-- BACKGROUND_WATCHDOG (R106). -/
  | backgroundWatchdog
  /-- ENGINE_SRAM_UNCORRECTABLE (R94). -/
  | engineSramUncorrectable (g : Grp)
  /-- ANALOG_CONVERSION_COMPLETE (R48). -/
  | analogConversionComplete (k : Nat) (smp : Sample)
  /-- SIGMA_DELTA_OUTPUT (R58). -/
  | sigmaDeltaOutput (k : Nat) (bits : List Bool) (age : Nat)
  /-- SD_FAULT (R62). -/
  | sdFault (k : Nat)
  /-- SD_VALIDITY_RETURN (R62). -/
  | sdValidityReturn (k : Nat)
  /-- SAMPLED_VALUE_MESSAGE (R64). -/
  | sampledValueMessage (m : SvMessage)
  /-- CROSSING_TIMEOUT (R79). -/
  | crossingTimeout (t : Nat)
  /-- BLACK_START_REQUEST_EDGE (R153). -/
  | blackStartRequestEdge (obs : WakeObs)
  /-- SYNC_COMPARE_ARMED (R156). -/
  | syncCompareArmed
  /-- SYNC_ABORT (R159). -/
  | syncAbort
  /-- SYNC_FAIL (R160). -/
  | syncFail
  /-- LIMITED_RETURN (R150). -/
  | limitedReturn
  /-- REFRESH_DUE (R199). -/
  | refreshDue (c : Nat)
  /-- REFRESH_OVERDUE (R201). -/
  | refreshOverdue (c : Nat)
  /-- GATE_SUPPLY_LOW (R202). -/
  | gateSupplyLow (c : Nat)
  /-- STATUS_STALE (R196). -/
  | statusStale (c : Nat)
  /-- CRIHEL_RETURN_FRAME (R235). -/
  | crihelReturnFrame (p : Nat) (bytes : List Byte)
  /-- RETURN_FRAME_MISSING (R260). -/
  | returnFrameMissing (p : Nat)
  /-- LINK_LOSS (R261). -/
  | linkLoss (p : Nat)
  /-- MESSAGE_REPLY (R256). -/
  | messageReply (p : Nat) (m : Msg)
  /-- MSG_TIMEOUT (R256). -/
  | msgTimeout (p : Nat) (seq : Nat)
  /-- NEST_DOWN (R270). -/
  | nestDown (port : Nat) (bytes : List Byte) (off : Int)
  /-- NEST_UP (R272). -/
  | nestUp (port : Nat) (bytes : List Byte)
  /-- NEST_LOSS (R289). -/
  | nestLoss (link : Nat)
  /-- SOURCE_RAISED (R292). -/
  | sourceRaised (k : Nat)
  /-- SOURCE_CLEARED (R292). -/
  | sourceCleared (k : Nat)
  /-- PAIR_FORMATION (R329). -/
  | pairFormation (partner : Option PairInfo)
  /-- VECTOR (R335). -/
  | vector (b : TBlk) (v : Vec)
  /-- EXCEPTION (R334). -/
  | exception (b : TBlk) (port : Nat) (slots : List Slot) (nestBytes : List Byte)
  /-- SEAL (R332). -/
  | seal (b : TBlk) (lepoch : Nat)
  /-- SEAL_MISSING (R343). -/
  | sealMissing (chainSeen : Bool)
  /-- DIGESTS (R334). -/
  | digests (b : TBlk) (ports : List (Nat × Nat))
  /-- HB (R341). -/
  | hb (b : TBlk) (lepoch : Nat) (ready : Bool) (own : Bool)
  /-- OUT_DIGEST (R337). -/
  | outDigest (b : TBlk) (dig : Nat)
  /-- FAIL (R342). -/
  | fail (b : TBlk) (src : Nat)
  /-- SWAP (R353). -/
  | swap (b : TBlk) (atF : Nat)
  /-- STATE (R338). -/
  | state (b : TBlk) (slice : List Byte) (last : Bool)
  /-- RELAY (R245). -/
  | relay (b : TBlk) (port : Nat) (ttrav : Option Nat) (slots : List (Nat × Slot))
  /-- PARTNER_FAILED (R342). -/
  | partnerFailed
  /-- HEARTBEAT_PATH_LOST (R344). -/
  | heartbeatPathLost (chain : Bool)
  /-- RESYNC_COMPLETE (R338). -/
  | resyncComplete (dig : Nat)
  /-- RESYNC_GIVEUP (R340). -/
  | resyncGiveup
  /-- SWAP_PERIOD_ELAPSED (R353). -/
  | swapPeriodElapsed
  /-- SAFETY_CYCLE (R359). -/
  | safetyCycle (b : Bool) (obs : HdgObs)
  /-- CROSS_LINK_MESSAGE (R360). -/
  | crossLinkMessage (b : Bool) (m : Option XMsg)
  /-- XCMP_FAULT (R360). -/
  | xcmpFault (b : Bool)
  /-- CLOCK_FAULT (R361). -/
  | clockFault (b : Bool) (dev : Int)
  /-- FUNCTION_RAISED (R364). -/
  | functionRaised (b : Bool) (f : Nat)
  /-- SAFE_STOP_DELAY_END (R368). -/
  | safeStopDelayEnd
  /-- DISC_FAULT (R374). -/
  | discFault (k : Nat)
  /-- OUTPUT_PAIR_TEST (R382). -/
  | outputPairTest (so : Nat) (obs : PairObs)
  /-- RECORD_COMPLETE (R410). -/
  | recordComplete
  /-- RECORD_WRITTEN (R410). -/
  | recordWritten
  /-- PRE_TRIGGER_FILLED (R400). -/
  | preTriggerFilled
  /-- HOLDOFF_END (R402). -/
  | holdoffEnd
  /-- MEMORY_RESERVED (R400). -/
  | memoryReserved
  /-- PLL_LOCK (R421). -/
  | pllLock (p : Pll)
  /-- PLL_LOSS (R424). -/
  | pllLoss (p : Pll)
  /-- PLL_RELOCK (R426). -/
  | pllRelock (p : Pll)
  /-- REF_FALLBACK (R417). -/
  | refFallback (count : Nat)
  /-- REFIN_LOST (R416). -/
  | refinLost
  /-- REFIN_RESUME (R416). -/
  | refinResume
  /-- PTP_MESSAGE (R436). -/
  | ptpMessage (m : PtpMsg)
  /-- IRIGB_FRAME (R437). -/
  | irigbFrame (m : IrigCode) (withPps : Bool)
  /-- PPS_IN_EDGE (R438). -/
  | ppsInEdge (m : TimeMeas)
  /-- TIME_SOURCE_LOST (R428). -/
  | timeSourceLost (src : Nat)
  /-- TIME_LOCKED (R429). -/
  | timeLocked
  /-- HOLDOVER_EXPIRED (R434). -/
  | holdoverExpired
  /-- LEAP_SECOND (R437). -/
  | leapSecond
  /-- PPS_OUT (R439). -/
  | ppsOut (rise : Bool)
  /-- POWER_UP (R441). -/
  | powerUp (slot : Nat) (strapped : Bool) (vbatOk : Bool) (secs : Nat) (boots : List Bool)
  /-- POWER_FAIL (R444). -/
  | powerFail
  /-- PERST_N (R562). -/
  | perstN
  /-- WAKE_INPUT_EDGE (R442). -/
  | wakeInputEdge (obs : WakeObs)
  /-- COLD_WAKE_RELEASE (R574). -/
  | coldWakeRelease (obs : WakeObs)
  /-- IDENTITY_RETRY (R492). -/
  | identityRetry (obs : WakeObs)
  /-- SELF_TEST_SLICE_END (R501). -/
  | selfTestSliceEnd (r : SliceRes)
  /-- SLICE_TIMEOUT (R500). -/
  | sliceTimeout
  /-- MB_DOORBELL (R451). -/
  | mbDoorbell (ch : Nat) (v : Word)
  /-- ABORT (R453). -/
  | abort (ch : Nat)
  /-- DONE_CLEAR (R451). -/
  | doneClear (ch : Nat)
  /-- REQUEST_START (R461). -/
  | requestStart
  /-- E1_CONNECTION_OPEN (R454). -/
  | e1ConnectionOpen (ch : Nat)
  /-- E1_CONNECTION_CLOSE (R454). -/
  | e1ConnectionClose (ch : Nat)
  /-- E1_REQUEST (R454). -/
  | e1Request (ch : Nat) (bytes : List Byte)
  /-- SESSION_IDLE_TIMEOUT (R459). -/
  | sessionIdleTimeout (ch : Nat)
  /-- AUTH_LOCKOUT_END (R457). -/
  | authLockoutEnd (ch : Nat)
  /-- LOAD_LEVEL_CHANGE (R477). -/
  | loadLevelChange (util : Nat)
  /-- SYS_FRAME_LO_READ (R450). -/
  | sysFrameLoRead
  /-- SYS_TAI_LO_READ (R450). -/
  | sysTaiLoRead
  /-- RC_REGISTER_READ (R8). -/
  | rcRegisterRead (ofs : Nat)
  /-- SNP_CTRL_ENABLE (R471). -/
  | snpCtrlEnable (v : Word)
  /-- REGISTER_WRITE (R7). -/
  | registerWrite (ofs : Nat) (v : Word)
  /-- GET_INFO (R456). -/
  | getInfo (ch : Nat)
  /-- OPEN_SESSION (R456). -/
  | openSession (ch : Nat)
  /-- AUTH_SESSION (R456). -/
  | authSession (ch : Nat)
  /-- CLOSE_SESSION (R459). -/
  | closeSession (ch : Nat)
  /-- READ_PARAM (R465). -/
  | readParam (ch : Nat)
  /-- WRITE_PARAM (R466). -/
  | writeParam (ch : Nat)
  /-- BANK_WRITE (R116). -/
  | bankWrite (ch : Nat) (bank : Nat) (addr : Nat) (ws : List Word)
  /-- BANK_READ (R597). -/
  | bankRead (ch : Nat) (bank : Nat) (addr : Nat) (n : Nat)
  /-- BANK_SWAP (R118). -/
  | bankSwap (ch : Nat) (crc : Word) (target : Option Nat)
  /-- BANK_CANCEL (R120). -/
  | bankCancel (ch : Nat)
  /-- DEBLOCK (R494). -/
  | deblock (ch : Nat)
  /-- HALT (R495). -/
  | halt (ch : Nat)
  /-- SLEEP (R496). -/
  | sleep (ch : Nat)
  /-- WAKE (R442). -/
  | wake (ch : Nat) (obs : WakeObs)
  /-- IMAGE_BEGIN (R482). -/
  | imageBegin (ch : Nat) (kind : Nat) (len : Nat)
  /-- IMAGE_BLOCK (R482). -/
  | imageBlock (ch : Nat) (ofs : Nat) (bytes : List Byte)
  /-- IMAGE_COMMIT (R482). -/
  | imageCommit (ch : Nat) (sha : List Byte)
  /-- IMAGE_SELECT (R485). -/
  | imageSelect (ch : Nat) (fw : Bool) (slotB : Bool) (activate : Bool)
  /-- SNAPSHOT_NOW (R472). -/
  | snapshotNow (ch : Nat)
  /-- SNAPSHOT_FAST (R475). -/
  | snapshotFast (ch : Nat) (ids : List (Pid × Nat))
  /-- RECORD_LIST (R410). -/
  | recordList (ch : Nat)
  /-- RECORD_EXPORT (R411). -/
  | recordExport (ch : Nat) (num : Nat) (file : Nat) (ofs : Nat) (n : Nat)
  /-- RECORD_DELETE (R519). -/
  | recordDelete (ch : Nat) (num : Nat)
  /-- LOG_READ (R512). -/
  | logRead (ch : Nat) (fromSeq : Nat) (n : Nat)
  /-- GU_FW_LOAD (R257). -/
  | guFwLoad (ch : Nat) (ofs : Nat) (bytes : List Byte)
  /-- GU_FW_START (R257). -/
  | guFwStart (ch : Nat) (cells : List Nat)
  /-- BRAMBLE_RESET (R303). -/
  | brambleReset (ch : Nat)
  /-- RE_ADMIT_CELL (R590). -/
  | reAdmitCell (ch : Nat) (c : Nat)
  /-- COMMIT (R208). -/
  | commit (ch : Nat) (mask : Nat)
  /-- TEST_MODE (R219). -/
  | testMode (ch : Nat) (on : Bool)
  /-- MODE_REQUEST (R151). -/
  | modeRequest (ch : Nat) (m : Nat)
  /-- COMPARE_ARM (R83). -/
  | compareArm (ch : Nat) (t : Nat) (on : Bool)
  /-- REJOIN (R253). -/
  | rejoin (ch : Nat) (port : Nat)
  /-- RESYNCHRONISE (R340). -/
  | resynchronise (ch : Nat)
  /-- SWAP_NOW (R353). -/
  | swapNow (ch : Nat)
  /-- RECORDER_ARM (R404). -/
  | recorderArm (ch : Nat) (on : Bool)
  /-- MANUAL_TRIGGER (R399). -/
  | manualTrigger (ch : Nat)
  /-- SCRUB_NOW (R522). -/
  | scrubNow (ch : Nat)
  /-- OUTPUT_FAULT_RESET (R549). -/
  | outputFaultReset (ch : Nat) (mask : Nat)
  /-- HOST_RESET (R376). -/
  | hostReset (ch : Nat)
  /-- SET_TIME (R438). -/
  | setTime (ch : Nat) (tai : Int)
  /-- JOURNAL_COMMIT (R524). -/
  | journalCommit
  /-- AUDIT_PAGE_WRITE (R526). -/
  | auditPageWrite
  /-- SCRUB_READ (R521). -/
  | scrubRead (pg : PageObs)
  /-- PROGRAM_ERASE_FAILURE (R517). -/
  | programEraseFailure (block : Nat) (isErase : Bool)
  /-- UNCORRECTABLE (R530). -/
  | uncorrectable (part : Nat) (bothCopies : Bool) (item : Nat) (last : Nat)
  /-- FIELD_FRAME (R538). -/
  | fieldFrame (f : FieldObs)
  /-- INPUT_LEVEL_CHANGE (R542). -/
  | inputLevelChange (k : Nat) (high : Bool)
  /-- WIRE_BREAK (R543). -/
  | wireBreak (k : Nat)
  /-- WIRE_BREAK_CLEARED (R543). -/
  | wireBreakCleared (k : Nat)
  /-- THERMAL_SHUTDOWN (R548). -/
  | thermalShutdown (o : Nat)
  /-- OUTPUT_FAULT (R549). -/
  | outputFault (o : Nat) (f : OutFault) (present : Bool)
  /-- FIELD_TEST_PULSE (R552). -/
  | fieldTestPulse (o : Nat) (obs : PulseObs)
  /-- LOGIC_SILENCE (R555). -/
  | logicSilence
  /-- FIELD_FRAMES_RETURN (R556). -/
  | fieldFramesReturn
  /-- LPLUS_MONITOR (R558). -/
  | lplusMonitor
  /-- SFP_INSERT_REMOVE (R565). -/
  | sfpInsertRemove (e2 : Bool) (present : Bool) (fault : Bool)
  /-- TEMPERATURE_THRESHOLD (R573). -/
  | temperatureThreshold (t : F32)
  /-- COMPARE_OUTPUT_PULSE_END (R88). -/
  | compareOutputPulseEnd (t : Nat)
  /-- OUTPUT_THERMAL_RESTART (R548). -/
  | outputThermalRestart (o : Nat)
  /-- FIRMWARE_WATCHDOG (R487). -/
  | firmwareWatchdog
  /-- SUSTO_WORKS_PROCEDURE (R507). -/
  | sustoWorksProcedure (key0 : Nat) (cred0 : Nat)
deriving DecidableEq, Repr

end Sys2Proof
end

