-- ==== Sys2Proof/Machine/State.lean ====
section
/-!
DEFINITION. The state of the XZG512 module: every register, store, queue, counter, mode and pin as plain data, and the state
right after reset. Each field names the rule of spec/ that gives it; INVENTORY.md lists the reset values.
-/
namespace Sys2Proof.Machine
open Sys2Proof

/-- The ways a command could stop the module. No meaning of this model ends in one: every command has an effect, or none. -/
inductive Fault where
  /-- Raised by no command: kept so that the interface has a fault type. Safe: nothing raises it. -/
  | unused
deriving DecidableEq, Repr

/-- The ways a command could be turned away by the model. -/
inductive Refusal where
  /-- Raised by an arm of Dispatch whose command has no meaning yet. Safe: the run stops there. -/
  | notModelled (mnemonic : String)
deriving DecidableEq, Repr

/-- Clocks and station time (12_clocks_time_power.md, 01_converter_tree.md). -/
structure Clk where
  /-- R25. -/
  frame : Nat
  /-- R596, station time. -/
  tai : Nat
  /-- station time fraction, chapter 12. -/
  frac : Nat
  /-- R429, DIA.201. -/
  tstate : TState
  /-- R428, DIA.201. -/
  source : Nat
  /-- R429, R432. -/
  rho : Int
  /-- R429 (rate of the last 64 s: start ns and ppb, newest first). -/
  rhoH : List (Nat × Int)
  /-- DIA.202. -/
  offset : Int
  /-- R429. -/
  good : Nat
  /-- R430 (first measurement after entering ACQUIRING is still to come). -/
  fresh : Bool
  /-- R431. -/
  stepPending : Bool
  /-- R432. -/
  rateLimited : Bool
  /-- DIA.203. -/
  stateSince : Nat
  /-- R428 (last valid time per source). -/
  srcSeen : List (Option Nat)
  /-- R437, TIM.031 default. -/
  utcOff : Int
  /-- DIA.201 [8]. -/
  utcValid : Bool
  /-- R437. -/
  leapPending : Bool
  /-- R437 (announced). -/
  leapArmed : Bool
  /-- TIM.050, R438. -/
  setTai : Option Int
  /-- DIA.206. -/
  master : Nat
  /-- R437 (offset that the newest IRIG-B frame with PPS_IN gave). -/
  irigOff : Int
  /-- R428, R436 (master heard on E1 and E2 and its rank in the best master clock algorithm). -/
  ptpM : List (Nat × List Nat)
  /-- DIA.206. -/
  masterE2 : Bool
  /-- R417. -/
  refFallback : Bool
  /-- R416. -/
  refinLocked : Bool
  /-- R416 (OCXO tuning held). -/
  tuneHeld : Bool
  /-- R414 PLL-C powered. -/
  powC : Bool
  /-- R414 PLL-L powered. -/
  powL : Bool
  /-- R414 PLL-H powered. -/
  powH : Bool
  /-- DIA.200 [1]. -/
  lockC : Bool
  /-- DIA.200 [2]. -/
  lockL : Bool
  /-- DIA.200 [3]. -/
  lockH : Bool
  /-- DIA.200 [5]. -/
  backC : Bool
  /-- DIA.200 [6]. -/
  backL : Bool
  /-- DIA.200 [7]. -/
  backH : Bool
  /-- DIA.204. -/
  lossN : List Nat
  /-- R424, R426 (PLL_LOSS stands per PLL C, L, H). -/
  pllStand : List Bool
  /-- R427 (source running). -/
  cko : List Nat
  /-- R427. -/
  ckoFmt : List Nat
  /-- R439. -/
  ppsHigh : Bool
  /-- R439. -/
  ppsRise : Nat
  /-- R446 (AO TAI seconds count). -/
  aoSec : Nat
  /-- DIA.205. -/
  vbatMv : Nat
  /-- DIA.205. -/
  v24Mv : Nat
  /-- DIA.200 [22]. -/
  vbatLow : Bool
deriving DecidableEq, Repr

/-- Clk at reset. -/
def Clk.reset : Clk where
  frame := 0
  tai := 0
  frac := 0
  tstate := .free
  source := 0
  rho := 0
  rhoH := []
  offset := 0
  good := 0
  fresh := false
  stepPending := false
  rateLimited := false
  stateSince := 0
  srcSeen := List.replicate 6 none
  utcOff := 37
  utcValid := false
  leapPending := false
  leapArmed := false
  setTai := none
  master := 0
  irigOff := 0
  ptpM := [(0, []), (0, [])]
  masterE2 := false
  refFallback := false
  refinLocked := false
  tuneHeld := true
  powC := false
  powL := false
  powH := false
  lockC := false
  lockL := false
  lockH := false
  backC := false
  backL := false
  backH := false
  lossN := [0, 0, 0]
  pllStand := [false, false, false]
  cko := [0, 0]
  ckoFmt := [0, 0]
  ppsHigh := false
  ppsRise := 0
  aoSec := 0
  vbatMv := 3000
  v24Mv := 0
  vbatLow := false

/-- One analog input (02_measurement_and_angle.md). -/
structure AIn where
  /-- R48, R50, R53 (conversions completed in the present frame, newest first: instant, odd converter, code). -/
  acc : List (Nat × Bool × Int)
  /-- R53 (the latest conversion is the odd converter's). -/
  odd : Bool
  /-- R54. -/
  code : Int
  /-- R46 (sampling instant of the latest sample). -/
  stamp : Nat
  /-- R582 (a conversion has completed since the transition). -/
  live : Bool
  /-- R50 (delivered mean or value). -/
  dMean : F32
  /-- R50 (delivered latest). -/
  dLatest : F32
  /-- R46, R73 (instant the delivered value describes). -/
  dStamp : Nat
  /-- R90 (a conversion delivered at the boundary reached either end of its range). -/
  dOvr : Bool
  /-- R57 (trigger delay before the newest change, 10 ns). -/
  dlyOld : Nat
  /-- R57 (frame of the boundary at which the newest change took effect). -/
  dlyF : Nat
  /-- R582 (delivered validity). -/
  dValid : Bool
deriving DecidableEq, Repr

/-- AIn at reset. -/
def AIn.reset : AIn where
  acc := []
  odd := false
  code := 0
  stamp := 0
  live := false
  dMean := 0
  dLatest := 0
  dStamp := 0
  dOvr := false
  dlyOld := 0
  dlyF := 0
  dValid := false

/-- One sigma-delta input. -/
structure SdIn where
  /-- R58 (integrators of the sinc filter). -/
  integ : List Int
  /-- R58 (comb delays). -/
  comb : List Int
  /-- R59 (normalised output). -/
  y : F32
  /-- R61. -/
  age : Nat
  /-- R582 (outputs since the transition). -/
  outs : Nat
  /-- R62. -/
  fault : Bool
  /-- R62, R582 (outputs still to pass before the value is valid). -/
  settle : Nat
  /-- R61 (delivered). -/
  dX : F32
  /-- R61. -/
  dAge : Nat
  /-- R582. -/
  dValid : Bool
deriving DecidableEq, Repr

/-- SdIn at reset. -/
def SdIn.reset : SdIn where
  integ := []
  comb := []
  y := 0
  age := 0
  outs := 0
  fault := false
  settle := 0
  dX := 0
  dAge := 0
  dValid := false

/-- One sampled-value stream. -/
structure SvIn where
  /-- R65, R66 (sample time in 2^-16 ns over f_nom x spc, sample, smpSynch; oldest first). -/
  buf : List (Int × SvSample × Nat)
  /-- R69 (instant last resampled). -/
  lastT : Int
  /-- R66, R67. -/
  dVal : List F32
  /-- R67. -/
  dOk : List Bool
  /-- DIA.020. -/
  misRev : Nat
  /-- DIA.021. -/
  invalid : Nat
  /-- DIA.022. -/
  late : Nat
deriving DecidableEq, Repr

/-- SvIn at reset. -/
def SvIn.reset : SvIn where
  buf := []
  lastT := 0
  dVal := List.replicate 8 0
  dOk := List.replicate 8 false
  misRev := 0
  invalid := 0
  late := 0

/-- Measurement inputs (02_measurement_and_angle.md). -/
structure Meas where
  /-- R46 to R57. -/
  ai : List AIn
  /-- R58 to R63. -/
  sd : List SdIn
  /-- R64 to R69. -/
  sv : List SvIn
deriving DecidableEq, Repr

/-- Meas at reset. -/
def Meas.reset : Meas where
  ai := List.replicate 24 AIn.reset
  sd := List.replicate 8 SdIn.reset
  sv := List.replicate 8 SvIn.reset

/-- The latched set of a tracker (R82, R90). -/
structure TSet where
  /-- DIA.040. -/
  theta : Angle
  /-- DIA.041 (whole ns), R73. -/
  ts : Int
  /-- DIA.042, R78. -/
  freq : F32
  /-- DIA.043. -/
  mag : F32
  /-- DIA.044 [0]. -/
  valid : Bool
  /-- DIA.044 [1]. -/
  seqNeg : Bool
  /-- DIA.044 [2]. -/
  magLow : Bool
  /-- DIA.044 [8]. -/
  armed : Bool
  /-- DIA.044 [12]. -/
  inBad : Bool
  /-- DIA.044 [31:16]. -/
  xcount : Nat
deriving DecidableEq, Repr

/-- TSet at reset. -/
def TSet.reset : TSet where
  theta := 0
  ts := 0
  freq := 0
  mag := 0
  valid := false
  seqNeg := false
  magLow := true
  armed := false
  inBad := false
  xcount := 0

/-- One grid angle tracker. -/
structure Trk where
  /-- R82. -/
  set : TSet
  /-- R76 (a previous frame with its angle exists). -/
  prevOk : Bool
  /-- R76 (magnitude at least ANG.007 in the previous frame). -/
  prevMag : Bool
  /-- R76 (inputs valid in the previous frame). -/
  prevIn : Bool
  /-- R75. -/
  lastMark : Option (Nat × Bool)
  /-- R76 (instant of the previous qualifying crossing). -/
  lastX : Option Int
  /-- R77 (intervals in the present sense). -/
  ivs : List Int
  /-- R78 (qualifying crossings in the present sense). -/
  inSense : Nat
  /-- R79 (start of the timeout). -/
  sinceX : Nat
  /-- R83, R85 (first evaluation after arming or a target write is still to come). -/
  evalDue : Bool
  /-- R88 (boundary at which the action issues). -/
  action : Option Nat
  /-- R88, ANG.025 (field output held on until then). -/
  pulseEnd : Option Nat
  /-- DIA.045. -/
  actionTai : Nat
  /-- R88 (recorded crossing instant). -/
  crossTai : Int
deriving DecidableEq, Repr

/-- Trk at reset. -/
def Trk.reset : Trk where
  set := TSet.reset
  prevOk := false
  prevMag := false
  prevIn := false
  lastMark := none
  lastX := none
  ivs := []
  inSense := 0
  sinceX := 0
  evalDue := false
  action := none
  pulseEnd := none
  actionTai := 0
  crossTai := 0

/-- One run of a rate group (R96, R102). -/
structure Run where
  /-- R102 (outputs not yet published). -/
  outs : List (List Word)
  /-- R102 (next states). -/
  sts : List (List Word)
  /-- R93. -/
  numeric : List Nat
  /-- R31 (boundary at which inputs were latched). -/
  startF : Nat
  /-- R96. -/
  dueF : Nat
  /-- R94 (an uncorrectable word was read). -/
  bad : Bool
  /-- R114 (a clamp pair was inverted). -/
  inv : Bool
deriving DecidableEq, Repr

/-- Run at reset. -/
def Run.reset : Run where
  outs := []
  sts := []
  numeric := []
  startF := 0
  dueF := 0
  bad := false
  inv := false

/-- The loop engine (03_loop_engine.md). -/
structure Eng where
  /-- R96, R585. -/
  outs : List (List Word)
  /-- R585. -/
  sts : List (List Word)
  /-- R96, R102. -/
  runs : List (Option Run)
  /-- DIA.060 CTRL_RUN. -/
  conRun : Nat
  /-- DIA.060 FRAME_RUN. -/
  frmRun : Nat
  /-- R104 (frame group). -/
  loopF : Bool
  /-- R104 (control group). -/
  loopC : Bool
  /-- R94 (condition of ENGINE_FAULT per group). -/
  badGrp : List Bool
  /-- R94 (the present run has read an uncorrectable word). -/
  readBad : List Bool
  /-- DIA.065. -/
  totals : List Nat
  /-- DIA.061 to DIA.064. -/
  spans : List Nat
  /-- DIA.066. -/
  numericN : Nat
  /-- DIA.067 (0xFFFF when none). -/
  numericI : Nat
  /-- DIA.068. -/
  corrected : Nat
  /-- DIA.060 LANE_OK. -/
  laneOk : Nat
  /-- DIA.060 [5]. -/
  degraded : Bool
  /-- DIA.060 ACTIVE_BANK. -/
  actB : Bool
  /-- chapter 03, coefficient banks. -/
  bankA : List Word
  /-- chapter 03, coefficient banks. -/
  bankB : List Word
  /-- R119 (boundary of a pending swap). -/
  swapAt : Option Nat
  /-- R101 (bank latched by the background group). -/
  bgB : Bool
  /-- R586 (start of the running background run). -/
  bgStart : Option Nat
  /-- R586 (start of the previous one). -/
  bgPrev : Option Nat
  /-- R96 (ended, not yet published). -/
  bgEnded : Bool
  /-- R106 (this run has been found late). -/
  bgLate : Bool
  /-- R176 (the control group has published since the program was loaded). -/
  ctlPub : Bool
  /-- R31 (state epoch of the control group's published outputs). -/
  ctlEp : Option Nat
deriving DecidableEq, Repr

/-- Eng at reset. -/
def Eng.reset : Eng where
  outs := []
  sts := []
  runs := List.replicate 4 none
  conRun := 0
  frmRun := 0
  loopF := false
  loopC := false
  badGrp := [false, false, false, false]
  readBad := [false, false, false, false]
  totals := [0, 0, 0]
  spans := [0, 0, 0, 0]
  numericN := 0
  numericI := 65535
  corrected := 0
  laneOk := 15
  degraded := false
  actB := false
  bankA := List.replicate 8192 0
  bankB := List.replicate 8192 0
  swapAt := none
  bgB := false
  bgStart := none
  bgPrev := none
  bgEnded := false
  bgLate := false
  ctlPub := false
  ctlEp := none

/-- State of the kernel's blocks and mode manager, double-buffered (04_grid_forming_kernel.md). -/
structure KCore where
  /-- R148. -/
  mode : KMode
  /-- R150. -/
  ret : KMode
  /-- R148 (LIMITED was entered from SYNC: EMF as in SYNC). -/
  fromS : Bool
  /-- DIA.081. -/
  entered : Nat
  /-- R136 (speed deviation). -/
  dw : F32
  /-- kernel angle. -/
  th : Angle
  /-- RATELIM of GFM.010. -/
  pr : F32
  /-- R154 (EMF ramp). -/
  ef : F32
  /-- R141 voltage loop PI, d. -/
  vd : F32
  /-- R141 voltage loop PI, q. -/
  vq : F32
  /-- R141 negative-sequence PI, d. -/
  nd : F32
  /-- R141 negative-sequence PI, q. -/
  nq : F32
  /-- R144 current loop PI, d. -/
  cd : F32
  /-- R144 current loop PI, q. -/
  cq : F32
  /-- R144 negative-sequence current PI, d. -/
  md : F32
  /-- R144 negative-sequence current PI, q. -/
  mq : F32
  /-- DDSRF filter states of v and i. -/
  dds : List F32
  /-- PQ filter, P. -/
  pf : F32
  /-- PQ filter, Q. -/
  qf : F32
  /-- R137 filter. -/
  wref : F32
  /-- R149 No. 4. -/
  nRet : Nat
  /-- R156. -/
  matchN : Nat
  /-- DIA.080 [11]. -/
  matched : Bool
  /-- R159 (held synchronising speed). -/
  synW : F32
  /-- R159 (held synchronising voltage). -/
  synV : F32
  /-- R149 No. 6, GFM.077. -/
  badSince : Option Nat
  /-- R149 No. 9, GFM.064. -/
  deadSince : Option Nat
  /-- R149 No. 5 (breaker-closed input at the previous boundary). -/
  brkPrev : Bool
  /-- R166 blend length used. -/
  blN : Nat
  /-- R166 samples since the transition. -/
  blK : Nat
  /-- R166 offset of the angle. -/
  oT : Int
  /-- R166. -/
  oUd : F32
  /-- R166. -/
  oUq : F32
  /-- R166. -/
  oId : F32
  /-- R166. -/
  oIq : F32
deriving DecidableEq, Repr

/-- KCore at reset. -/
def KCore.reset : KCore where
  mode := .idle
  ret := .forming
  fromS := false
  entered := 0
  dw := 0
  th := 0
  pr := 0
  ef := 0
  vd := 0
  vq := 0
  nd := 0
  nq := 0
  cd := 0
  cq := 0
  md := 0
  mq := 0
  dds := List.replicate 8 0
  pf := 0
  qf := 0
  wref := 0
  nRet := 0
  matchN := 0
  matched := false
  synW := 0
  synV := 0
  badSince := none
  deadSince := none
  brkPrev := false
  blN := 0
  blK := 0
  oT := 0
  oUd := 0
  oUq := 0
  oId := 0
  oIq := 0

/-- Kernel outputs of one control sample (R133, R172). -/
structure KOut where
  /-- R133 u_abc. -/
  ua : F32
  /-- R133. -/
  ub : F32
  /-- R133. -/
  uc : F32
  /-- DIA.083. -/
  th : Angle
  /-- DIA.082. -/
  w : F32
  /-- DIA.084. -/
  e : F32
  /-- R166 u, d. -/
  ud : F32
  /-- R166 u, q. -/
  uq : F32
  /-- R166 unlimited reference, d. -/
  rd : F32
  /-- R166 unlimited reference, q. -/
  rq : F32
  /-- R143 limited reference, positive sequence d. -/
  ld : F32
  /-- R143 limited reference, positive sequence q. -/
  lq : F32
  /-- R143 limited reference, negative sequence d. -/
  lnd : F32
  /-- R143 limited reference, negative sequence q. -/
  lnq : F32
  /-- R146. -/
  pdc : F32
  /-- DIA.085. -/
  p : F32
  /-- DIA.085. -/
  q : F32
  /-- DIA.086. -/
  iu : F32
  /-- DIA.087. -/
  slip : Angle
  /-- DIA.080 [5]. -/
  active : Bool
  /-- DIA.080 [6]. -/
  limitOn : Bool
  /-- DIA.080 [10]. -/
  angHold : Bool
  /-- DIA.080 [9]. -/
  trkBad : Bool
  /-- R172. -/
  epoch : Nat
  /-- DIA.080 [12] as written with the set, R172. -/
  synArm : Bool
deriving DecidableEq, Repr

/-- KOut at reset. -/
def KOut.reset : KOut where
  ua := 0
  ub := 0
  uc := 0
  th := 0
  w := 0
  e := 0
  ud := 0
  uq := 0
  rd := 0
  rq := 0
  ld := 0
  lq := 0
  lnd := 0
  lnq := 0
  pdc := 0
  p := 0
  q := 0
  iu := 0
  slip := 0
  active := false
  limitOn := false
  angHold := false
  trkBad := false
  epoch := 0
  synArm := false

/-- Inputs the kernel latched at a control boundary (R133, R149). -/
structure KLatch where
  /-- R133. -/
  va : F32
  /-- R133. -/
  vb : F32
  /-- R133. -/
  vc : F32
  /-- R133. -/
  ia : F32
  /-- R133. -/
  ib : F32
  /-- R133. -/
  ic : F32
  /-- R133. -/
  vdc : F32
  /-- R133 terminal tracker. -/
  ter : TSet
  /-- R133 sync tracker. -/
  syn : TSet
  /-- R133 breaker closed. -/
  brk : Bool
  /-- R133 CONV_DEBLOCKED. -/
  debl : Bool
  /-- R149 boundary. -/
  f : Nat
  /-- R149. -/
  tai : Nat
deriving DecidableEq, Repr

/-- KLatch at reset. -/
def KLatch.reset : KLatch where
  va := 0
  vb := 0
  vc := 0
  ia := 0
  ib := 0
  ic := 0
  vdc := 0
  ter := TSet.reset
  syn := TSet.reset
  brk := false
  debl := false
  f := 0
  tai := 0

/-- A kernel run in progress: what its publication commits (R96, R149, R152). -/
structure KNext where
  /-- R96. -/
  core : KCore
  /-- R172. -/
  out : KOut
  /-- R149 transition taken. -/
  trans : Option Nat
  /-- R167. -/
  forced : Bool
  /-- R173 blend length used. -/
  nb : Nat
  /-- R173 the three offsets (counts, bits of u and of the current reference). -/
  offs : List Int
  /-- R151 the request was evaluated. -/
  reqDone : Bool
  /-- R152 reason code, 0 none. -/
  refuse : Nat
  /-- R161. -/
  unsync : Bool
  /-- R93 (kernel instances with a non-finite result in this run). -/
  num : List Nat
deriving DecidableEq, Repr

/-- KNext at reset. -/
def KNext.reset : KNext where
  core := KCore.reset
  out := KOut.reset
  trans := none
  forced := false
  nb := 0
  offs := []
  reqDone := false
  refuse := 0
  unsync := false
  num := []

/-- The grid-forming kernel (04_grid_forming_kernel.md). -/
structure Kern where
  /-- R148 to R166. -/
  core : KCore
  /-- R172, as last published. -/
  out : KOut
  /-- R149. -/
  lat : KLatch
  /-- R96, R149 (run in progress). -/
  next : Option KNext
  /-- DIA.080 [12]. -/
  synArm : Bool
  /-- R160 (no arming until GFM.001 is written). -/
  synHold : Bool
  /-- R160 (instant at which the compare fired). -/
  fired : Option Nat
  /-- R151. -/
  req : Option KMode
  /-- R151 (the request that the run in progress has evaluated). -/
  reqLat : Option KMode
  /-- R153. -/
  bsEdge : Bool
  /-- R149 No. 4 selected. -/
  due4 : Bool
  /-- R149 No. 6 selected. -/
  due6 : Bool
  /-- DIA.088. -/
  counts : List Nat
  /-- DIA.089. -/
  reason : Nat
  /-- R167 GFM_JUMP. -/
  jump : Bool
deriving DecidableEq, Repr

/-- Kern at reset. -/
def Kern.reset : Kern where
  core := KCore.reset
  out := KOut.reset
  lat := KLatch.reset
  next := none
  synArm := false
  synHold := false
  fired := none
  req := none
  reqLat := none
  bsEdge := false
  due4 := false
  due6 := false
  counts := List.replicate 11 0
  reason := 0
  jump := false

/-- One submodule channel: its cell, exclusion, PWM unit and ledger account (chapters 05, 06, 07). -/
structure Cell where
  /-- topology section, R479. -/
  conf : Bool
  /-- topology section. -/
  arm : Nat
  /-- topology section. -/
  port : Nat
  /-- topology section. -/
  pos : Nat
  /-- topology section. -/
  fb : Bool
  /-- topology section. -/
  ratedV : Nat
  /-- R258 identity record. -/
  capUF : Nat
  /-- R258 identity record. -/
  serial : Nat
  /-- R593. -/
  gain : F32
  /-- R593. -/
  off : F32
  /-- R593. -/
  tempco : F32
  /-- R246. -/
  hold : Nat
  /-- R593. -/
  vcap : Nat
  /-- a usable status has been latched, R284. -/
  seen : Bool
  /-- usable status in the latest frame, R235. -/
  fresh : Bool
  /-- R196 STATUS_STALE count. -/
  noStat : Nat
  /-- STATUS_STALE clears after 16. -/
  goodStat : Nat
  /-- R202, DIA.101 [18]. -/
  gsLow : Bool
  /-- R202 (frame of the first low report). -/
  gsSince : Option Nat
  /-- R234 BYP_CLOSED. -/
  byp : Bool
  /-- R234 STATE. -/
  stRep : CellCmd
  /-- R234 LOOPBACK. -/
  loopb : Bool
  /-- R234 ONWARD_SYNC. -/
  onward : Bool
  /-- R316 flag outside blanking in the latest latch. -/
  desat : Bool
  /-- R316 flag within blanking in the latest latch. -/
  desatB : Bool
  /-- DIA.165. -/
  desatN : Nat
  /-- DIA.165. -/
  desatBN : Nat
  /-- exclusion reason 1. -/
  exGroup : Bool
  /-- exclusion reason 2. -/
  exStale : Bool
  /-- exclusion reason 3. -/
  exGate : Bool
  /-- exclusion reason 4. -/
  exByp : Bool
  /-- exclusion reason 5. -/
  exProt : Bool
  /-- exclusion reason 6. -/
  exIdent : Bool
  /-- R197 (boundary at which a reason cleared while RUNNING: out of the pool until the next supervisory boundary). -/
  out_ : Option Nat
  /-- R590. -/
  readmit : Bool
  /-- R199. -/
  idle : Nat
  /-- R199. -/
  due : Bool
  /-- R201. -/
  overdue : Bool
  /-- DIA.101 STATE. -/
  cmd : Cmd
  /-- R282, R599, R199 (apply frame, command sent, inserted or PWM cell with a duty). -/
  hist : List (Nat × Cmd × Bool)
  /-- R599 (state booked for the previous frame). -/
  booked : CellCmd
  /-- R599, R246 (frames without a command word). -/
  noCmd : Nat
  /-- R286 (account after each booked frame). -/
  accH : List (Nat × Int)
  /-- DIA.105. -/
  changes : Nat
  /-- PWM.010 staging (ARM.031 default in ticks). -/
  stP : Nat
  /-- PWM.011 staging. -/
  stD : Nat
  /-- PWM.012 staging. -/
  stF : Nat
  /-- R207 shadow. -/
  shP : Nat
  /-- R207 shadow. -/
  shD : Nat
  /-- R207 shadow. -/
  shF : Nat
  /-- R207 active. -/
  acP : Nat
  /-- R207 active. -/
  acD : Nat
  /-- R207 active. -/
  acF : Nat
  /-- DIA.101 [16]. -/
  shPend : Bool
  /-- R217. -/
  lfsr : BitVec 16
  /-- R218 (dithered start of the present carrier period). -/
  perS : Int
  /-- R47, R218 (dithered start of the carrier period before). -/
  prevS : Int
  /-- R206, R218 (undithered time of the boundary that ends it). -/
  perU : Int
  /-- R218 (its length P_k). -/
  perL : Nat
  /-- R215 (its duty D'). -/
  perD : Nat
  /-- R239, R241. -/
  arrH : Nat
  /-- R239, R241. -/
  arrT : Nat
  /-- R239 (TWOWAY_DELTA reported at enumeration). -/
  delta : Int
  /-- R252 (the newest status came in a frame of the tail port or of twin B). -/
  viaT : Bool
  /-- R283. -/
  acct : Int
  /-- R283. -/
  rem : Nat
  /-- R284 (account set from the first usable status). -/
  acctOk : Bool
  /-- R286. -/
  refPair : Option (Int × Nat)
  /-- R286 (newest pair). -/
  pair : Option (Int × Nat)
  /-- DIA.147. -/
  drift : Int
  /-- R288 (the drift exceeds NST.061). -/
  drOver : Bool
  /-- R287 (largest magnitude in the window). -/
  maxDr : Nat
  /-- DIA.147. -/
  lastDr : Nat
  /-- DIA.148. -/
  mism : Nat
deriving DecidableEq, Repr

/-- Cell at reset. -/
def Cell.reset : Cell where
  conf := false
  arm := 0
  port := 0
  pos := 0
  fb := false
  ratedV := 0
  capUF := 0
  serial := 0
  gain := 0x3F800000
  off := 0
  tempco := 0
  hold := 20
  vcap := 0
  seen := false
  fresh := false
  noStat := 0
  goodStat := 0
  gsLow := false
  gsSince := none
  byp := false
  stRep := .bypass
  loopb := false
  onward := false
  desat := false
  desatB := false
  desatN := 0
  desatBN := 0
  exGroup := false
  exStale := false
  exGate := false
  exByp := false
  exProt := false
  exIdent := false
  out_ := none
  readmit := false
  idle := 0
  due := false
  overdue := false
  cmd := { st := .block }
  hist := []
  booked := .block
  noCmd := 0
  accH := []
  changes := 0
  stP := 163840
  stD := 0
  stF := 0
  shP := 163840
  shD := 0
  shF := 0
  acP := 163840
  acD := 0
  acF := 0
  shPend := false
  lfsr := 0
  perS := 0
  prevS := 0
  perU := 0
  perL := 0
  perD := 0
  arrH := 0
  arrT := 0
  delta := 0
  viaT := false
  acct := 0
  rem := 0
  acctOk := false
  refPair := none
  pair := none
  drift := 0
  drOver := false
  maxDr := 0
  lastDr := 0
  mism := 0

/-- One owned arm (05_arm_modulation.md). -/
structure ArmS where
  /-- R274 (apply frame, grant, v(m)). -/
  grants : List (Nat × Int × Int)
  /-- R192 (inserted set of the latest selected frame). -/
  ins : List Nat
  /-- R192. -/
  insSt : CellCmd
  /-- R192, R598. -/
  blkPrev : Bool
  /-- R182. -/
  dirPos : Bool
  /-- R184. -/
  pwm : Option Nat
  /-- leaf pipeline (apply frame selected). -/
  planF : Nat
  /-- R192, R598 (grant of that frame; none when it is lost). -/
  planN : Option Int
  /-- R598 (that frame stays BLOCKED for want of a grant). -/
  planBlk : Bool
  /-- R184 (the PWM cell starts in that frame). -/
  pwmNew : Bool
  /-- R184, R218 (the PWM cell waits for its own carrier boundary). -/
  pwmWait : Bool
  /-- R184, R216 (the PWM cell whose period ends in that frame). -/
  pwmOld : Option Nat
  /-- R199, R203 (apply frame, BLOCKED). -/
  blkH : List (Nat × Bool)
  /-- R188, R189 (channels over which the phases are spread). -/
  pscSet : List Nat
  /-- R189 (the phases have been spread since the transition from STANDBY to READY). -/
  pscOn : Bool
  /-- R181. -/
  iVal : F32
  /-- DIA.100 [23:16]. -/
  swaps : Nat
  /-- R276 (apply frame, INSERTED, RETURNED, LOST). -/
  books : List (Nat × Int × Int × Bool)
  /-- DIA.103. -/
  retSum : Int
  /-- DIA.104. -/
  forced : Nat
  /-- DIA.106 (state changes per supervisory sample of the last second). -/
  swit : List Nat
  /-- R280 CUM_ACCOUNTED. -/
  cum : Int
  /-- fault summary bit 11. -/
  lostRec : Bool
  /-- DIA.141. -/
  lostN : Nat
  /-- R281 (sampling instant in u, mA). -/
  smp : List (Nat × Int)
  /-- R595. -/
  vAvg : Nat
  /-- R284, DIA.149. -/
  total : Int
  /-- DIA.149. -/
  booked : Nat
  /-- DIA.145 WORST_CELL. -/
  worst : Nat
  /-- DIA.145 [0]. -/
  driftAl : Bool
  /-- R288, DIA.145 [1] (a cell exceeds NST.061). -/
  driftFl : Bool
deriving DecidableEq, Repr

/-- ArmS at reset. -/
def ArmS.reset : ArmS where
  grants := []
  ins := []
  insSt := .insertPos
  blkPrev := true
  dirPos := false
  pwm := none
  planF := 0
  planN := none
  planBlk := true
  pwmNew := false
  pwmWait := false
  pwmOld := none
  blkH := []
  pscSet := []
  pscOn := false
  iVal := 0
  swaps := 0
  books := []
  retSum := 0
  forced := 0
  swit := []
  cum := 0
  lostRec := false
  lostN := 0
  smp := []
  vAvg := 0
  total := 0
  booked := 0
  worst := 0
  driftAl := false
  driftFl := false

/-- The arm reference stage and credit account of one converter arm, at the root (R174, R279). -/
structure RefA where
  /-- R175, R176. -/
  vPrev : Int
  /-- R175, R176. -/
  vNew : Int
  /-- R175. -/
  m0 : Nat
  /-- R177 (apply frame, level, v(m)). -/
  issued : List (Nat × Int × Int)
  /-- R279 CUM_ISSUED. -/
  cum : Int
  /-- R279 (first apply frame issued since the entry into READY). -/
  since : Nat
  /-- DIA.142. -/
  acc : Int
  /-- R279 m_c. -/
  accF : Nat
  /-- DIA.144. -/
  recon : Int
  /-- DIA.144. -/
  reconN : Nat
  /-- DIA.141. -/
  lostN : Nat
  /-- R279 (lost frames since the previous boundary). -/
  lostNow : Nat
  /-- R279 first lost frame. -/
  lostA : Nat
  /-- R279 last lost frame. -/
  lostB : Nat
  /-- R278. -/
  mis : Bool
deriving DecidableEq, Repr

/-- RefA at reset. -/
def RefA.reset : RefA where
  vPrev := 0
  vNew := 0
  m0 := 0
  issued := []
  cum := 0
  since := 0
  acc := 0
  accF := 0
  recon := 0
  reconN := 0
  lostN := 0
  lostNow := 0
  lostA := 0
  lostB := 0
  mis := false

/-- Arms, channels and the root's reference stage (05_arm_modulation.md). -/
structure Arm where
  /-- R16, R174. -/
  arms : List ArmS
  /-- R174. -/
  cells : List Cell
  /-- R174, R279. -/
  refs : List RefA
  /-- R219. -/
  test : Bool
  /-- R217 (seed in effect). -/
  seed : Nat
deriving DecidableEq, Repr

/-- Arm at reset. -/
def Arm.reset : Arm where
  arms := List.replicate 2 ArmS.reset
  cells := List.replicate 512 Cell.reset
  refs := List.replicate 12 RefA.reset
  test := false
  seed := 0

/-- One Crihel port (06_crihel_link.md). -/
structure Port where
  /-- R256. -/
  credits : Nat
  /-- message SEQ. -/
  seq : Nat
  /-- R256 (SEQ, frame sent, request). -/
  reqs : List (Nat × Nat × Msg)
  /-- message slot requests waiting to be sent. -/
  out_ : List Msg
  /-- R252. -/
  split : Bool
  /-- R252. -/
  breakPos : Nat
  /-- R252 (first position, from the head, that the tail end or twin B still reaches). -/
  tailPos : Nat
  /-- R250 (BLOCK_ALL sent since RELEASE was last sent). -/
  baSent : Bool
  /-- R599 (time of the BLOCK_ALL request that stands). -/
  baAt : Option Nat
  /-- R248, R599 (frame of the first RELEASE after it). -/
  relF : Option Nat
  /-- R250. -/
  release : Bool
  /-- R253. -/
  relink : Bool
  /-- LNK.023. -/
  rejoin : Bool
  /-- R252 (a LOOPBACK was latched at the previous boundary). -/
  splitDue : Bool
  /-- DIA.120 [0]. -/
  linkUp : Bool
  /-- R260 (returned frame taken in this frame). -/
  got : Bool
  /-- DIA.120 [29:24]. -/
  seenN : Nat
  /-- R261 LINK_LOSS. -/
  loss : Bool
  /-- R245. -/
  proxy : Bool
  /-- R245 (frame of the boundary at which a relayed status was latched last). -/
  relayF : Option Nat
  /-- R334 (CRC-32 of the status slots of the frame returned since the latest boundary). -/
  dig : Option Nat
  /-- R334 (status slots of that frame). -/
  slots : List Slot
  /-- R334 (the partner's digest of this port has come since the latest boundary). -/
  digGot : Bool
  /-- R260 (frame numbers sent in the last two frames). -/
  sent : List Nat
  /-- DIA.126. -/
  loopNs : Nat
  /-- R239 T_trav. -/
  ttrav : Nat
  /-- DIA.129. -/
  reach : Nat
  /-- DIA.121. -/
  cCrc : Nat
  /-- DIA.122. -/
  cMiss : Nat
  /-- DIA.123. -/
  cRej : Nat
  /-- DIA.124. -/
  cOff : Nat
  /-- DIA.125. -/
  cCorr : Nat
  /-- DIA.127. -/
  cLate : Nat
  /-- DIA.128. -/
  cBa : Nat
  /-- DIA.130. -/
  cMis : Nat
deriving DecidableEq, Repr

/-- Port at reset. -/
def Port.reset : Port where
  credits := 8
  seq := 0
  reqs := []
  out_ := []
  split := false
  breakPos := 0
  tailPos := 0
  baSent := false
  baAt := none
  relF := none
  release := false
  relink := false
  rejoin := false
  splitDue := false
  linkUp := false
  got := false
  seenN := 0
  loss := false
  proxy := false
  relayF := none
  dig := none
  slots := []
  digGot := false
  sent := []
  loopNs := 0
  ttrav := 0
  reach := 0
  cCrc := 0
  cMiss := 0
  cRej := 0
  cOff := 0
  cCorr := 0
  cLate := 0
  cBa := 0
  cMis := 0

/-- The Crihel ports (06_crihel_link.md). -/
structure Link where
  /-- R227. -/
  ports : List Port
  /-- R231 (downlink frames of the latest boundary). -/
  tx : List Downlink
  /-- R242, R258 (ENUM frames of the latest enumeration). -/
  enumTx : List Downlink
  /-- R241, R258 (requests that the latest enumeration issued). -/
  enumReq : List (Nat × Msg)
  /-- transmitters on, R414, R497. -/
  txOn : Bool
  /-- R44, R234, R252 (received, not yet latched: frame number sent, channel, slot). -/
  stq : List (Nat × Nat × Slot)
deriving DecidableEq, Repr

/-- Link at reset. -/
def Link.reset : Link where
  ports := List.replicate 32 Port.reset
  tx := []
  enumTx := []
  enumReq := []
  txOn := false
  stq := []

/-- One nest link (07_nesting_and_fen_ledger.md). -/
structure Nst where
  /-- R289. -/
  miss : Nat
  /-- R289. -/
  okRun : Nat
  /-- R289, DIA.140 [1]. -/
  loss : Bool
  /-- DIA.140 [0]. -/
  okNow : Bool
  /-- R21 (port whose copy of this frame was taken). -/
  gotNow : Option Nat
  /-- DIA.140 [2]. -/
  second : Bool
  /-- DIA.140 [4]. -/
  demand : Bool
  /-- DIA.140 [9]. -/
  topoBad : Bool
  /-- DIA.140 [23:16]. -/
  dsub : Nat
  /-- DIA.150. -/
  cMis : Nat
  /-- DIA.143. -/
  lostUp : Nat
  /-- R272 (reports held, newest first). -/
  reps : List UpRep
  /-- R36 (element epoch of a report held, side and lead epoch of the member that sent it). -/
  repBy : List (Nat × Bool × Nat)
  /-- R280 (ACK_COUNT sent). -/
  ack : Nat
  /-- R280 (accounted total of the child at this module's entry into READY, at an AGGREGATOR). -/
  base : Option Int
  /-- R280 (offset per child arm). -/
  ofs : List Int
  /-- R280 (newest CUM_ACCOUNTED held). -/
  lastCum : List Int
  /-- R244, R268 (newest lead epoch obeyed on the link). -/
  leadEp : Option Nat
  /-- R245, R268 (frame number of the last LEAD frame obeyed). -/
  leadF : Nat
  /-- R243, R268 (side of the copy taken in this frame). -/
  side : Bool
  /-- R334 (CRC-32 of the frame accepted since the latest boundary). -/
  dig : Option Nat
  /-- R334 (that frame). -/
  bytes : List Byte
  /-- R334 (the partner's digest of this link has come since the latest boundary). -/
  digGot : Bool
deriving DecidableEq, Repr

/-- Nst at reset. -/
def Nst.reset : Nst where
  miss := 0
  okRun := 0
  loss := false
  okNow := false
  gotNow := none
  second := false
  demand := false
  topoBad := false
  dsub := 0
  cMis := 0
  lostUp := 0
  reps := []
  repBy := []
  ack := 0
  base := none
  ofs := [0, 0]
  lastCum := [0, 0]
  leadEp := none
  leadF := 0
  side := false
  dig := none
  bytes := []
  digGot := false

/-- Nest links and division (07_nesting_and_fen_ledger.md). -/
structure Nest where
  /-- R20. -/
  kids : List Nst
  /-- R20. -/
  par : Nst
  /-- R270 (newest NEST_DOWN taken). -/
  down : Option DownRep
  /-- R274 (the parent's frame held at the latest boundary). -/
  held : Option DownRep
  /-- R280 RESET_COUNT. -/
  resetCount : Nat
  /-- R280 newest ACK_COUNT taken. -/
  parentAck : Nat
  /-- R275 (apply frame, unassigned credits, lost). -/
  ownCred : List (Nat × Int × Bool)
  /-- R269 (child index and frame of the latest boundary). -/
  txDown : List (Nat × DownRep)
  /-- R269 (latest NEST_UP sent). -/
  txUp : Option UpRep
  /-- R232, R269 (port and header of each nest frame sent at the latest boundary). -/
  txNest : List (Nat × NestHdr)
  /-- NST.062 (start of the drift window). -/
  winStart : Nat
  /-- R408 (origin and origin frame acted on). -/
  xSeen : List (Nat × Nat)
  /-- R407, R408 (FIRE to send at the next boundary on every link but the one it came from: 0 to 31 a child, 32 the parent, 33 none). -/
  fire : Option (Nat × Nat × Nat)
deriving DecidableEq, Repr

/-- Nest at reset. -/
def Nest.reset : Nest where
  kids := List.replicate 32 Nst.reset
  par := Nst.reset
  down := none
  held := none
  resetCount := 0
  parentAck := 0
  ownCred := []
  txDown := []
  txUp := none
  txNest := []
  winStart := 0
  xSeen := []
  fire := none

/-- Bramble (08_bramble_protection.md). -/
structure Prot where
  /-- R292 (condition at the newest sample). -/
  cond : List Bool
  /-- R292 (consecutive samples with the condition). -/
  onN : List Nat
  /-- R292 (consecutive samples without). -/
  offN : List Nat
  /-- DIA.160. -/
  raised : List Bool
  /-- DIA.163. -/
  raisedN : List Nat
  /-- R301, DIA.164 (BLOCK, BYPASS, BREAKER, SELF_FAIL). -/
  latch : List (List Bool)
  /-- R296 (Reedbed's trigger source of a raised source: an action other than NONE has been taken). -/
  acted : List Bool
  /-- R297 (SELF_FAIL acting as BLOCK). -/
  asBlock : List Bool
  /-- DIA.161. -/
  holder : List Bool
  /-- R425 (a BLOCK latch caused by a PLL-L loss remains). -/
  pllBlk : Bool
  /-- DIA.164 FIRST_SRC. -/
  firstG : List (Option Nat)
  /-- DIA.162. -/
  firstM : Option (Nat × Nat)
  /-- R310, R247 (BLOCK_ALL has gone out for the source OC_FAST that is to be raised). -/
  ocSent : List Bool
  /-- R305 (boundary of the latest latching action). -/
  latchF : Option Nat
  /-- DIA.166. -/
  ocMax : List F32
  /-- R310 (per arm and converter: thresholds PRT.011 and PRT.012 and the gain and offset at which they took effect). -/
  oc : List (F32 × F32 × F32 × F32)
deriving DecidableEq, Repr

/-- Prot at reset. -/
def Prot.reset : Prot where
  cond := List.replicate 64 false
  onN := List.replicate 64 0
  offN := List.replicate 64 0
  raised := List.replicate 64 false
  raisedN := List.replicate 64 0
  latch := List.replicate 16 [false, false, false, false]
  acted := List.replicate 64 false
  asBlock := List.replicate 16 false
  holder := List.replicate 64 false
  pllBlk := false
  firstG := List.replicate 16 none
  firstM := none
  ocSent := [false, false]
  latchF := none
  ocMax := [0, 0]
  oc := List.replicate 4 (0x457A0000, 0xC57A0000, 0x3F800000, 0)

/-- Twin operation (09_twin_operation.md). -/
structure Twin where
  /-- R324, DIA.170 [0]. -/
  sideB : Bool
  /-- DIA.170 [1]. -/
  shadow : Bool
  /-- DIA.170 [3]. -/
  ready : Bool
  /-- DIA.170 [2]. -/
  paired : Bool
  /-- READY the partner sends. -/
  pReady : Bool
  /-- R350, DIA.170 [31:16]. -/
  epoch : Nat
  /-- DIA.170 [4]. -/
  selfFailed : Bool
  /-- DIA.170 [5]. -/
  partFailed : Bool
  /-- R341 (frame in which the pair began to exchange heartbeats). -/
  pairF : Nat
  /-- R341, R342 (heartbeats of the partner on link T). -/
  gotT : List Nat
  /-- R341, R342 (heartbeats of the partner on the chains). -/
  gotC : List Nat
  /-- R343 (frames latched with own inputs lately). -/
  ownFs : List Nat
  /-- R346 (frame of the last heartbeat of the partner). -/
  hbF : Nat
  /-- R276, R348 (frame of the last LEAD frame of the partner on a chain). -/
  leadF : Nat
  /-- DIA.170 [6]. -/
  lostT : Bool
  /-- DIA.170 [7]. -/
  lostC : Bool
  /-- R338 (0 none, 1 waiting for capture, 2 state transfer, 3 replay, 4 live and comparing). -/
  phase : Nat
  /-- R339. -/
  rsStart : Nat
  /-- R340. -/
  joinTai : Nat
  /-- R340 (mismatches within 1 s of a join, in a row). -/
  joinBad : Nat
  /-- DIA.170 [11]. -/
  giveup : Bool
  /-- R337. -/
  ownDig : Option (Nat × Nat)
  /-- R338 (state image slices). -/
  imgBuf : List Byte
  /-- R335, R338. -/
  vecs : List (Nat × Vec)
  /-- R335 (bit 0 frame, bit 1 control, bit 2 supervisory latch outstanding). -/
  latchDue : Nat
  /-- R343 (own inputs of the boundary whose latch is outstanding). -/
  ownVec : Option Vec
  /-- R351 (LEAD frames of the partner since the last boundary). -/
  seenLead : List Nat
  /-- R353 (planned swap). -/
  plan : Option Nat
  /-- R354. -/
  replied : Bool
  /-- R353. -/
  lastChg : Nat
  /-- DIA.175. -/
  chgF : Nat
  /-- R329 (start of the formation time). -/
  formTai : Option Nat
  /-- R325. -/
  partner : Option PairInfo
  /-- R334 (exceptions taken for the present frame). -/
  excN : Nat
  /-- R354 (consecutive frames in which READY was 1). -/
  readyN : Nat
  /-- R337 (publications and frames of the control sample that runs). -/
  digAcc : List DigFrame
  /-- R333 (vector sent for the latest boundary). -/
  txVec : Option Vec
  /-- R330 (writes and commands accepted since the vector before). -/
  acts : List HostAct
  /-- R331 (FNUM and content of the blocks sent since the latest boundary). -/
  txT : List (Nat × TBody)
  /-- R343, OWN_INPUT of HB (own inputs were latched for the latest frame). -/
  ownNow : Bool
  /-- DIA.171. -/
  nForced : Nat
  /-- DIA.171. -/
  nPlan : Nat
  /-- DIA.172. -/
  nCrc : Nat
  /-- DIA.173. -/
  nOwn : Nat
  /-- DIA.173. -/
  nOver : Nat
  /-- DIA.174. -/
  nSync : Nat
  /-- DIA.174. -/
  durSync : Nat
  /-- DIA.176. -/
  nDual : Nat
  /-- DIA.177. -/
  nMis : Nat
deriving DecidableEq, Repr

/-- Twin at reset. -/
def Twin.reset : Twin where
  sideB := false
  shadow := true
  ready := false
  paired := false
  pReady := false
  epoch := 0
  selfFailed := false
  partFailed := false
  pairF := 0
  gotT := []
  gotC := []
  ownFs := []
  hbF := 0
  leadF := 0
  lostT := false
  lostC := false
  phase := 0
  rsStart := 0
  joinTai := 0
  joinBad := 0
  giveup := false
  ownDig := none
  imgBuf := []
  vecs := []
  latchDue := 0
  ownVec := none
  seenLead := []
  plan := none
  replied := false
  lastChg := 0
  chgF := 0
  formTai := none
  partner := none
  excN := 0
  readyN := 0
  digAcc := []
  txVec := none
  acts := []
  txT := []
  ownNow := false
  nForced := 0
  nPlan := 0
  nCrc := 0
  nOwn := 0
  nOver := 0
  nSync := 0
  durSync := 0
  nDual := 0
  nMis := 0

/-- One Hedgerow channel (10_hedgerow_safety.md). -/
structure HCh where
  /-- R363. -/
  q : List F32
  /-- R364 (terminal angle and magnitude verdict of the last cycles). -/
  angT : List (Angle × Bool)
  /-- DIA.183. -/
  freq : F32
  /-- DIA.183. -/
  sla : F32
  /-- R364. -/
  cnt : List Nat
  /-- R364 (function raised now). -/
  cond : List Bool
  /-- DIA.180 FUNC_ACTIVE. -/
  act : List Bool
  /-- R369. -/
  fnLat : List Bool
  /-- R369. -/
  prLat : List Bool
  /-- R373. -/
  lev : List Bool
  /-- R373. -/
  brk : List Bool
  /-- R360. -/
  msg : Option XMsg
  /-- R359, R360 (message sent in the latest cycle). -/
  sent : Option XMsg
  /-- R360. -/
  noMsg : Nat
  /-- R360 (cycles beyond HDG.080). -/
  xErr : List Nat
  /-- R360. -/
  crcBad : Nat
  /-- DIA.180 [21]. -/
  xcmp : Bool
  /-- DIA.180 [22]. -/
  clkf : Bool
  /-- DIA.180 [23]. -/
  self_ : Bool
  /-- R362 (cycles since the fault condition was absent). -/
  okSince : Nat
  /-- DIA.185. -/
  crc : Nat
  /-- DIA.180 [0]. -/
  valid : Bool
  /-- R359. -/
  cycles : Nat
deriving DecidableEq, Repr

/-- HCh at reset. -/
def HCh.reset : HCh where
  q := List.replicate 6 0
  angT := []
  freq := 0
  sla := 0
  cnt := [0, 0, 0, 0]
  cond := [false, false, false, false]
  act := [false, false, false, false]
  fnLat := [false, false, false, false]
  prLat := List.replicate 8 false
  lev := List.replicate 8 false
  brk := List.replicate 8 false
  msg := none
  sent := none
  noMsg := 0
  xErr := List.replicate 6 0
  crcBad := 0
  xcmp := false
  clkf := false
  self_ := false
  okSince := 0
  crc := 0
  valid := false
  cycles := 0

/-- One safety output pair (R381 to R388). -/
structure HOut where
  /-- DIA.182 [1]. -/
  hs : Bool
  /-- DIA.182 [2]. -/
  ls : Bool
  /-- DIA.182 [7]. -/
  stuck : Bool
  /-- DIA.182 [6]. -/
  cross : Bool
  /-- DIA.182 [5]. -/
  extHi : Bool
  /-- DIA.182 [4]. -/
  gnd : Bool
  /-- DIA.182 [3]. -/
  pend : Bool
  /-- R383 (cycles since the condition was absent). -/
  okN : Nat
  /-- R388 (cycles demanded off). -/
  offN : Nat
  /-- R382. -/
  lastT : Nat
  /-- DIA.186. -/
  runs : Nat
  /-- DIA.186. -/
  disc : Nat
deriving DecidableEq, Repr

/-- HOut at reset. -/
def HOut.reset : HOut where
  hs := false
  ls := false
  stuck := false
  cross := false
  extHi := false
  gnd := false
  pend := false
  okN := 0
  offN := 0
  lastT := 0
  runs := 0
  disc := 0

/-- Hedgerow (10_hedgerow_safety.md). -/
structure Hdg where
  /-- R357. -/
  sa : HCh
  /-- R357. -/
  sb : HCh
  /-- R381. -/
  outs : List HOut
  /-- R374 (cycles of disagreement). -/
  dsN : List Nat
  /-- R374. -/
  dsF : List Bool
  /-- R368 (cycles left of the safe-stop delay). -/
  stop : Option Nat
  /-- R368 (safe stop has reached SO1). -/
  so1Off : Bool
  /-- R376 (time both channels of the RESET pair have been active). -/
  rstOn : Nat
  /-- R376 (one channel of the RESET pair has returned). -/
  rstEnd : Bool
  /-- R378 (a reset has been given since power-up). -/
  given : Bool
  /-- R376 (host reset waiting). -/
  hostRst : Bool
  /-- DIA.184. -/
  dem : List Nat
  /-- R479 (SHA-256 of the running Hedgerow section). -/
  secHash : Nat
deriving DecidableEq, Repr

/-- Hdg at reset. -/
def Hdg.reset : Hdg where
  sa := HCh.reset
  sb := HCh.reset
  outs := [HOut.reset, HOut.reset]
  dsN := List.replicate 8 0
  dsF := List.replicate 8 false
  stop := none
  so1Off := false
  rstOn := 0
  rstEnd := false
  given := false
  hostRst := false
  dem := List.replicate 12 0
  secHash := 0

/-- One main sample of the recorder ring (R392). -/
structure Samp where
  /-- stamp. -/
  f : Nat
  /-- R409. -/
  tai : Nat
  /-- R393. -/
  ws : List Word
deriving DecidableEq, Repr

/-- Samp at reset. -/
def Samp.reset : Samp where
  f := 0
  tai := 0
  ws := []

/-- A disturbance record (R410). -/
structure Rec where
  /-- record number. -/
  num : Nat
  /-- stamp of the trigger sample. -/
  trigF : Nat
  /-- trigger time. -/
  trigTai : Nat
  /-- R398. -/
  q : Nat
  /-- conditions met. -/
  mask : Nat
  /-- time of each condition met. -/
  times : List (Nat × Nat)
  /-- primary cause. -/
  cause : Nat
  /-- R401. -/
  preN : Nat
  /-- flags. -/
  preShort : Bool
  /-- flags TIME_UNLOCKED. -/
  unlocked : Bool
  /-- flags REDUCED. -/
  reduced : Bool
  /-- flags SIDE. -/
  sideB : Bool
  /-- ORIGIN. -/
  origin : Nat
  /-- origin stamp. -/
  originF : Nat
  /-- further triggers. -/
  events : List (Nat × Nat)
  /-- R393 (ACQ.020 of each main channel). -/
  srcs : List Nat
  /-- R412 (instant described less the stamp, by main channel). -/
  skew : List Int
  /-- R395 (T_ch). -/
  tch : Nat
  /-- R395 (reduction interval R). -/
  rInt : Nat
  /-- R412 (input, a, b, format, ns between codes of each raw channel). -/
  rawSc : List (Nat × F32 × F32 × Nat × Nat)
  /-- R412 (UTC offset of station time at the trigger). -/
  utc : Int
  /-- pre-trigger and full-rate samples. -/
  data : List Samp
  /-- R396. -/
  redu : List (List (Word × Word))
  /-- R54, R394. -/
  raw : List (List Word)
  /-- R394 (codes taken per stream when the trigger sample stood). -/
  rawAt : List Nat
  /-- R396 (samples of the interval that runs). -/
  red : List Samp
  /-- R395 (S_rec). -/
  size : Nat
  /-- R519, R529, R532 (0 kept, 1 OVERWRITTEN, 2 LOST_AT_POWER_FAIL, 3 DAMAGED). -/
  status : Nat
  /-- R532 pages that could not be read. -/
  dam : List Nat
deriving DecidableEq, Repr

/-- Rec at reset. -/
def Rec.reset : Rec where
  num := 0
  trigF := 0
  trigTai := 0
  q := 0
  mask := 0
  times := []
  cause := 0
  preN := 0
  preShort := false
  unlocked := false
  reduced := false
  sideB := false
  origin := 0
  originF := 0
  events := []
  srcs := []
  skew := []
  tch := 0
  rInt := 0
  rawSc := []
  utc := 0
  data := []
  redu := []
  raw := []
  rawAt := []
  red := []
  size := 0
  status := 0
  dam := []

/-- Reedbed (11_reedbed_recorder.md). -/
structure Acq where
  /-- DIA.190 [2:0]. -/
  st : RecState
  /-- R400 (newest first). -/
  ring : List Samp
  /-- R394 (newest first). -/
  rawRing : List (List Word)
  /-- R394 (codes taken per stream). -/
  rawN : List Nat
  /-- R397, R405 (samples evaluated, newest first). -/
  hist : List Samp
  /-- condition states. -/
  prev : List Bool
  /-- R399 (record being made). -/
  cur : Option Rec
  /-- DIA.190 PENDING. -/
  done_ : List Rec
  /-- R400 (S_rec reserved). -/
  held : Bool
  /-- R402. -/
  hoEnd : Nat
  /-- R402 (triggers still to suppress). -/
  hoCnt : Nat
  /-- R410 (last record number). -/
  num : Nat
  /-- DIA.191. -/
  nRec : Nat
  /-- DIA.191. -/
  nSup : Nat
  /-- DIA.191. -/
  nOvf : Nat
  /-- DIA.192. -/
  lastS : Option (Nat × Nat)
  /-- R404 (disarm when the record completes). -/
  stopDis : Bool
  /-- ACQ.013 write taken. -/
  manual : Bool
  /-- R406 (ARM of the parent's newest frame). -/
  parArm : Bool
deriving DecidableEq, Repr

/-- Acq at reset. -/
def Acq.reset : Acq where
  st := .disarmed
  ring := []
  rawRing := [[], [], [], []]
  rawN := [0, 0, 0, 0]
  hist := []
  prev := List.replicate 16 false
  cur := none
  done_ := []
  held := false
  hoEnd := 0
  hoCnt := 0
  num := 0
  nRec := 0
  nSup := 0
  nOvf := 0
  lastS := none
  stopDis := false
  manual := false
  parArm := false

/-- A Waizhar request taken from a channel (R455). -/
structure Req where
  /-- OPCODE. -/
  op : Nat
  /-- CLASS. -/
  cls : Nat
  /-- FLAGS. -/
  flags : Nat
  /-- SEQ. -/
  seq : Nat
  /-- SESSION. -/
  sess : Nat
  /-- LEN. -/
  len : Nat
  /-- TAG. -/
  tag : List Byte
  /-- header bytes 0 to 15. -/
  hdr : List Byte
  /-- payload. -/
  pay : List Byte
  /-- R463 (time of the doorbell). -/
  taken : Nat
  /-- LENGTH of the doorbell. -/
  size : Nat
deriving DecidableEq, Repr

/-- Req at reset. -/
def Req.reset : Req where
  op := 0
  cls := 0
  flags := 0
  seq := 0
  sess := 0
  len := 0
  tag := []
  hdr := []
  pay := []
  taken := 0
  size := 0

/-- A session (R456 to R459). -/
structure Sess where
  /-- session identifier. -/
  id : Nat
  /-- R460. -/
  role : SRole
  /-- credential id. -/
  cred : Nat
  /-- R456 session key. -/
  key : List Byte
  /-- R458 (SEQ of the last request). -/
  seq : Nat
  /-- R458 (previous response). -/
  last : List Byte
  /-- R459 (last request). -/
  used : Nat
deriving DecidableEq, Repr

/-- Sess at reset. -/
def Sess.reset : Sess where
  id := 0
  role := .observer
  cred := 0
  key := []
  seq := 0
  last := []
  used := 0

/-- One mailbox channel (13_waizhar_mailboxes.md). -/
structure Chan where
  /-- R449 request buffer. -/
  buf : List Byte
  /-- R449 response buffer. -/
  resp : List Byte
  /-- MB_STATUS [0]. -/
  queued : Bool
  /-- MB_STATUS [1]. -/
  exec_ : Bool
  /-- MB_STATUS [2]. -/
  done_ : Bool
  /-- MB_STATUS [5]. -/
  late : Bool
  /-- MB_STATUS [18:6]. -/
  respLen : Nat
  /-- R451. -/
  req : Option Req
  /-- R459. -/
  sess : Option Sess
  /-- R456. -/
  nonce : Option (List Byte)
  /-- R457 (AUTH_FAIL completions in a row). -/
  fails : Nat
  /-- R457 (end of the 10 s refusal). -/
  lock : Option Nat
  /-- R454 (connection open). -/
  e1 : Bool
  /-- R462 (preempted by a class 0 request). -/
  pre : Bool
  /-- R562 (the response is to be discarded). -/
  drop : Bool
  /-- DIA.210. -/
  nDone : Nat
  /-- DIA.210. -/
  nBusy : Nat
  /-- DIA.212. -/
  nAuth : Nat
deriving DecidableEq, Repr

/-- Chan at reset. -/
def Chan.reset : Chan where
  buf := []
  resp := []
  queued := false
  exec_ := false
  done_ := false
  late := false
  respLen := 0
  req := none
  sess := none
  nonce := none
  fails := 0
  lock := none
  e1 := false
  pre := false
  drop := false
  nDone := 0
  nBusy := 0
  nAuth := 0

/-- What a module's own frame group has written for one state epoch (R34, R36). -/
structure SnapOwn where
  /-- R34 state epoch E. -/
  e : Nat
  /-- R36 (LEAD at E, or in step). -/
  ok : Bool
  /-- R36 supplier. -/
  sideB : Bool
  /-- R36 lead epoch at E. -/
  lep : Nat
  /-- R34 (values of the image's snapshot list, in its order). -/
  vals : List (List Byte)
deriving DecidableEq, Repr

/-- SnapOwn at reset. -/
def SnapOwn.reset : SnapOwn where
  e := 0
  ok := false
  sideB := false
  lep := 0
  vals := []

/-- A supervisory entry that waits for its emission (R34, R35, R472). -/
structure SnapPend where
  /-- R34 boundary t. -/
  t : Nat
  /-- SNP_SEQ. -/
  seq : Nat
  /-- ON_REQUEST. -/
  onReq : Bool
  /-- R34. -/
  own : SnapOwn
  /-- R34 (values at t). -/
  vals : List (List Byte)
  /-- R34, R172 (values of the kernel's set of epoch E). -/
  kern : Option (List (List Byte))
deriving DecidableEq, Repr

/-- SnapPend at reset. -/
def SnapPend.reset : SnapPend where
  t := 0
  seq := 0
  onReq := false
  own := SnapOwn.reset
  vals := []
  kern := none

/-- A fast entry that waits for the control group's outputs of its boundary (R475). -/
structure FastPend where
  /-- R475 state epoch. -/
  e : Nat
  /-- SNP_SEQ. -/
  seq : Nat
  /-- load level, bits 5 to 4. -/
  flags : Nat
  /-- R475 (values of the list at the boundary). -/
  vals : List (List Byte)
deriving DecidableEq, Repr

/-- FastPend at reset. -/
def FastPend.reset : FastPend where
  e := 0
  seq := 0
  flags := 0
  vals := []

/-- BAR0, mailbox channels, snapshot rings and load level (13_waizhar_mailboxes.md). -/
structure Mbx where
  /-- SYS_IRQ_STATUS. -/
  irq : Word
  /-- SYS_IRQ_ENABLE. -/
  irqEn : Word
  /-- SYS_SCRATCH. -/
  scratch : Word
  /-- SYS_RESET_CAUSE. -/
  cause : Word
  /-- MB_IRQ_STATUS. -/
  mirq : Word
  /-- MB_IRQ_ENABLE. -/
  mirqEn : Word
  /-- MB_ERR. -/
  err : Word
  /-- SYS_FRAME_HI, latched. -/
  fHi : Word
  /-- SYS_TAI_HI, latched. -/
  tHi : Word
  /-- data of the latest BAR0 read. -/
  rdata : Word
  /-- R449. -/
  chans : List Chan
  /-- MSI messages sent, oldest first. -/
  msi : List Nat
  /-- SNP_CTRL. -/
  ctrl : Word
  /-- SNP_BASE_LO. -/
  baseLo : Word
  /-- SNP_BASE_HI. -/
  baseHi : Word
  /-- R471 (geometry taken). -/
  geom : Option (Nat × Nat × Nat × Nat)
  /-- SNP_HEAD. -/
  head : Nat
  /-- SNP_TAIL. -/
  tail : Nat
  /-- SNP_FAST_HEAD. -/
  fHead : Nat
  /-- SNP_FAST_TAIL. -/
  fTail : Nat
  /-- SNP_STATUS [0]. -/
  sActive : Bool
  /-- SNP_STATUS [1]. -/
  fActive : Bool
  /-- SNP_STATUS RC bits. -/
  sRc : Word
  /-- SNP_SEQ. -/
  snpSeq : Nat
  /-- SKIPPED. -/
  skipped : Nat
  /-- DROPPED_BEFORE. -/
  dropB : Bool
  /-- DECIMATED since the previous entry. -/
  deciB : Bool
  /-- SNP_SEQ of the fast ring. -/
  fSeq : Nat
  /-- SKIPPED of the fast ring. -/
  fSkip : Nat
  /-- DROPPED_BEFORE of the fast ring. -/
  fDropB : Bool
  /-- DECIMATED of the fast ring. -/
  fDeciB : Bool
  /-- R34 (own state of the newest control boundary). -/
  snapOwn : SnapOwn
  /-- R34 (entries not emitted yet, oldest first). -/
  snapDue : List SnapPend
  /-- R475 (entry that waits for the control group's outputs of its boundary). -/
  fastPend : Option FastPend
  /-- R472 SNAPSHOT_NOW waiting. -/
  onReq : Bool
  /-- R475. -/
  fastL : List (Pid × Nat)
  /-- R475 (takes effect at the next supervisory boundary). -/
  fastNew : Option (List (Pid × Nat))
  /-- R472 (DMA writes made by the latest command). -/
  dma : List (Nat × List Byte)
  /-- DIA.213. -/
  nDrop : Nat
  /-- DIA.213. -/
  nFDrop : Nat
  /-- SYS_LOAD [31:24]. -/
  level : Nat
  /-- SYS_LOAD [7:0]. -/
  util : Nat
  /-- R477 (windows 10 points below the threshold). -/
  lowRun : Nat
  /-- DIA.214. -/
  lvlMs : List Nat
  /-- DIA.211. -/
  maxC0 : Nat
  /-- free-value counter of nonces and session identifiers (the model's own). -/
  nonceN : Nat
deriving DecidableEq, Repr

/-- Mbx at reset. -/
def Mbx.reset : Mbx where
  irq := 0
  irqEn := 0
  scratch := 0
  cause := 0
  mirq := 0
  mirqEn := 0
  err := 0
  fHi := 0
  tHi := 0
  rdata := 0
  chans := List.replicate 8 Chan.reset
  msi := []
  ctrl := 0x04016000
  baseLo := 0
  baseHi := 0
  geom := none
  head := 0
  tail := 0
  fHead := 0
  fTail := 0
  sActive := false
  fActive := false
  sRc := 0
  snpSeq := 0
  skipped := 0
  dropB := false
  deciB := false
  fSeq := 0
  fSkip := 0
  fDropB := false
  fDeciB := false
  snapOwn := SnapOwn.reset
  snapDue := []
  fastPend := none
  onReq := false
  fastL := []
  fastNew := none
  dma := []
  nDrop := 0
  nFDrop := 0
  level := 0
  util := 0
  lowRun := 0
  lvlMs := [0, 0, 0]
  maxC0 := 0
  nonceN := 0

/-- A write or command accepted for a boundary (R466). -/
structure Write where
  /-- channel. -/
  ch : Nat
  /-- R469. -/
  role : SRole
  /-- session. -/
  sess : Nat
  /-- credential. -/
  cred : Nat
  /-- identifier. -/
  id : Pid
  /-- element. -/
  e : Nat
  /-- value. -/
  v : Raw
  /-- R10. -/
  eff : Eff
  /-- boundary at which it takes effect. -/
  at_ : Nat
deriving DecidableEq, Repr

/-- Write at reset. -/
def Write.reset : Write where
  ch := 0
  role := .observer
  sess := 0
  cred := 0
  id := { g := 0, n := 0 }
  e := 0
  v := 0
  eff := .supervisory
  at_ := 0

/-- Parameters (R464 to R470). -/
structure Par where
  /-- values that differ from the default. -/
  vals : List PVal
  /-- R466 (accepted, not yet in effect). -/
  wait : List Write
  /-- R7, R10 (Bank writes accepted since the last exchange of the banks, newest value each). -/
  bankW : List PVal
  /-- DEBLOCK, HALT, ACTIVATE due at a boundary: opcode, role, channel, frame. -/
  cmds : List (Nat × SRole × Nat × Nat)
deriving DecidableEq, Repr

/-- Par at reset. -/
def Par.reset : Par where
  vals := []
  wait := []
  bankW := []
  cmds := []

/-- A configuration slot (R482, DIA.222). -/
structure Slot_ where
  /-- R482. -/
  complete : Bool
  /-- R479. -/
  bytes : List Byte
  /-- R479 (what the sections say). -/
  cont : Option Content
  /-- DIA.222. -/
  sha8 : Nat
  /-- IMAGE_VERSION. -/
  version : Nat
  /-- TOOL. -/
  tool : Nat
  /-- R594 TOPO_DIGEST. -/
  topo : Nat
deriving DecidableEq, Repr

/-- Slot_ at reset. -/
def Slot_.reset : Slot_ where
  complete := false
  bytes := []
  cont := none
  sha8 := 0
  version := 0
  tool := 0
  topo := 0

/-- A credential slot (chapter 14, key slots). -/
structure Cred where
  /-- HMAC key. -/
  key : List Byte
  /-- role. -/
  role : SRole
  /-- enable. -/
  on : Bool
deriving DecidableEq, Repr

/-- Cred at reset. -/
def Cred.reset : Cred where
  key := []
  role := .observer
  on := false

/-- An open image transfer (R482). -/
structure Xfer where
  /-- channel. -/
  ch : Nat
  /-- kind. -/
  kind : Nat
  /-- length. -/
  len : Nat
  /-- blocks stored. -/
  data : List Byte
  /-- R483 (a Hedgerow section is carried). -/
  hdg : Bool
deriving DecidableEq, Repr

/-- Xfer at reset. -/
def Xfer.reset : Xfer where
  ch := 0
  kind := 0
  len := 0
  data := []
  hdg := false

/-- One finding of validation (DIA.221). -/
structure Find where
  /-- stage. -/
  stage : Nat
  /-- reason name. -/
  why : Reason
  /-- section type. -/
  sec : Nat
  /-- first detail. -/
  d1 : Int
  /-- second detail. -/
  d2 : Int
deriving DecidableEq, Repr

/-- Find at reset. -/
def Find.reset : Find where
  stage := 0
  why := .cfgFormat
  sec := 0
  d1 := 0
  d2 := 0

/-- Stored result of one self-test slice (R501, DIA.230 to DIA.232). -/
structure SliceS where
  /-- DIA.230 [31:28]. -/
  res : TestRes
  /-- newest outcome used for repair and marking (R498, R502, R503). -/
  last : TestRes
  /-- R504. -/
  aged : Bool
  /-- DIA.230. -/
  spares : Nat
  /-- DIA.230. -/
  fails : Nat
  /-- DIA.230 [0]. -/
  unusable : Bool
  /-- failing units. -/
  units : Nat
  /-- DIA.231. -/
  tai : Nat
  /-- DIA.231. -/
  ms : Nat
  /-- R504 (newest PASS or REPAIRED). -/
  okTai : Nat
  /-- DIA.232. -/
  addr : Nat
  /-- DIA.232. -/
  bit : Nat
deriving DecidableEq, Repr

/-- SliceS at reset. -/
def SliceS.reset : SliceS where
  res := .notRun
  last := .notRun
  aged := false
  spares := 0
  fails := 0
  unusable := false
  units := 0
  tai := 0
  ms := 0
  okTai := 0
  addr := 0
  bit := 0

/-- One audit record (R508). -/
structure Audit where
  /-- SEQ. -/
  seq : Nat
  /-- TAI. -/
  tai : Nat
  /-- FNUM. -/
  fnum : Nat
  /-- TYPE. -/
  ty : Nat
  /-- ORIGIN. -/
  origin : Nat
  /-- CHANNEL. -/
  ch : Nat
  /-- FLAGS. -/
  flags : Nat
  /-- SESSION. -/
  sess : Nat
  /-- CREDENTIAL. -/
  cred : Nat
  /-- RESULT. -/
  result : Nat
  /-- SUBJECT. -/
  subj : Nat
  /-- OLD. -/
  old : Int
  /-- NEW. -/
  new : Int
  /-- DETAIL. -/
  detail : Int
  /-- reason name carried by a CONTINUATION record (R509). -/
  more : List Reason
  /-- further values carried by a CONTINUATION record (R509). -/
  vals : List Int
  /-- R531 (record lost). -/
  gone : Bool
deriving DecidableEq, Repr

/-- Audit at reset. -/
def Audit.reset : Audit where
  seq := 0
  tai := 0
  fnum := 0
  ty := 0
  origin := 0
  ch := 0xFF
  flags := 0
  sess := 0
  cred := 0xFFFF
  result := 0
  subj := 0
  old := 0
  new := 0
  detail := 0
  more := []
  vals := []
  gone := false

/-- Module state, life cycle, images, validation, self-test and audit trail (14_configuration_and_lifecycle.md). -/
structure Sys where
  /-- R441, SYS_STATE. -/
  st : MState
  /-- R507, R578. -/
  life : Life
  /-- R506, R507 (scan port enabled). -/
  scan : Bool
  /-- R505 (acted on at the next entry into STANDBY). -/
  lifeReq : Option Life
  /-- R482. -/
  slots : List Slot_
  /-- R487, R578 (firmware in both slots). -/
  fwOk : List Bool
  /-- DIA.220 [9]. -/
  fwB : Bool
  /-- R485 selected firmware slot. -/
  fwSelB : Bool
  /-- R487 (failed boots in a row). -/
  bootBad : Nat
  /-- DIA.220 [7]. -/
  runB : Bool
  /-- DIA.220 [8]. -/
  startB : Bool
  /-- image in force, R15. -/
  run : Option Content
  /-- key slot 0 (Susto firmware key). -/
  key0 : Nat
  /-- key slot 1, R481 (empty until the owner enrols). -/
  key1 : Option Nat
  /-- key slot 2. -/
  key2 : Option Nat
  /-- credential 0 at the works. -/
  creds : List Cred
  /-- R482. -/
  xfer : Option Xfer
  /-- DIA.220 [23:20]. -/
  stage : Nat
  /-- DIA.221. -/
  finds : List Find
  /-- DIA.220 [13]. -/
  retry : Bool
  /-- R492. -/
  retryAt : Nat
  /-- DIA.223. -/
  unlisted : List Nat
  /-- DIA.223. -/
  redun : List Nat
  /-- DIA.223. -/
  redunF : List Nat
  /-- R258, R518 identity cache, most recently used first. -/
  cache : List (Nat × IdRec)
  /-- R258, R492 what enumeration found at each port. -/
  seenP : List SeenPort
  /-- R574 (a wake is held). -/
  coldHold : Bool
  /-- R442 (a wake arrived during SLEEP). -/
  wakeWait : Bool
  /-- R497 (0 none, 1 keep-alive, 2 self-test, 3 to commit). -/
  shut : Nat
  /-- R497 (KEEPALIVE frames still to send). -/
  keep : Nat
  /-- R486 (the sequence serves an ACTIVATE). -/
  activ : Bool
  /-- R486 (a firmware slot is activated). -/
  activFw : Bool
  /-- R498 (slice running). -/
  slice : Nat
  /-- R498. -/
  sliceGo : Bool
  /-- R498 (slices visited in this shut-down). -/
  sliceN : Nat
  /-- R498 (budget used). -/
  sliceMs : Nat
  /-- R498 (last slice of the previous shut-down). -/
  lastSl : Nat
  /-- R501. -/
  tests : List SliceS
  /-- DIA.233. -/
  badPorts : Nat
  /-- DIA.233. -/
  badAi : Nat
  /-- DIA.233. -/
  badPwm : Nat
  /-- R508 (newest first). -/
  log : List Audit
  /-- R508, R446 sequence counter. -/
  seqNo : Nat
  /-- DIA.241. -/
  logOver : Nat
  /-- R560, DIA.270. -/
  slotId : Nat
  /-- DIA.270 [11]. -/
  strap : Bool
deriving DecidableEq, Repr

/-- Sys at reset. -/
def Sys.reset : Sys where
  st := .dormant
  life := .provisioned
  scan := false
  lifeReq := none
  slots := [Slot_.reset, Slot_.reset]
  fwOk := [true, true]
  fwB := false
  fwSelB := false
  bootBad := 0
  runB := false
  startB := false
  run := none
  key0 := 1
  key1 := none
  key2 := none
  creds := { key := List.replicate 32 0, role := .guardian, on := true } :: List.replicate 31 Cred.reset
  xfer := none
  stage := 0
  finds := []
  retry := false
  retryAt := 0
  unlisted := [0, 0]
  redun := [0, 0]
  redunF := [0, 0]
  cache := []
  seenP := []
  coldHold := false
  wakeWait := false
  shut := 0
  keep := 0
  activ := false
  activFw := false
  slice := 0
  sliceGo := false
  sliceN := 0
  sliceMs := 0
  lastSl := 12
  tests := List.replicate 13 SliceS.reset
  badPorts := 0
  badAi := 0
  badPwm := 0
  log := []
  seqNo := 0
  logOver := 0
  slotId := 0
  strap := false

/-- Blocks of the flash that hold something in a module as delivered: firmware in both slots, the key slots and the journal, two copies
each, one on each die, after the system area (R516, R578). -/
def Store.delivered : List (Nat × Nat × Nat) :=
  [0, 16384].flatMap (fun d => (List.range 256).map (fun k => (d + 4 + k, 0, 0)) ++ (List.range 256).map (fun k => (d + 260 + k, 0, 1)) ++
    [(d + 516, 2, 0), (d + 517, 7, 0)])

/-- Peat record store (15_peat_store.md). -/
structure Store where
  /-- DIA.250 [0]. -/
  active : Bool
  /-- R520 erase counts by block, unlisted 0. -/
  erase : List (Nat × Nat)
  /-- R517 grown bad blocks. -/
  bad : List Nat
  /-- DIA.252 factory bad blocks. -/
  factory : Nat
  /-- R516 spare blocks. -/
  spare : Nat
  /-- R516, R520, DIA.255 (physical blocks in use: number, partition, item). -/
  blocks : List (Nat × Nat × Nat)
  /-- R524 uncommitted changes. -/
  dirty : Nat
  /-- R524 write sequence of the newest commit. -/
  commitN : Nat
  /-- R526 audit pages written. -/
  auditPg : Nat
  /-- R524. -/
  lastC : Nat
  /-- R446 mirrored audit counter. -/
  mirSeq : Nat
  /-- R446 mirrored TAI seconds. -/
  mirSec : Nat
  /-- R446 mirrored lead epoch. -/
  mirEp : Nat
  /-- R526 records in the audit page buffer. -/
  pageN : Nat
  /-- R526 time of its first record. -/
  pageT : Nat
  /-- R531 newest audit sequence number stored. -/
  stored : Nat
  /-- R519 record index (newest first). -/
  recs : List Rec
  /-- partition 8. -/
  recUsed : Nat
  /-- DIA.253. -/
  hist : List Nat
  /-- R521 reads since written, by block. -/
  reads : List (Nat × Nat)
  /-- R521, R525 copies made since the newest commit: old and new block. -/
  movs : List (Nat × Nat)
  /-- R523, R527 erases that the dies still run: block and latest end. -/
  ers : List (Nat × Nat)
  /-- R528 blocks marked for erasure. -/
  reErase : List Nat
  /-- R522 pages read in the present pass. -/
  scrub : Option Nat
  /-- DIA.254. -/
  scrubT : Nat
  /-- DIA.254. -/
  scrubR : Nat
  /-- blocks refreshed in the present pass. -/
  passR : Nat
  /-- DIA.250 [1]. -/
  overdue : Bool
  /-- DIA.250 [8]. -/
  full : Bool
  /-- DIA.250 [11]. -/
  keysLost : Bool
  /-- DIA.250 [3]. -/
  endLow : Bool
  /-- DIA.250 [2]. -/
  spLow : Bool
  /-- DIA.256. -/
  nProg : Nat
  /-- DIA.256. -/
  nErase : Nat
  /-- DIA.256. -/
  nRetry : Nat
  /-- DIA.257. -/
  nOver : Nat
  /-- DIA.257. -/
  nDam : Nat
  /-- DIA.257. -/
  nLost : Nat
  /-- staging partition, GU_FW_LOAD. -/
  guFile : List Byte
deriving DecidableEq, Repr

/-- Store at reset. -/
def Store.reset : Store where
  active := false
  erase := []
  bad := []
  factory := 0
  spare := 1600
  blocks := Store.delivered
  dirty := 0
  commitN := 0
  auditPg := 0
  lastC := 0
  mirSeq := 0
  mirSec := 0
  mirEp := 0
  pageN := 0
  pageT := 0
  stored := 0
  recs := []
  recUsed := 0
  hist := List.replicate 8 0
  reads := []
  movs := []
  ers := []
  reErase := []
  scrub := none
  scrubT := 0
  scrubR := 0
  passR := 0
  overdue := false
  full := false
  keysLost := false
  endLow := false
  spLow := false
  nProg := 0
  nErase := 0
  nRetry := 0
  nOver := 0
  nDam := 0
  nLost := 0
  guFile := []

/-- One field output (16_field_io.md). -/
structure OutS where
  /-- DIA.262 [1]. -/
  cmd : Bool
  /-- R546 source command. -/
  src : Bool
  /-- DIA.262 [0]. -/
  term : Bool
  /-- DIA.262 [2]. -/
  limit : Bool
  /-- DIA.262 [3]. -/
  therm : Bool
  /-- DIA.262 [4]. -/
  open_ : Bool
  /-- DIA.262 [5]. -/
  gnd : Bool
  /-- DIA.262 [6]. -/
  extHi : Bool
  /-- DIA.262 [7]. -/
  cross : Bool
  /-- DIA.262 [9]. -/
  latch : Bool
  /-- DIA.262 [10]. -/
  safe : Bool
  /-- R548 shutdowns of the last 10 s. -/
  shuts : List Nat
  /-- FIO.026. -/
  lastT : Nat
  /-- DIA.264. -/
  nTest : Nat
  /-- DIA.264. -/
  nDisc : Nat
  /-- DIA.264. -/
  nTherm : Nat
  /-- DIA.265. -/
  mA : Nat
deriving DecidableEq, Repr

/-- OutS at reset. -/
def OutS.reset : OutS where
  cmd := false
  src := false
  term := false
  limit := false
  therm := false
  open_ := false
  gnd := false
  extHi := false
  cross := false
  latch := false
  safe := false
  shuts := []
  lastT := 0
  nTest := 0
  nDisc := 0
  nTherm := 0
  mA := 0

/-- Field inputs and outputs (16_field_io.md). -/
structure Fio where
  /-- R540, R541 raw levels. -/
  raw : Word
  /-- R542 samples in which the raw level differed. -/
  since : List Nat
  /-- R542 filtered levels at the field side. -/
  lev : Word
  /-- DIA.260 latched levels. -/
  lat : Word
  /-- R543 samples below the wire-break threshold. -/
  below : List Nat
  /-- R543 samples above. -/
  above : List Nat
  /-- DIA.261. -/
  brk : Word
  /-- R547. -/
  outs : List OutS
  /-- DIA.265. -/
  lplus : Nat
  /-- DIA.263 [1]. -/
  lpMiss : Bool
  /-- DIA.263 [2]. -/
  lpLow : Bool
  /-- R558. -/
  lpMissN : Nat
  /-- R558. -/
  lpLowN : Nat
  /-- R558. -/
  lpMissC : Nat
  /-- R558. -/
  lpLowC : Nat
  /-- DIA.263 [3]. -/
  silent : Bool
  /-- R556. -/
  silAt : Nat
  /-- R556 (safe state held until the next supervisory boundary). -/
  silHold : Bool
  /-- DIA.263 [0]. -/
  ok : Bool
  /-- R555 (last valid field frame). -/
  lastF : Nat
  /-- chapter 16, test pulses at least 10 ms apart. -/
  lastPulse : Nat
deriving DecidableEq, Repr

/-- Fio at reset. -/
def Fio.reset : Fio where
  raw := 0
  since := List.replicate 32 0
  lev := 0
  lat := 0
  below := List.replicate 32 0
  above := List.replicate 32 0
  brk := 0
  outs := List.replicate 16 OutS.reset
  lplus := 0
  lpMiss := true
  lpLow := false
  lpMissN := 0
  lpLowN := 0
  lpMissC := 0
  lpLowC := 0
  silent := false
  silAt := 0
  silHold := false
  ok := false
  lastF := 0
  lastPulse := 0

/-- Module hardware (17_module_hardware.md). -/
structure Hw where
  /-- DIA.271. -/
  temps : List F32
  /-- R573 base temperature. -/
  base : F32
  /-- DIA.270 [3]. -/
  high : Bool
  /-- DIA.270 [2]. -/
  limit : Bool
  /-- DIA.270 [4]. -/
  low : Bool
  /-- DIA.270 [8]. -/
  e1 : Bool
  /-- DIA.270 [9]. -/
  e2 : Bool
  /-- DIA.270 [5]. -/
  supLow : Bool
deriving DecidableEq, Repr

/-- Hw at reset. -/
def Hw.reset : Hw where
  temps := [0, 0, 0, 0]
  base := 0
  high := false
  limit := false
  low := false
  e1 := false
  e2 := false
  supLow := false

/-- Status sets as last written, and sticky read-clear bits (R8, R129, R172, R223, R264, R290, R323, R356, R391, R413, R448, R514, R536, R559, R575). -/
structure Pub where
  /-- R223, R290. -/
  arm : Arm
  /-- R82. -/
  trk : List Trk
  /-- R223 (module state with the sets of every frame). -/
  st : MState
  /-- R223 (parameters with the sets of every frame). -/
  par : Par
  /-- R264 (module state with the sets of a supervisory boundary). -/
  stS : MState
  /-- R264 (parameters with the sets of a supervisory boundary). -/
  parS : Par
  /-- R264. -/
  link : Link
  /-- R290. -/
  nest : Nest
  /-- R323. -/
  prot : Prot
  /-- R356. -/
  twin : Twin
  /-- R391. -/
  hdg : Hdg
  /-- R413. -/
  acq : Acq
  /-- R448. -/
  clk : Clk
  /-- R536. -/
  peat : Store
  /-- R559. -/
  fio : Fio
  /-- R575. -/
  hw : Hw
  /-- R514. -/
  sys : Sys
  /-- R391 (DIA.180 as written but for its RC bits). -/
  hdgW : Word
  /-- R448 (DIA.200 as written but for its RC bits). -/
  clkW : Word
  /-- R514 (DIA.220 as written but for its RC bits). -/
  sysW : Word
  /-- R7, R8 (RC bits as a read returns them, by DIA number and element). -/
  rc : List (Nat × Nat × Word)
  /-- R8 (RC bits set since the set was last written). -/
  ev : List (Nat × Nat × Word)
deriving DecidableEq, Repr

/-- Pub at reset. -/
def Pub.reset : Pub where
  arm := Arm.reset
  trk := List.replicate 4 Trk.reset
  st := .dormant
  par := Par.reset
  stS := .dormant
  parS := Par.reset
  link := Link.reset
  nest := Nest.reset
  prot := Prot.reset
  twin := Twin.reset
  hdg := Hdg.reset
  acq := Acq.reset
  clk := Clk.reset
  peat := Store.reset
  fio := Fio.reset
  hw := Hw.reset
  sys := Sys.reset
  hdgW := 0
  clkW := 0
  sysW := 0
  rc := []
  ev := []

/-- The state of the module and its queue of waiting commands. -/
structure State where
  /-- Clocks and station time (12_clocks_time_power.md, 01_converter_tree.md). -/
  clk : Clk
  /-- Measurement inputs (02_measurement_and_angle.md). -/
  meas : Meas
  /-- The loop engine (03_loop_engine.md). -/
  eng : Eng
  /-- The grid-forming kernel (04_grid_forming_kernel.md). -/
  kern : Kern
  /-- Arms, channels and the root's reference stage (05_arm_modulation.md). -/
  arm : Arm
  /-- The Crihel ports (06_crihel_link.md). -/
  link : Link
  /-- Nest links and division (07_nesting_and_fen_ledger.md). -/
  nest : Nest
  /-- Bramble (08_bramble_protection.md). -/
  prot : Prot
  /-- Twin operation (09_twin_operation.md). -/
  twin : Twin
  /-- Hedgerow (10_hedgerow_safety.md). -/
  hdg : Hdg
  /-- Reedbed (11_reedbed_recorder.md). -/
  acq : Acq
  /-- BAR0, mailbox channels, snapshot rings and load level (13_waizhar_mailboxes.md). -/
  mbx : Mbx
  /-- Parameters (R464 to R470). -/
  par : Par
  /-- Module state, life cycle, images, validation, self-test and audit trail (14_configuration_and_lifecycle.md). -/
  sys : Sys
  /-- Peat record store (15_peat_store.md). -/
  peat : Store
  /-- Field inputs and outputs (16_field_io.md). -/
  fio : Fio
  /-- Module hardware (17_module_hardware.md). -/
  hw : Hw
  /-- Status sets as last written, and sticky read-clear bits (R8, R129, R172, R223, R264, R290, R323, R356, R391, R413, R448, R514, R536, R559, R575). -/
  pub : Pub
  /-- The four grid angle trackers (R70 to R90). -/
  trk : List Trk
  /-- The model's own counter of free values (notes/assumptions/5.md). -/
  free : Nat
  /-- Commands waiting, first in first out. -/
  pending : List Instr
deriving DecidableEq, Repr

/-- The module as delivered: DORMANT, PROVISIONED, nothing waiting (R441, R507, R578). -/
def State.reset : State where
  clk := Clk.reset
  meas := Meas.reset
  eng := Eng.reset
  kern := Kern.reset
  arm := Arm.reset
  link := Link.reset
  nest := Nest.reset
  prot := Prot.reset
  twin := Twin.reset
  hdg := Hdg.reset
  acq := Acq.reset
  mbx := Mbx.reset
  par := Par.reset
  sys := Sys.reset
  peat := Store.reset
  fio := Fio.reset
  hw := Hw.reset
  pub := Pub.reset
  trk := List.replicate 4 Trk.reset
  free := 0
  pending := []

/-- `s` with its `clk` changed by `g`. -/
def State.modClk (s : State) (g : Clk → Clk) : State := { s with clk := g s.clk }

/-- `s` with its `meas` changed by `g`. -/
def State.modMeas (s : State) (g : Meas → Meas) : State := { s with meas := g s.meas }

/-- `s` with its `eng` changed by `g`. -/
def State.modEng (s : State) (g : Eng → Eng) : State := { s with eng := g s.eng }

/-- `s` with its `kern` changed by `g`. -/
def State.modKern (s : State) (g : Kern → Kern) : State := { s with kern := g s.kern }

/-- `s` with its `arm` changed by `g`. -/
def State.modArm (s : State) (g : Arm → Arm) : State := { s with arm := g s.arm }

/-- `s` with its `link` changed by `g`. -/
def State.modLink (s : State) (g : Link → Link) : State := { s with link := g s.link }

/-- `s` with its `nest` changed by `g`. -/
def State.modNest (s : State) (g : Nest → Nest) : State := { s with nest := g s.nest }

/-- `s` with its `prot` changed by `g`. -/
def State.modProt (s : State) (g : Prot → Prot) : State := { s with prot := g s.prot }

/-- `s` with its `twin` changed by `g`. -/
def State.modTwin (s : State) (g : Twin → Twin) : State := { s with twin := g s.twin }

/-- `s` with its `hdg` changed by `g`. -/
def State.modHdg (s : State) (g : Hdg → Hdg) : State := { s with hdg := g s.hdg }

/-- `s` with its `acq` changed by `g`. -/
def State.modAcq (s : State) (g : Acq → Acq) : State := { s with acq := g s.acq }

/-- `s` with its `mbx` changed by `g`. -/
def State.modMbx (s : State) (g : Mbx → Mbx) : State := { s with mbx := g s.mbx }

/-- `s` with its `par` changed by `g`. -/
def State.modPar (s : State) (g : Par → Par) : State := { s with par := g s.par }

/-- `s` with its `sys` changed by `g`. -/
def State.modSys (s : State) (g : Sys → Sys) : State := { s with sys := g s.sys }

/-- `s` with its `peat` changed by `g`. -/
def State.modPeat (s : State) (g : Store → Store) : State := { s with peat := g s.peat }

/-- `s` with its `fio` changed by `g`. -/
def State.modFio (s : State) (g : Fio → Fio) : State := { s with fio := g s.fio }

/-- `s` with its `hw` changed by `g`. -/
def State.modHw (s : State) (g : Hw → Hw) : State := { s with hw := g s.hw }

/-- `s` with its `pub` changed by `g`. -/
def State.modPub (s : State) (g : Pub → Pub) : State := { s with pub := g s.pub }

/-- `s` with its `trk` changed by `g`. -/
def State.modTrk (s : State) (g : List Trk → List Trk) : State := { s with trk := g s.trk }

end Sys2Proof.Machine
end

