-- ==== Sys2Proof/Config.lean ====
section
/-!
DEFINITION. What the manual leaves to the implementation or does not publish: constants without a body, so that no proof can see a
value of them. Each names the rule that leaves it open. notes/assumptions/11.md and 12.md name them all.
-/
namespace Sys2Proof.Machine
open Sys2Proof

/-- sin of an ANGLE: the method is not published (R583). Trig.lean keeps its result within 1 ulp. -/
opaque Config.sin : Angle → F32
/-- cos of an ANGLE: the method is not published (R583). Trig.lean keeps its result within 1 ulp. -/
opaque Config.cos : Angle → F32
/-- atan2(y, x) as an ANGLE for operands not both zero: the method is not published (R583). Trig.lean keeps its result within 256 counts. -/
opaque Config.atan2 : F32 → F32 → Angle
/-- Next state of a first-order low-pass: time constant or cut-off, sample period, state, input. The manual names the filter and not
its discretisation (R109 No. 32, R137). -/
opaque Config.lowpass : F32 → F32 → F32 → F32 → F32
/-- Coefficients b0, b1, b2, a1, a2 of NOTCH from f_c, Q and T (R109 No. 21). -/
opaque Config.notchCoef : F32 → F32 → F32 → F32 × F32 × F32 × F32 × F32
/-- Resonant pair of PR before its clamp, from K_r, ω_r, T, the error and the pair (R109 No. 26). -/
opaque Config.prStep : F32 → F32 → F32 → F32 → F32 → F32 → F32 × F32
/-- DDSRF: cut-off, T, the four filter states, α, β and θ give the new states and d, q of both sequences (R109 No. 31). -/
opaque Config.ddsrf : F32 → F32 → List F32 → F32 → F32 → Angle → List F32 × List F32
/-- Clamps of the kernel's PI blocks (0 voltage, 1 negative sequence, 2 current, 3 negative-sequence current): x_min, x_max, y_min,
y_max. The manual mentions the clamps and gives no values (chapter 04). -/
opaque Config.kernelPi : Nat → F32 × F32 × F32 × F32
/-- Makespan measured of a run that its deadline ended, by group and frame of its latching boundary: no command carries it (R107). -/
opaque Config.overrunSpan : Nat → Nat → Nat
/-- Index of the kernel's instance that forms a binary32 state or output: the places of its 58 instances are not published (R93). -/
opaque Config.kernInst : Nat → Nat
/-- Source that a code of ACQ.020 names: the codes are not published (chapter 11). -/
opaque Config.acqSource : Nat → Src
/-- CRC-32 that a Hedgerow channel forms over its parameter set: the layout of the set is not published (R360). -/
opaque Config.hdgCrc : List PVal → Nat

/-- Rate ρ in ppb that the servo of station time asks for, from the rate in use, TIM.025 in ns and the offset in ns: the manual names
its loop time constant and limit, not its law (R432). -/
opaque Config.servoRate : Int → Nat → Int → Int

/-- Thresholds of a group A input in mV: rising, falling, wire break. The manual gives their ranges (chapter 16, input characteristics). -/
opaque Config.groupA : Nat → Int × Int × Int
/-- TYPE of an audit record for which the event table has no row: 0 field output fault (R551), 1 logic silence (R556), 2 Peat's health
bits (R535), 3 journal rebuilt (R525). -/
opaque Config.auditType : Nat → Nat

/-- Output digest of a control sample from what its boundaries published and sent, oldest first, and the ledger digest of each owned arm:
the order of the bytes is not published (R337). -/
opaque Config.outDigest : List DigFrame → List Nat → Nat

/-- What a state image holds (R338). The banks travel with it where their CRCs differ. -/
structure StateImg where
  outs  : List (List Word)
  sts   : List (List Word)
  swap  : Option Nat
  banks : Option (Bool × List Word × List Word)
  arm   : Arm
  kern  : Kern
  prot  : Prot
  kids  : List Nst
  frame : Nat

/-- Bytes of a state image: its layout is not published (R338). -/
opaque Config.stateBytes : StateImg → List Byte
/-- CRC-32 of the blocks of a frame's vector: their layout is not published (R331). -/
opaque Config.vecCrc : Vec → Nat
/-- The banks of the two members differ at a capture: what the lead has of the shadow's CRCs is carried by no block of the table (R338). -/
opaque Config.banksDiffer : Nat → Bool

/-- The state image that the bytes of the STATE blocks spell, if they spell one: its layout is not published (R338). -/
opaque Config.stateImage : List Byte → Option StateImg

/-- Number that an ACCEPTED response lists for an entry without a boundary of its own: the manual gives 0 for Bank and a frame number for
Control and Supervisory, and nothing for an Immediate or a Restart entry (R466). -/
opaque Config.noBoundary : Eff → Nat

/-- Build number of the release in a firmware slot: it carries no meaning, and the manual gives none (R579). -/
opaque Config.fwBuild : Bool → BitVec 16
/-- Nonce of an OPEN_SESSION, by a running number (R456). -/
opaque Config.nonce : Nat → List Byte
/-- Session identifier of an AUTH_SESSION, by a running number (R456). -/
opaque Config.sessionId : Nat → Nat

/-- SUPPLIER word of a node below the module's own children: their frames do not carry it to this module (R36, supervisory entry table).
Node identifier and state epoch. -/
opaque Config.farSupplier : Nat → Nat → Word

/-- Payload of GET_INFO from release word, role, node identifier, twin side, life-cycle state and key-slot occupancy; it also holds part and
serial number. Its layout is not in the manual (command table, R481). -/
opaque Config.infoPay : Word → Nat → Nat → Bool → Life → List (Nat × SRole) → List Byte
/-- Payload of READ_PARAM from frame number, state epoch and the values of each entry: its layout is not in the manual (R465). -/
opaque Config.readPay : Nat → Nat → List (Nat × Nat × List (List Byte)) → List Byte
/-- Payload of BANK_READ from the words: its layout is not in the manual (command table). -/
opaque Config.bankPay : List Word → List Byte
/-- Payload of RECORD_LIST from the record index, newest first: its layout is not in the manual (R410). -/
opaque Config.recordPay : List Rec → List Byte
/-- Text of a COMTRADE configuration file from what it says (R411, R412, IEEE C37.111-2013). -/
opaque Config.comCfg : ComSet → List Byte
/-- Bytes of a COMTRADE data file of type FLOAT32 from the rows of its sections (R411, IEEE C37.111-2013). -/
opaque Config.comDat : ComSet → List Byte
/-- Text of a COMTRADE header file from start and trigger in TAI ns, the descriptor, and row and column of each sample that could not be read
(R410, R412, R532). -/
opaque Config.comHdr : Nat → Nat → Rec → List (Nat × Nat) → List Byte
/-- Page of a record that holds a sample: main or raw set, row and column. How Peat lays a record out is not in the manual (R532). -/
opaque Config.recPage : Bool → Nat → Nat → Nat
/-- What a LOG_READ response carries before its records: whether the number named is older than the oldest record held, and that record's
number. Its layout is not in the manual (R512). -/
opaque Config.logHead : Bool → Nat → List Byte

/-- What the sections of a CONFIG image say: their layout is not in the manual (R479, R594). -/
opaque Config.imageContents : List Byte → Content
/-- Form of a KEYS (2), LIFECYCLE (3) or FIRMWARE (4) image: whether it is one, the bytes that its signature covers, and the signature.
Their layout is not in the manual (table of image kinds, R480). -/
opaque Config.otherImage : Nat → List Byte → Bool × List Byte × List Byte
/-- Key slots 1 and 2 and the credentials that a KEYS image writes: its layout is not in the manual (R481). -/
opaque Config.keysOf : List Byte → Option Nat × Option Nat × List Cred
/-- Life-cycle state that a LIFECYCLE image asks for: its layout is not in the manual (R505). -/
opaque Config.lifeOf : List Byte → Life

end Sys2Proof.Machine
end

