-- ==== Sys2Proof/Machine/F32.lean ====
section
/-!
DEFINITION. binary32 arithmetic of the module (R4, R91, R583): exact integers, one rounding to nearest with ties to even,
no traps, subnormals flushed to zero. notes/assumptions/8.md says where a flush falls.
-/
namespace Sys2Proof.Machine
open Sys2Proof

/-- Sign bit. -/
def fSign (x : F32) : Bool := x.getLsbD 31
/-- Biased exponent. -/
def fBexp (x : F32) : Nat := x.toNat / 8388608 % 256
/-- Fraction field. -/
def fFrac (x : F32) : Nat := x.toNat % 8388608

/-- Neither an infinity nor NaN. -/
def fFinite (x : F32) : Bool := (fBexp x) != 255
/-- NaN (R93). -/
def fIsNaN (x : F32) : Bool := (fBexp x) == 255 && (fFrac x) != 0
/-- An infinity. -/
def fIsInf (x : F32) : Bool := (fBexp x) == 255 && (fFrac x) == 0

/-- The one NaN the model produces. Nothing holds it: R93 replaces non-finite results. -/
def fNaN : F32 := 0x7FC00000
/-- Infinity of a sign. -/
def fInf (s : Bool) : F32 := if s then 0xFF800000 else 0x7F800000
/-- Zero of a sign. -/
def fZero (s : Bool) : F32 := if s then 0x80000000 else 0

/-- Significand of a finite value as an integer; a subnormal counts as zero. -/
def fSig (x : F32) : Nat := if (fBexp x) == 0 then 0 else 8388608 + (fFrac x)
/-- Exponent of the integer significand. -/
def fExp (x : F32) : Int := ((fBexp x) : Int) - 150

/-- The signed significand. -/
def fSsig (x : F32) : Int := if (fSign x) then -((fSig x) : Int) else (fSig x)

/-- The binary32 value nearest to `± (m + rest) × 2^e`, `rest` in [0, 1) and not zero when `sticky`: ties to even, an infinity
beyond the range, a result below the normal range flushed to zero with its sign. -/
def fRound (s : Bool) (m : Nat) (e : Int) (sticky : Bool) : F32 :=
  if m == 0 && !sticky then fZero s else
  -- at least 26 bits, so that rounding sees the half and what lies below it
  let up : Nat := 26 - min 26 (Nat.log2 m)
  let m := m <<< up
  let e := e - up
  let len := Nat.log2 m + 1
  let drop : Nat := max (len - 24) (Int.toNat (-149 - e))
  let q := m >>> drop
  let r := m % (1 <<< drop)
  let half := (1 <<< drop) / 2
  let q := if r > half || (r == half && (sticky || q % 2 == 1)) then q + 1 else q
  let e := e + drop
  let (q, e) := if q == 16777216 then (8388608, e + 1) else (q, e)
  let b := e + 150
  if q < 8388608 then fZero s
  else if b ≥ 255 then fInf s
  else BitVec.ofNat 32 ((if s then 2147483648 else 0) + b.toNat * 8388608 + (q - 8388608))

/-- The binary32 value nearest to a signed dyadic. -/
def fOfDyadic (v : Int) (e : Int) : F32 := fRound (v < 0) v.natAbs e false

/-- An integer to binary32 (R583). -/
def fOfInt (v : Int) : F32 := fOfDyadic v 0

/-- The binary32 value nearest to `n / d`, ties to even (R12, R583). -/
def fOfQ (n : Int) (d : Nat) : F32 :=
  if d == 0 then fNaN else
  let k := 64 + Nat.log2 d
  let p := n.natAbs <<< k
  fRound (n < 0) (p / d) (-(k : Int)) (p % d != 0)

/-- Negation. -/
def fNeg (x : F32) : F32 := x ^^^ 0x80000000
/-- Magnitude. -/
def fAbs (x : F32) : F32 := x &&& 0x7FFFFFFF

/-- Exact sum of two dyadics, as mantissa and exponent. -/
def fDsum (a : Int) (ea : Int) (b : Int) (eb : Int) : Int × Int :=
  if ea ≤ eb then (a + b * (1 <<< (eb - ea).toNat : Nat), ea) else (a * (1 <<< (ea - eb).toNat : Nat) + b, eb)

/-- Addition (R583). An exact zero sum of values of unlike sign is +0. -/
def fAdd (x y : F32) : F32 :=
  if (fIsNaN x) || (fIsNaN y) then fNaN
  else if (fIsInf x) then (if (fIsInf y) && (fSign x) != (fSign y) then fNaN else x)
  else if (fIsInf y) then y
  else
    let r := fDsum (fSsig x) (fExp x) (fSsig y) (fExp y)
    if r.1 == 0 then fZero ((fSign x) && (fSign y)) else fOfDyadic r.1 r.2

/-- Subtraction (R583). -/
def fSub (x y : F32) : F32 := fAdd x (fNeg y)

/-- Multiplication (R583). -/
def fMul (x y : F32) : F32 :=
  let s := (fSign x) != (fSign y)
  if (fIsNaN x) || (fIsNaN y) then fNaN
  else if (fIsInf x) || (fIsInf y) then
    (if ((fFinite x) && (fSig x) == 0) || ((fFinite y) && (fSig y) == 0) then fNaN else fInf s)
  else fRound s ((fSig x) * (fSig y)) ((fExp x) + (fExp y)) false

/-- Fused multiply-add `x·y + z` with one rounding (R583). -/
def fFma (x y z : F32) : F32 :=
  if (fFinite x) && (fFinite y) && (fFinite z) then
    let s := (fSign x) != (fSign y)
    let p : Int := if s then -(((fSig x) * (fSig y) : Nat) : Int) else ((fSig x) * (fSig y) : Nat)
    let r := fDsum p ((fExp x) + (fExp y)) (fSsig z) (fExp z)
    if r.1 == 0 then fZero (s && (fSign z)) else fOfDyadic r.1 r.2
  else if (fFinite x) && (fFinite y) then z
  else fAdd (fMul x y) z

/-- Division (R583). -/
def fDiv (x y : F32) : F32 :=
  let s := (fSign x) != (fSign y)
  if (fIsNaN x) || (fIsNaN y) || ((fIsInf x) && (fIsInf y)) then fNaN
  else if (fIsInf x) then fInf s
  else if (fIsInf y) then fZero s
  else if (fSig y) == 0 then (if (fSig x) == 0 then fNaN else fInf s)
  else
    let p := (fSig x) <<< 64
    fRound s (p / (fSig y)) ((fExp x) - (fExp y) - 64) (p % (fSig y) != 0)

/-- Reciprocal (R583). -/
def fRecip (x : F32) : F32 := fDiv 0x3F800000 x

/-- Integer square root: one bit of the root per step, from bit `k - 1` down. -/
def isqrtGo (n : Nat) : Nat → Nat → Nat
  | 0, r => r
  | k + 1, r =>
    let t := r + (1 <<< k)
    isqrtGo n k (if t * t ≤ n then t else r)

/-- Largest `r` with `r·r ≤ n`. -/
def isqrt (n : Nat) : Nat := isqrtGo n (Nat.log2 n / 2 + 1) 0

/-- Square root (R583). The root of a negative value is NaN, of -0 is -0. -/
def fSqrt (x : F32) : F32 :=
  if (fIsNaN x) then fNaN
  else if (fFinite x) && (fSig x) == 0 then fZero (fSign x)
  else if (fSign x) then fNaN
  else if (fIsInf x) then x
  else
    let odd : Bool := (fExp x) % 2 != 0
    let m := (if odd then (fSig x) * 2 else (fSig x)) <<< 40
    let e := (if odd then (fExp x) - 1 else (fExp x)) - 40
    let r := isqrt m
    fRound false r (e / 2) (r * r != m)

/-- Key that orders finite values as the reals do; both zeros and flushed subnormals are 0. -/
def fKey (x : F32) : Int :=
  if (fBexp x) == 0 then 0 else
  let k : Int := (x.toNat % 2147483648 : Nat)
  if (fSign x) then -k else k

/-- `x < y`; false with NaN. -/
def fLt (x y : F32) : Bool := !(fIsNaN x) && !(fIsNaN y) && (fKey x) < (fKey y)
/-- `x ≤ y`; false with NaN. -/
def fLe (x y : F32) : Bool := !(fIsNaN x) && !(fIsNaN y) && (fKey x) ≤ (fKey y)
/-- `x = y` as numbers; false with NaN. -/
def fEq (x y : F32) : Bool := !(fIsNaN x) && !(fIsNaN y) && (fKey x) == (fKey y)
/-- `x ≥ y`. -/
def fGe (x y : F32) : Bool := fLe y x
/-- `x > y`. -/
def fGt (x y : F32) : Bool := fLt y x

/-- The smaller; the first where they are equal. -/
def fMin (x y : F32) : F32 := if (fIsNaN x) || (fIsNaN y) then fNaN else if fLt y x then y else x
/-- The larger; the first where they are equal. -/
def fMax (x y : F32) : F32 := if (fIsNaN x) || (fIsNaN y) then fNaN else if fLt x y then y else x
/-- `v` limited to `a` to `b`; the upper value where the pair is inverted (R114). -/
def fClamp (v a b : F32) : F32 := fMin (fMax v a) b

/-- A finite value rounded to an integer, ties to even (QUANT, R175). -/
def fToIntEven (x : F32) : Int :=
  let m := (fSig x)
  let v : Nat :=
    if (fExp x) ≥ 0 then m <<< (fExp x).toNat
    else
      let d := (-(fExp x)).toNat
      let q := m >>> d
      let r := m % (1 <<< d)
      let half := (1 <<< d) / 2
      if r > half || (r == half && q % 2 == 1 && d > 0) then q + 1 else q
  if (fSign x) then -(v : Int) else v

/-- A finite value rounded toward minus infinity. -/
def fToIntFloor (x : F32) : Int :=
  if (fExp x) ≥ 0 then (fSsig x) * ((1 <<< (fExp x).toNat : Nat) : Int) else (fSsig x) / ((1 <<< (-(fExp x)).toNat : Nat) : Int)

/-- Round-half-even of the exact quotient of two integers. -/
def divEven (n : Int) (d : Nat) : Int :=
  if d == 0 then 0 else
  let q := n / (d : Int)
  let r := (n % (d : Int)).toNat
  if 2 * r > d || (2 * r == d && q % 2 != 0) then q + 1 else q

/-- A finite value as an exact fraction: numerator and denominator. -/
def fToQ (x : F32) : Int × Nat :=
  if (fExp x) ≥ 0 then ((fSsig x) * ((1 <<< (fExp x).toNat : Nat) : Int), 1) else ((fSsig x), 1 <<< (-(fExp x)).toNat)

/-- Turns to an ANGLE (ANGOP): round-half-even of `t × 2^32`, modulo `2^32`. -/
def fTurnsToAngle (t : F32) : Angle :=
  let e := (fExp t) + 32
  let v : Int := if e ≥ 0 then (fSsig t) * ((1 <<< e.toNat : Nat) : Int) else divEven (fSsig t) (1 <<< (-e).toNat)
  BitVec.ofInt 32 v

/-- An ANGLE to turns (ANGOP). -/
def fAngleToTurns (a : Angle) : F32 := fOfDyadic (a.toNat : Int) (-32)

/-- A signed 32-bit value saturated (R91). -/
def sat32 (v : Int) : Int := max (-2147483648) (min 2147483647 v)

/-- An integer as a word. -/
def wordOfInt (v : Int) : Word := BitVec.ofInt 32 v

end Sys2Proof.Machine
end

