-- ==== Sys2Proof/Machine/Params.lean ====
section
/-!
DEFINITION. The parameters that the manual's parameter tables document (R5, R10, R12): type, range, default, privilege and when a
write takes effect. Ranges and defaults are raw values: nanoseconds for TIME, bits for F32.
-/
namespace Sys2Proof.Machine
open Sys2Proof

/-- One row of a parameter table. `lo` and `hi` of an F32 are the bits of the ends. -/
structure PRow where
  n    : Nat
  len  : Nat
  ty   : PTy
  lo   : Int
  hi   : Int
  dflt : Int
  priv : SRole
  eff  : Eff
  wo   : Bool
deriving DecidableEq, Repr

/-- Parameter tables of group SYS (chapter 01). -/
def rowsSYS : List PRow :=
  [⟨1, 1, .enum, 1, 4, 1, .engineer, .image, false⟩,
   ⟨2, 1, .u8, 1, 255, 1, .engineer, .image, false⟩,
   ⟨3, 1, .u8, 0, 255, 0, .engineer, .image, false⟩,
   ⟨4, 1, .enum, 0, 3, 1, .engineer, .image, false⟩,
   ⟨5, 1, .u8, 1, 16, 4, .engineer, .image, false⟩,
   ⟨6, 1, .u8, 1, 4, 2, .engineer, .image, false⟩,
   ⟨7, 1, .u8, 1, 2, 1, .engineer, .image, false⟩]

/-- Parameter tables of group TIM (chapter 12). -/
def rowsTIM : List PRow :=
  [⟨1, 1, .enum, 0, 1, 0, .engineer, .restart, false⟩,
   ⟨10, 1, .enum, 0, 1, 0, .engineer, .immediate, false⟩,
   ⟨20, 1, .u8, 0, 255, 63, .engineer, .supervisory, false⟩,
   ⟨21, 1, .u8, 0, 255, 0, .engineer, .restart, false⟩,
   ⟨23, 1, .time, 100, 10000, 1000, .engineer, .supervisory, false⟩,
   ⟨24, 1, .time, 100, 1000000000, 1000, .engineer, .supervisory, false⟩,
   ⟨25, 1, .time, 1000000000, 1000000000000, 16000000000, .engineer, .supervisory, false⟩,
   ⟨26, 1, .time, 60000000000, 86400000000000, 3600000000000, .engineer, .supervisory, false⟩,
   ⟨30, 1, .time, 1000, 200000000, 10000000, .engineer, .supervisory, false⟩,
   ⟨31, 1, .s16, 0, 100, 37, .operator, .supervisory, false⟩,
   ⟨32, 1, .time, 0, 100000, 0, .engineer, .supervisory, false⟩,
   ⟨33, 1, .time, 0, 100000, 0, .engineer, .supervisory, false⟩] ++
  [⟨34, 1, .bool, 0, 1, 1, .guardian, .supervisory, false⟩,
   ⟨40, 2, .enum, 0, 4, 0, .engineer, .supervisory, false⟩,
   ⟨41, 2, .enum, 0, 2, 0, .engineer, .supervisory, false⟩,
   ⟨50, 1, .time, -9223372036854775808, 9223372036854775807, 0, .operator, .immediate, true⟩]

/-- Parameter tables of group MEA (chapter 02). -/
def rowsMEA : List PRow :=
  [⟨1, 24, .bool, 0, 1, 0, .engineer, .image, false⟩,
   ⟨2, 24, .enum, 0, 2, 0, .engineer, .image, false⟩,
   ⟨3, 24, .u16, 0, 1000, 0, .engineer, .supervisory, false⟩,
   ⟨4, 24, .u16, 0, 511, 0, .engineer, .image, false⟩,
   ⟨5, 24, .enum, 0, 1, 0, .engineer, .image, false⟩,
   ⟨6, 24, .enum, 0, 3, 0, .engineer, .restart, false⟩,
   ⟨7, 24, .f32, 3379831808, 1232348160, 1065353216, .engineer, .control, false⟩,
   ⟨8, 24, .f32, 3379831808, 1232348160, 0, .engineer, .control, false⟩,
   ⟨9, 12, .bool, 0, 1, 0, .engineer, .image, false⟩,
   ⟨40, 8, .bool, 0, 1, 0, .engineer, .image, false⟩,
   ⟨41, 8, .u8, 1, 4, 3, .engineer, .image, false⟩,
   ⟨42, 8, .u16, 16, 1024, 400, .engineer, .image, false⟩] ++
  [⟨43, 8, .f32, 3379831808, 1232348160, 1065353216, .engineer, .control, false⟩,
   ⟨44, 8, .f32, 3379831808, 1232348160, 0, .engineer, .control, false⟩,
   ⟨45, 8, .enum, 0, 1, 0, .engineer, .image, false⟩,
   ⟨46, 1, .bool, 0, 1, 1, .engineer, .restart, false⟩,
   ⟨80, 8, .bool, 0, 1, 0, .engineer, .image, false⟩,
   ⟨81, 8, .u64, 1154490826752, 1154490827263, 1154490826752, .engineer, .image, false⟩,
   ⟨82, 8, .u16, 16384, 32767, 16384, .engineer, .image, false⟩,
   ⟨83, 8, .u32, 0, 4294967295, 1, .engineer, .image, false⟩,
   ⟨84, 8, .enum, 0, 1, 0, .engineer, .image, false⟩,
   ⟨85, 1, .enum, 0, 1, 0, .engineer, .image, false⟩,
   ⟨86, 8, .time, 100000, 2000000, 500000, .engineer, .supervisory, false⟩,
   ⟨87, 8, .bool, 0, 1, 0, .engineer, .supervisory, false⟩] ++
  [⟨88, 8, .enum, 0, 2, 2, .engineer, .image, false⟩]

/-- Parameter tables of group ANG (chapter 02). -/
def rowsANG : List PRow :=
  [⟨1, 4, .bool, 0, 1, 0, .engineer, .image, false⟩,
   ⟨2, 4, .enum, 0, 2, 0, .engineer, .image, false⟩,
   ⟨3, 4, .u8, 0, 23, 0, .engineer, .image, false⟩,
   ⟨4, 4, .u8, 0, 23, 1, .engineer, .image, false⟩,
   ⟨5, 4, .u8, 0, 23, 2, .engineer, .image, false⟩,
   ⟨6, 4, .f32, 981668463, 1232348160, 1065353216, .engineer, .control, false⟩,
   ⟨7, 4, .f32, 1008981770, 1056964608, 1028443341, .engineer, .supervisory, false⟩,
   ⟨8, 4, .enum, 0, 5, 4, .engineer, .restart, false⟩,
   ⟨9, 4, .time, 10000000, 1000000000, 100000000, .engineer, .supervisory, false⟩,
   ⟨10, 4, .f32, 1084227584, 1114636288, 1109393408, .engineer, .supervisory, false⟩,
   ⟨11, 4, .f32, 1110704128, 1120403456, 1116471296, .engineer, .supervisory, false⟩,
   ⟨20, 4, .angle, 0, 4294967295, 0, .operator, .immediate, false⟩] ++
  [⟨21, 4, .angle, 0, 536870912, 0, .operator, .immediate, false⟩,
   ⟨22, 4, .bool, 0, 1, 0, .operator, .immediate, false⟩,
   ⟨23, 4, .bool, 0, 1, 0, .operator, .immediate, false⟩,
   ⟨24, 4, .enum, 0, 16, 0, .engineer, .image, false⟩,
   ⟨25, 4, .time, 10000000, 1000000000, 100000000, .engineer, .supervisory, false⟩]

/-- Parameter tables of group LPE (chapter 03). -/
def rowsLPE : List PRow :=
  [⟨1, 1, .u8, 1, 16, 2, .engineer, .image, false⟩,
   ⟨2, 1, .u8, 1, 8, 2, .engineer, .supervisory, false⟩,
   ⟨3, 1, .u8, 1, 8, 2, .engineer, .supervisory, false⟩,
   ⟨4, 1, .u8, 0, 50, 10, .engineer, .image, false⟩,
   ⟨5, 1, .bool, 0, 1, 1, .engineer, .image, false⟩,
   ⟨6, 1, .time, 10000000, 10000000000, 1000000000, .engineer, .supervisory, false⟩,
   ⟨7, 1, .enum, 0, 1, 0, .engineer, .image, false⟩]

/-- Parameter tables of group GFM (chapter 04). -/
def rowsGFM : List PRow :=
  [⟨1, 1, .enum, 0, 3, 0, .operator, .control, false⟩,
   ⟨2, 1, .enum, 0, 1, 0, .engineer, .image, false⟩,
   ⟨3, 1, .enum, 0, 32, 0, .engineer, .image, false⟩,
   ⟨4, 1, .enum, 0, 32, 0, .engineer, .image, false⟩,
   ⟨5, 1, .u8, 0, 4, 0, .engineer, .image, false⟩,
   ⟨6, 1, .u8, 1, 4, 1, .engineer, .image, false⟩,
   ⟨10, 1, .f32, 3217870029, 1070386381, 0, .operator, .control, false⟩,
   ⟨11, 1, .f32, 3217870029, 1070386381, 0, .operator, .control, false⟩,
   ⟨12, 1, .f32, 1061997773, 1067030938, 1065353216, .operator, .control, false⟩,
   ⟨13, 1, .f32, 1064514355, 1065772646, 1065353216, .operator, .control, false⟩,
   ⟨14, 1, .f32, 1000593162, 1045220557, 1025758986, .engineer, .bank, false⟩,
   ⟨15, 1, .f32, 0, 1036831949, 1017370378, .engineer, .bank, false⟩] ++
  [⟨17, 1, .f32, 1008981770, 1120403456, 1065353216, .engineer, .bank, false⟩,
   ⟨18, 1, .f32, 1045220557, 1106247680, 1084227584, .engineer, .bank, false⟩,
   ⟨19, 1, .f32, 0, 1128792064, 1101004800, .engineer, .bank, false⟩,
   ⟨20, 1, .enum, 0, 1, 1, .engineer, .image, false⟩,
   ⟨21, 1, .time, 1000000, 100000000, 20000000, .engineer, .bank, false⟩,
   ⟨22, 1, .f32, 1063675494, 1065353216, 1064514355, .guardian, .bank, false⟩,
   ⟨23, 1, .f32, 1065353216, 1066192077, 1065772646, .guardian, .bank, false⟩,
   ⟨24, 1, .time, 100000, 100000000, 5000000, .engineer, .bank, false⟩,
   ⟨25, 1, .f32, 1065353216, 1068708659, 1067030938, .engineer, .bank, false⟩,
   ⟨26, 1, .f32, 1092616192, 1148846080, 1128792064, .engineer, .bank, false⟩,
   ⟨30, 1, .f32, 0, 1056964608, 1017370378, .engineer, .bank, false⟩,
   ⟨31, 1, .f32, 0, 1056964608, 1036831949, .engineer, .bank, false⟩] ++
  [⟨32, 1, .f32, 0, 1112014848, 1065353216, .engineer, .bank, false⟩,
   ⟨33, 1, .f32, 0, 1065353216, 990057071, .engineer, .bank, false⟩,
   ⟨34, 1, .f32, 0, 1065353216, 1065353216, .engineer, .bank, false⟩,
   ⟨35, 1, .f32, 0, 1092616192, 1056964608, .engineer, .bank, false⟩,
   ⟨36, 1, .f32, 0, 1065353216, 1008981770, .engineer, .bank, false⟩,
   ⟨37, 1, .f32, 1008981770, 1056964608, 1043878380, .engineer, .bank, false⟩,
   ⟨38, 1, .f32, 0, 1112014848, 0, .engineer, .bank, false⟩,
   ⟨39, 1, .f32, 0, 1065353216, 0, .engineer, .bank, false⟩,
   ⟨40, 1, .f32, 1065353216, 1070386381, 1067030938, .guardian, .bank, false⟩,
   ⟨41, 1, .enum, 0, 2, 1, .engineer, .bank, false⟩,
   ⟨42, 1, .f32, 0, 1070386381, 1065353216, .engineer, .bank, false⟩,
   ⟨43, 1, .f32, 0, 1045220557, 1028443341, .engineer, .bank, false⟩] ++
  [⟨44, 1, .u16, 1, 1000, 250, .engineer, .bank, false⟩,
   ⟨45, 1, .angle, 0, 536870912, 357913941, .engineer, .bank, false⟩,
   ⟨46, 1, .angle, 1, 16777216, 131072, .engineer, .bank, false⟩,
   ⟨47, 1, .f32, 1028443341, 1056964608, 1045220557, .engineer, .bank, false⟩,
   ⟨50, 1, .u8, 1, 100, 10, .engineer, .bank, false⟩,
   ⟨51, 1, .f32, 1008981770, 1065353216, 1036831949, .engineer, .bank, false⟩,
   ⟨52, 1, .angle, 1, 1073741824, 119304647, .engineer, .bank, false⟩,
   ⟨53, 1, .f32, 1008981770, 1070386381, 1045220557, .engineer, .bank, false⟩,
   ⟨60, 1, .f32, 1056964608, 1066192077, 1065353216, .engineer, .bank, false⟩,
   ⟨61, 1, .time, 20000000, 10000000000, 2000000000, .engineer, .bank, false⟩,
   ⟨62, 1, .f32, 1064514355, 1065772646, 1065353216, .engineer, .bank, false⟩,
   ⟨63, 1, .f32, 1017370378, 1050253722, 1036831949, .engineer, .supervisory, false⟩] ++
  [⟨64, 1, .time, 10000000, 10000000000, 500000000, .engineer, .supervisory, false⟩,
   ⟨65, 1, .f32, 1056964608, 1065353216, 1061997773, .engineer, .supervisory, false⟩,
   ⟨70, 1, .angle, 1, 178956971, 59652324, .engineer, .bank, false⟩,
   ⟨71, 1, .f32, 961656599, 1008981770, 990057071, .engineer, .bank, false⟩,
   ⟨72, 1, .f32, 1008981770, 1045220557, 1028443341, .engineer, .bank, false⟩,
   ⟨73, 1, .u16, 1, 50000, 500, .engineer, .bank, false⟩,
   ⟨74, 1, .f32, 0, 1036831949, 1008981770, .engineer, .bank, false⟩,
   ⟨75, 1, .angle, 0, 4294967295, 0, .engineer, .image, false⟩,
   ⟨76, 1, .time, 20000000, 2000000000, 300000000, .engineer, .supervisory, false⟩,
   ⟨77, 1, .time, 10000000, 1000000000, 100000000, .engineer, .supervisory, false⟩,
   ⟨90, 1, .bool, 0, 1, 0, .engineer, .image, false⟩,
   ⟨91, 1, .f32, 1061997773, 1067030938, 1065353216, .operator, .control, false⟩] ++
  [⟨92, 1, .f32, 1008981770, 1045220557, 1028443341, .engineer, .bank, false⟩,
   ⟨93, 1, .f32, 0, 1070386381, 1065353216, .engineer, .bank, false⟩]

/-- Parameter tables of group ARM (chapter 05). -/
def rowsARM : List PRow :=
  [⟨1, 12, .enum, 0, 2, 0, .engineer, .image, false⟩,
   ⟨3, 12, .enum, 0, 1, 0, .engineer, .supervisory, false⟩,
   ⟨4, 12, .u16, 100, 40000, 16000, .engineer, .supervisory, false⟩,
   ⟨5, 12, .u16, 10, 10000, 1000, .engineer, .supervisory, false⟩,
   ⟨10, 2, .u16, 0, 2000, 300, .engineer, .supervisory, false⟩,
   ⟨11, 2, .u8, 0, 64, 2, .engineer, .supervisory, false⟩,
   ⟨12, 2, .f32, 0, 1148846080, 1101004800, .engineer, .supervisory, false⟩,
   ⟨13, 2, .u8, 0, 23, 0, .engineer, .image, false⟩,
   ⟨20, 1, .time, 2000000, 100000000, 20000000, .engineer, .supervisory, false⟩,
   ⟨21, 1, .u8, 1, 16, 4, .engineer, .supervisory, false⟩,
   ⟨22, 1, .time, 10000000, 1000000000, 100000000, .engineer, .supervisory, false⟩,
   ⟨23, 1, .u8, 1, 16, 4, .engineer, .supervisory, false⟩] ++
  [⟨30, 2, .f32, 0, 1092616192, 1065353216, .engineer, .supervisory, false⟩,
   ⟨31, 2, .time, 50000, 2000000, 200000, .engineer, .image, false⟩,
   ⟨41, 1, .u16, 0, 511, 0, .engineer, .supervisory, true⟩]

/-- Parameter tables of group PWM (chapter 05). -/
def rowsPWM : List PRow :=
  [⟨1, 512, .u8, 0, 15, 0, .engineer, .image, false⟩,
   ⟨2, 1, .u16, 0, 65535, 65535, .engineer, .supervisory, false⟩,
   ⟨10, 512, .u32, 0, 4294967295, 0, .engineer, .immediate, false⟩,
   ⟨11, 512, .u32, 0, 2048000, 0, .engineer, .immediate, false⟩,
   ⟨12, 512, .u32, 0, 2047999, 0, .engineer, .immediate, false⟩,
   ⟨13, 1, .u16, 0, 65535, 0, .engineer, .immediate, true⟩,
   ⟨20, 1, .u16, 0, 65535, 0, .engineer, .supervisory, false⟩,
   ⟨21, 1, .u8, 0, 25, 10, .engineer, .supervisory, false⟩,
   ⟨22, 1, .u8, 1, 20, 2, .engineer, .supervisory, false⟩,
   ⟨30, 1, .bool, 0, 1, 0, .engineer, .supervisory, false⟩,
   ⟨31, 1, .u8, 1, 8, 1, .guardian, .image, false⟩,
   ⟨32, 8, .u16, 0, 65535, 65535, .engineer, .supervisory, false⟩] ++
  [⟨33, 1, .enum, 0, 1, 0, .engineer, .supervisory, false⟩]

/-- Parameter tables of group LNK (chapter 06). -/
def rowsLNK : List PRow :=
  [⟨1, 32, .enum, 0, 5, 0, .engineer, .image, false⟩,
   ⟨2, 32, .u8, 0, 32, 0, .engineer, .image, false⟩,
   ⟨3, 1, .time, 0, 2000, 1000, .engineer, .image, false⟩,
   ⟨10, 1056, .u16, 0, 4000, 0, .engineer, .image, false⟩,
   ⟨11, 1, .f32, 1083808154, 1084437299, 1084017869, .engineer, .image, false⟩,
   ⟨12, 1, .u16, 10, 200, 50, .engineer, .image, false⟩,
   ⟨20, 1, .u8, 1, 16, 4, .engineer, .supervisory, false⟩,
   ⟨21, 1, .u16, 16, 1024, 64, .engineer, .supervisory, false⟩,
   ⟨22, 1, .bool, 0, 1, 0, .engineer, .supervisory, false⟩,
   ⟨23, 1, .u8, 0, 31, 0, .operator, .supervisory, true⟩,
   ⟨25, 1, .u8, 0, 20, 10, .engineer, .image, false⟩,
   ⟨26, 1, .u32, 0, 4294967295, 16777216, .engineer, .image, false⟩]

/-- Parameter tables of group NST (chapter 07). -/
def rowsNST : List PRow :=
  [⟨1, 2, .enum, 0, 36, 0, .engineer, .image, false⟩,
   ⟨2, 64, .enum, 0, 36, 0, .engineer, .image, false⟩,
   ⟨3, 32, .u8, 0, 255, 0, .engineer, .image, false⟩,
   ⟨4, 64, .u8, 0, 11, 0, .engineer, .image, false⟩,
   ⟨5, 36, .u16, 0, 4000, 0, .engineer, .image, false⟩,
   ⟨10, 1, .u8, 1, 16, 4, .engineer, .supervisory, false⟩,
   ⟨12, 1, .u8, 1, 16, 4, .engineer, .supervisory, false⟩,
   ⟨30, 1, .u16, 0, 2000, 200, .engineer, .supervisory, false⟩,
   ⟨31, 1, .u8, 0, 16, 1, .engineer, .supervisory, false⟩,
   ⟨60, 1, .u16, 1, 10000, 200, .engineer, .supervisory, false⟩,
   ⟨61, 1, .u16, 1, 10000, 1000, .guardian, .supervisory, false⟩,
   ⟨62, 1, .time, 1000000000, 3600000000000, 60000000000, .engineer, .supervisory, false⟩]

/-- Parameter tables of group PRT (chapter 08). -/
def rowsPRT : List PRow :=
  [⟨1, 1024, .enum, 0, 5, 0, .guardian, .supervisory, false⟩,
   ⟨2, 64, .u8, 0, 255, 0, .guardian, .supervisory, false⟩,
   ⟨4, 7680, .bool, 0, 1, 0, .guardian, .supervisory, false⟩,
   ⟨5, 540, .bool, 0, 1, 0, .guardian, .supervisory, false⟩,
   ⟨6, 240, .bool, 0, 1, 0, .guardian, .supervisory, false⟩,
   ⟨7, 30, .bool, 0, 1, 0, .guardian, .supervisory, false⟩,
   ⟨10, 2, .u8, 0, 23, 0, .guardian, .image, false⟩,
   ⟨11, 2, .f32, 0, 1184645120, 1165623296, .guardian, .supervisory, false⟩,
   ⟨12, 2, .f32, 3332128768, 0, 3313106944, .guardian, .supervisory, false⟩,
   ⟨13, 1, .time, 1500, 3000, 3000, .guardian, .image, false⟩,
   ⟨20, 1, .u8, 0, 23, 0, .guardian, .image, false⟩,
   ⟨21, 1, .f32, 1065353216, 1069547520, 1067030938, .guardian, .supervisory, false⟩] ++
  [⟨22, 1, .f32, 1050253722, 1065353216, 1060320051, .guardian, .supervisory, false⟩,
   ⟨23, 1, .u8, 1, 4, 1, .guardian, .image, false⟩,
   ⟨24, 1, .f32, 1065772646, 1070386381, 1067869798, .guardian, .supervisory, false⟩,
   ⟨25, 1, .u8, 100, 150, 120, .guardian, .supervisory, false⟩,
   ⟨26, 1, .u8, 10, 100, 50, .guardian, .supervisory, false⟩,
   ⟨30, 8, .enum, 0, 32, 0, .guardian, .image, false⟩,
   ⟨31, 8, .enum, 0, 1, 0, .guardian, .supervisory, false⟩,
   ⟨40, 1, .bool, 0, 1, 0, .operator, .supervisory, true⟩]

/-- Parameter tables of group TWN (chapter 09). -/
def rowsTWN : List PRow :=
  [⟨1, 1, .bool, 0, 1, 0, .engineer, .image, false⟩,
   ⟨2, 1, .enum, 0, 1, 1, .engineer, .supervisory, false⟩,
   ⟨3, 1, .time, 3600000000000, 2592000000000000, 86400000000000, .engineer, .supervisory, false⟩,
   ⟨4, 1, .time, 1000000000, 60000000000, 10000000000, .engineer, .image, false⟩,
   ⟨5, 1, .u16, 0, 300, 50, .engineer, .image, false⟩,
   ⟨7, 1, .bool, 0, 1, 1, .engineer, .supervisory, false⟩,
   ⟨8, 1, .u8, 1, 16, 3, .engineer, .supervisory, false⟩,
   ⟨10, 1, .u16, 0, 65535, 0, .engineer, .image, false⟩,
   ⟨11, 1, .bool, 0, 1, 0, .operator, .supervisory, true⟩,
   ⟨12, 1, .bool, 0, 1, 0, .operator, .supervisory, true⟩]

/-- Parameter tables of group HDG (chapter 10). -/
def rowsHDG : List PRow :=
  [⟨1, 6, .u8, 0, 23, 0, .guardian, .image, false⟩,
   ⟨2, 6, .u8, 0, 6, 0, .guardian, .image, false⟩,
   ⟨3, 12, .f32, 3407386240, 1259902592, 1065353216, .guardian, .image, false⟩,
   ⟨6, 1, .f32, 1065353216, 1232348160, 1065353216, .guardian, .image, false⟩,
   ⟨7, 1, .f32, 1065353216, 1232348160, 1065353216, .guardian, .image, false⟩,
   ⟨8, 1, .f32, 1065353216, 1203982336, 1065353216, .guardian, .image, false⟩,
   ⟨10, 4, .bool, 0, 1, 0, .guardian, .supervisory, false⟩,
   ⟨11, 1, .f32, 1109393408, 1116471296, 1111359488, .guardian, .supervisory, false⟩,
   ⟨12, 1, .f32, 1109393408, 1116471296, 1112670208, .guardian, .supervisory, false⟩,
   ⟨13, 1, .u8, 1, 8, 4, .guardian, .supervisory, false⟩,
   ⟨14, 1, .f32, 1028443341, 1056964608, 1045220557, .guardian, .supervisory, false⟩,
   ⟨15, 1, .enum, 0, 1, 0, .guardian, .supervisory, false⟩] ++
  [⟨21, 1, .angle, 1, 1073741824, 715827883, .guardian, .supervisory, false⟩,
   ⟨31, 1, .enum, 0, 1, 0, .guardian, .image, false⟩,
   ⟨32, 1, .f32, 1008981770, 1056964608, 1028443341, .guardian, .supervisory, false⟩,
   ⟨33, 1, .enum, 0, 2, 0, .guardian, .supervisory, false⟩,
   ⟨34, 1, .f32, 1008981770, 1056964608, 1028443341, .guardian, .supervisory, false⟩,
   ⟨40, 4, .u8, 1, 5, 2, .guardian, .supervisory, false⟩,
   ⟨41, 4, .enum, 0, 2, 2, .guardian, .supervisory, false⟩,
   ⟨42, 1, .time, 0, 1000000000, 100000000, .guardian, .supervisory, false⟩,
   ⟨50, 8, .enum, 0, 5, 0, .guardian, .image, false⟩,
   ⟨51, 8, .enum, 0, 1, 0, .guardian, .image, false⟩,
   ⟨52, 8, .u16, 10, 500, 100, .guardian, .supervisory, false⟩,
   ⟨60, 1, .enum, 0, 1, 0, .guardian, .image, false⟩] ++
  [⟨61, 1, .bool, 0, 1, 0, .operator, .supervisory, true⟩,
   ⟨70, 2, .time, 1000000000, 60000000000, 10000000000, .guardian, .supervisory, false⟩,
   ⟨71, 1, .time, 100000, 500000, 300000, .guardian, .supervisory, false⟩,
   ⟨72, 1, .bool, 0, 1, 0, .guardian, .image, false⟩,
   ⟨80, 6, .u8, 1, 10, 2, .guardian, .supervisory, false⟩,
   ⟨81, 1, .u8, 5, 100, 20, .guardian, .supervisory, false⟩]

/-- Parameter tables of group ACQ (chapter 11). -/
def rowsACQ : List PRow :=
  [⟨2, 1, .u16, 1, 1000, 1, .engineer, .image, false⟩,
   ⟨3, 1, .time, 0, 2000000000, 200000000, .engineer, .image, false⟩,
   ⟨4, 1, .time, 0, 10000000000, 1000000000, .engineer, .image, false⟩,
   ⟨5, 1, .time, 0, 10000000000, 0, .engineer, .image, false⟩,
   ⟨6, 1, .u16, 2, 65535, 100, .engineer, .image, false⟩,
   ⟨7, 1, .enum, 0, 1, 0, .engineer, .supervisory, false⟩,
   ⟨8, 1, .time, 0, 60000000000, 1000000000, .engineer, .supervisory, false⟩,
   ⟨9, 1, .u16, 0, 65535, 0, .engineer, .supervisory, false⟩,
   ⟨10, 1, .bool, 0, 1, 1, .engineer, .supervisory, false⟩,
   ⟨11, 1, .bool, 0, 1, 1, .engineer, .supervisory, false⟩,
   ⟨12, 1, .bool, 0, 1, 0, .operator, .supervisory, false⟩,
   ⟨13, 1, .bool, 0, 1, 0, .operator, .supervisory, true⟩] ++
  [⟨20, 64, .u32, 0, 4294967295, 0, .engineer, .image, false⟩,
   ⟨30, 4, .u8, 0, 255, 255, .engineer, .image, false⟩,
   ⟨31, 1, .time, 0, 100000000, 10000000, .engineer, .image, false⟩,
   ⟨32, 1, .time, 0, 400000000, 40000000, .engineer, .image, false⟩,
   ⟨40, 16, .enum, 0, 11, 0, .engineer, .supervisory, false⟩,
   ⟨41, 16, .u16, 0, 65535, 0, .engineer, .supervisory, false⟩,
   ⟨42, 16, .f32, 4286578687, 2139095039, 0, .engineer, .supervisory, false⟩,
   ⟨43, 16, .f32, 0, 1315859240, 0, .engineer, .supervisory, false⟩,
   ⟨44, 16, .u16, 1, 256, 1, .engineer, .supervisory, false⟩,
   ⟨45, 16, .u16, 0, 65535, 0, .engineer, .supervisory, false⟩,
   ⟨46, 16, .bool, 0, 1, 1, .engineer, .supervisory, false⟩]

/-- Parameter tables of group MBX (chapter 13). -/
def rowsMBX : List PRow :=
  [⟨1, 8, .enum, 0, 2, 1, .guardian, .restart, false⟩,
   ⟨2, 8, .u8, 0, 3, 0, .guardian, .supervisory, false⟩,
   ⟨3, 1, .time, 10000000000, 86400000000000, 900000000000, .engineer, .supervisory, false⟩,
   ⟨4, 1, .u16, 1024, 65520, 4774, .guardian, .restart, false⟩,
   ⟨10, 1, .u16, 1, 1000, 1, .operator, .supervisory, false⟩,
   ⟨20, 1, .enum, 0, 0, 0, .engineer, .image, false⟩]

/-- Parameter tables of group CFG (chapter 14). -/
def rowsCFG : List PRow :=
  [⟨5, 1, .u32, 0, 4294967295, 0, .guardian, .immediate, false⟩,
   ⟨10, 2, .u16, 0, 64, 0, .engineer, .image, false⟩,
   ⟨11, 2, .u16, 0, 64, 0, .engineer, .image, false⟩,
   ⟨12, 1, .enum, 0, 2, 1, .engineer, .image, false⟩,
   ⟨20, 1, .time, 20000000, 10000000000, 100000000, .engineer, .image, false⟩,
   ⟨31, 1, .u8, 1, 8, 3, .guardian, .immediate, false⟩]

/-- Parameter tables of group BST (chapter 14). -/
def rowsBST : List PRow :=
  [⟨1, 1, .bool, 0, 1, 1, .engineer, .supervisory, false⟩,
   ⟨2, 1, .time, 5000000000, 30000000000, 30000000000, .engineer, .supervisory, false⟩,
   ⟨3, 1, .u16, 0, 8191, 8191, .engineer, .supervisory, false⟩,
   ⟨4, 1, .time, 86400000000000, 31536000000000000, 2592000000000000, .engineer, .supervisory, false⟩]

/-- Parameter tables of group LOG (chapter 14). -/
def rowsLOG : List PRow :=
  [⟨1, 1, .bool, 0, 1, 0, .guardian, .supervisory, false⟩,
   ⟨2, 1, .u64, 0, 18446744073709551615, 0, .operator, .immediate, false⟩,
   ⟨3, 1, .u32, 1000, 900000, 500000, .engineer, .supervisory, false⟩]

/-- Parameter tables of group STO (chapter 15). -/
def rowsSTO : List PRow :=
  [⟨1, 1, .time, 86400000000000, 7776000000000000, 2592000000000000, .engineer, .supervisory, false⟩,
   ⟨2, 1, .u8, 1, 20, 8, .engineer, .supervisory, false⟩,
   ⟨3, 1, .u16, 500, 10000, 2000, .engineer, .supervisory, false⟩,
   ⟨4, 1, .time, 100000000, 10000000000, 1000000000, .engineer, .supervisory, false⟩,
   ⟨5, 1, .time, 100000000, 10000000000, 1000000000, .engineer, .supervisory, false⟩,
   ⟨10, 1, .enum, 0, 1, 0, .engineer, .supervisory, false⟩,
   ⟨11, 1, .u16, 64, 1200, 400, .engineer, .supervisory, false⟩,
   ⟨12, 1, .u16, 50, 500, 200, .engineer, .supervisory, false⟩,
   ⟨20, 1, .bool, 0, 1, 0, .operator, .supervisory, true⟩]

/-- Parameter tables of group FIO (chapter 16). -/
def rowsFIO : List PRow :=
  [⟨1, 32, .u16, 0, 2000, 100, .engineer, .supervisory, false⟩,
   ⟨3, 32, .bool, 0, 1, 0, .engineer, .supervisory, false⟩,
   ⟨5, 2, .enum, 0, 3, 3, .engineer, .image, false⟩,
   ⟨20, 16, .enum, 0, 2, 0, .engineer, .image, false⟩,
   ⟨21, 1, .u16, 0, 65535, 0, .operator, .supervisory, false⟩,
   ⟨22, 16, .enum, 0, 2, 0, .guardian, .supervisory, false⟩,
   ⟨23, 1, .time, 10000000, 1000000000, 100000000, .guardian, .supervisory, false⟩,
   ⟨24, 16, .bool, 0, 1, 1, .engineer, .supervisory, false⟩,
   ⟨25, 1, .time, 100000, 500000, 200000, .engineer, .supervisory, false⟩,
   ⟨26, 1, .time, 1000000000, 60000000000, 10000000000, .engineer, .supervisory, false⟩,
   ⟨27, 16, .bool, 0, 1, 1, .engineer, .supervisory, false⟩,
   ⟨30, 1, .u16, 0, 65535, 0, .operator, .supervisory, true⟩]

/-- Parameter tables of group PWR (chapter 12). -/
def rowsPWR : List PRow :=
  [⟨1, 1, .u8, 0, 255, 1, .engineer, .immediate, false⟩,
   ⟨2, 1, .enum, 0, 32, 0, .engineer, .immediate, false⟩]

/-- Rows of a group by its code (R464). -/
def groupRows : Nat → List PRow
  | 0 => rowsSYS
  | 1 => rowsTIM
  | 2 => rowsMEA
  | 3 => rowsANG
  | 4 => rowsLPE
  | 5 => rowsGFM
  | 6 => rowsARM
  | 7 => rowsPWM
  | 8 => rowsLNK
  | 9 => rowsNST
  | 10 => rowsPRT
  | 11 => rowsTWN
  | 12 => rowsHDG
  | 13 => rowsACQ
  | 14 => rowsMBX
  | 15 => rowsCFG
  | 16 => rowsBST
  | 17 => rowsLOG
  | 18 => rowsSTO
  | 19 => rowsFIO
  | 20 => rowsPWR
  | _ => []

/-- Group code of SYS (R464). -/
abbrev gSYS : Nat := 0
/-- Group code of TIM (R464). -/
abbrev gTIM : Nat := 1
/-- Group code of MEA (R464). -/
abbrev gMEA : Nat := 2
/-- Group code of ANG (R464). -/
abbrev gANG : Nat := 3
/-- Group code of LPE (R464). -/
abbrev gLPE : Nat := 4
/-- Group code of GFM (R464). -/
abbrev gGFM : Nat := 5
/-- Group code of ARM (R464). -/
abbrev gARM : Nat := 6
/-- Group code of PWM (R464). -/
abbrev gPWM : Nat := 7
/-- Group code of LNK (R464). -/
abbrev gLNK : Nat := 8
/-- Group code of NST (R464). -/
abbrev gNST : Nat := 9
/-- Group code of PRT (R464). -/
abbrev gPRT : Nat := 10
/-- Group code of TWN (R464). -/
abbrev gTWN : Nat := 11
/-- Group code of HDG (R464). -/
abbrev gHDG : Nat := 12
/-- Group code of ACQ (R464). -/
abbrev gACQ : Nat := 13
/-- Group code of MBX (R464). -/
abbrev gMBX : Nat := 14
/-- Group code of CFG (R464). -/
abbrev gCFG : Nat := 15
/-- Group code of BST (R464). -/
abbrev gBST : Nat := 16
/-- Group code of LOG (R464). -/
abbrev gLOG : Nat := 17
/-- Group code of STO (R464). -/
abbrev gSTO : Nat := 18
/-- Group code of FIO (R464). -/
abbrev gFIO : Nat := 19
/-- Group code of PWR (R464). -/
abbrev gPWR : Nat := 20
/-- Group code of DIA (R464). -/
abbrev gDIA : Nat := 21

/-- The row of a parameter. -/
def prow (id : Pid) : Option PRow := (groupRows id.g).find? (fun r => r.n == id.n)

/-- Default filters of the fault sources (chapter 08, source table): sources with a default other than 0. -/
def dfltFilter (k : Nat) : Nat :=
  if k == 0 || k == 1 then 1 else if k == 5 then 2 else if k == 6 then 8 else if k == 9 then 4 else if k == 10 then 20
  else if k == 11 then 40 else if 20 ≤ k && k ≤ 27 then 2 else 0

/-- Stored value of a parameter element, where one is stored. -/
def pStored (l : List PVal) (id : Pid) (e : Nat) : Option Raw := (l.find? (fun p => p.id == id && p.e == e)).map (·.v)

/-- Port `p` is the tail of a dual-ended chain (LNK.001). -/
def State.isTail (s : State) (p : Nat) : Bool := pStored s.par.vals ⟨gLNK, 1⟩ p == some 3

/-- A port serves an arm: some configured channel of its chain belongs to it; the cells of a dual-ended chain are listed under its head. -/
def State.portServes (s : State) (p a : Nat) : Bool :=
  s.arm.cells.any (fun c => c.conf && c.arm == a && (c.port == p || (c.port + 1 == p && s.isTail p)))

/-- Default cell of the trip matrix (R321); the row of DESAT_MULTI is fixed (R294). Action codes of R296. -/
def dfltAction (s : State) (k g : Nat) : Nat :=
  if g == 15 then
    if k == 4 || k == 5 || k == 9 || k == 15 || k == 16 || k == 28 || k == 11 then 2
    else if k == 12 || k == 13 || k == 14 then 5
    else if k == 6 || k == 7 || k == 8 || k == 10 || k == 17 || k == 18 || k == 19 || k == 30 || k == 31 then 1
    else 0
  else if g == 2 && k == 11 then 4
  else if g ≤ 1 then
    if k == g || k == 2 + g then 2
    else if 32 ≤ k && k < 64 && s.portServes (k - 32) g then 2
    else 0
  else 0

/-- A nest port of index 0 to 3 (N0 to N3) or 4 to 35 (P00 to P31), coded as NST.001 (0 none), is a child port. -/
def State.childPort (s : State) (code : Nat) : Bool :=
  s.par.vals.any (fun p => p.id == ⟨gNST, 2⟩ && p.v.toNat == code)

/-- Port index of PRT.005 (0 to 31 for P00 to P31, 32 to 35 for N0 to N3) as coded in NST.001. -/
def nstCode (i : Nat) : Nat := if i < 32 then i + 5 else i - 31

/-- Default of a parameter element (parameter tables; R295, R321 for the Bramble arrays). -/
def dfltRaw (s : State) (id : Pid) (e : Nat) : Raw :=
  let d : Int :=
    if id.g == gPRT && id.n == 1 then (dfltAction s (e / 16) (e % 16) : Nat)
    else if id.g == gPRT && id.n == 2 then (dfltFilter e : Nat)
    else if id.g == gPRT && id.n == 4 then
      (let g := e / 512; let c := s.arm.cells.getD (e % 512) Cell.reset; if g < 2 && c.conf && c.arm == g then 1 else 0)
    else if id.g == gPRT && id.n == 5 then
      (let g := e / 36; if (g == 3 && s.childPort (nstCode (e % 36))) || (g < 2 && s.portServes (e % 36) g) then 1 else 0)
    else if id.g == gPRT && id.n == 7 then (if e == 4 then 1 else 0)
    else if id.g == gMBX && id.n == 1 then (if e < 6 then 1 else 2)
    else if id.g == gMBX && id.n == 2 then (if e == 0 then 0 else 1)
    else ((prow id).map (·.dflt)).getD 0
  BitVec.ofInt 64 d

/-- Value of a parameter element: what was last accepted and in effect, else the default. -/
def State.raw (s : State) (g n : Nat) (e : Nat := 0) : Raw :=
  (pStored s.par.vals ⟨g, n⟩ e).getD (dfltRaw s ⟨g, n⟩ e)

/-- As an unsigned number. -/
def State.pn (s : State) (g n : Nat) (e : Nat := 0) : Nat := (s.raw g n e).toNat
/-- As a signed number. -/
def State.pi (s : State) (g n : Nat) (e : Nat := 0) : Int := (s.raw g n e).toInt
/-- As a truth value. -/
def State.pb (s : State) (g n : Nat) (e : Nat := 0) : Bool := s.raw g n e != 0
/-- As a binary32 or 32-bit word. -/
def State.pf (s : State) (g n : Nat) (e : Nat := 0) : F32 := (s.raw g n e).setWidth 32

/-- Order of the stored list: group, number, element. -/
def pvLt (a b : PVal) : Bool :=
  a.id.g < b.id.g || (a.id.g == b.id.g && (a.id.n < b.id.n || (a.id.n == b.id.n && a.e < b.e)))

/-- A value put into the sorted list. -/
def pvPut (v : PVal) : List PVal → List PVal
  | [] => [v]
  | p :: l => if p.id == v.id && p.e == v.e then v :: l else if pvLt v p then v :: p :: l else p :: pvPut v l

/-- Stores an accepted value. -/
def State.setRaw (s : State) (id : Pid) (e : Nat) (v : Raw) : State :=
  s.modPar (fun p => { p with vals := pvPut ⟨id, e, v⟩ p.vals })

end Sys2Proof.Machine
end

