-- ==== Sys2Proof/Machine/Ops.lean ====
section
/-!
DEFINITION. Operations that every family shares: the timing grid (chapter 01), access to the records of State, audit records
(R508 to R510), sticky status bits (R7, R8) and interrupt bits.
-/
namespace Sys2Proof.Machine
open Sys2Proof

/-! ### The timing grid -/

/-- Frame period T_f in ns (SYS.004). -/
def State.tf (s : State) : Nat :=
  match s.pn gSYS 4 with
  | 0 => 4000
  | 1 => 5000
  | 2 => 8000
  | _ => 10000

/-- Frames per second (R24). -/
def State.fps (s : State) : Nat := 1000000000 / s.tf
/-- Frames per millisecond (R24). -/
def State.fpms (s : State) : Nat := 1000000 / s.tf
/-- Control sample length N_c in frames (SYS.005). -/
def State.nc (s : State) : Nat := s.pn gSYS 5
/-- Control-group deadline D_c in frames (LPE.001). -/
def State.dc (s : State) : Nat := s.pn gLPE 1
/-- Frame number of the latest boundary (R25). -/
def State.fr (s : State) : Nat := s.clk.frame
/-- Station time of the latest boundary, ns. -/
def State.now (s : State) : Nat := s.clk.tai

/-- A frame number is a control boundary (R26). -/
def State.isCtl (s : State) (f : Nat) : Bool := f % s.nc == 0
/-- A frame number is a supervisory boundary (R27). -/
def State.isSup (s : State) (f : Nat) : Bool := f % s.fpms == 0
/-- The first control boundary after a frame. -/
def State.nextCtl (s : State) (f : Nat) : Nat := (f / s.nc + 1) * s.nc
/-- The first supervisory boundary after a frame. -/
def State.nextSup (s : State) (f : Nat) : Nat := (f / s.fpms + 1) * s.fpms
/-- The newest control boundary at or before a frame. -/
def State.lastCtl (s : State) (f : Nat) : Nat := f / s.nc * s.nc

/-- Control sample T_s in ns. -/
def State.tsNs (s : State) : Nat := s.nc * s.tf

/-- Seconds from nanoseconds as binary32, correctly rounded. -/
def fSec (ns : Nat) : F32 := fOfQ ns 1000000000

/-! ### Role and tree (R15 to R23) -/

/-- Role of the module (SYS.001). -/
def State.role (s : State) : Role :=
  match s.pn gSYS 1 with
  | 1 => .arm
  | 2 => .aggregator
  | 3 => .pole
  | _ => .compact

/-- POLE or COMPACT (R18). -/
def State.isRoot (s : State) : Bool := s.role == .pole || s.role == .compact
/-- ARM or COMPACT: owns submodules. -/
def State.isLeaf (s : State) : Bool := s.role == .arm || s.role == .compact
/-- ARM or AGGREGATOR: has a parent. -/
def State.hasParent (s : State) : Bool := s.role == .arm || s.role == .aggregator
/-- Arms owned (SYS.007). -/
def State.nArms (s : State) : Nat := if s.role == .pole then 0 else s.pn gSYS 7

/-- Parent of a node in the topology section; 0 for none. -/
def parentOf (nodes : List TopoNode) (id : Nat) : Nat := ((nodes.find? (fun n => n.id == id)).map (·.parent)).getD 0

/-- Hops from a node to the root, at most `k`. -/
def depthOf (nodes : List TopoNode) : Nat → Nat → Nat
  | 0, _ => 0
  | k + 1, id => if parentOf nodes id == 0 then 0 else 1 + depthOf nodes k (parentOf nodes id)

/-- The node's subtree relation: `a` lies at or above `id`, within `k` hops. -/
def isUnder (nodes : List TopoNode) (a : Nat) : Nat → Nat → Bool
  | 0, id => id == a
  | k + 1, id => id == a || (parentOf nodes id != 0 && isUnder nodes a k (parentOf nodes id))

/-- Nest hops from the root to the deepest leaf of a topology (R42). -/
def hMax (nodes : List TopoNode) : Nat :=
  nodes.foldl (fun m n => if n.role == .arm then max m (depthOf nodes 255 n.id) else m) 0

/-- Nodes of the running topology. -/
def State.nodes (s : State) : List TopoNode := (s.sys.run.map (·.nodes)).getD []
/-- h_max of the running topology. -/
def State.hmax (s : State) : Nat := hMax s.nodes
/-- Depth of this module. -/
def State.depth (s : State) : Nat := depthOf s.nodes 255 (s.pn gSYS 2)

/-! ### Power and module state -/

/-- Every domain but AO is off (R14, R441). -/
def State.asleep (s : State) : Bool := s.sys.st == .dormant
/-- CORE and LINK are on: neither DORMANT nor STANDBY (R441). -/
def State.awake (s : State) : Bool := s.sys.st != .dormant && s.sys.st != .standby
/-- The management processor answers: any state but DORMANT (R14). -/
def State.up (s : State) : Bool := s.sys.st != .dormant
/-- RUNNING. -/
def State.running (s : State) : Bool := s.sys.st == .running

/-- The module is the SHADOW of a twin pair (TWN.001, R232 ROLE). -/
def State.isShadow (s : State) : Bool := s.pb gTWN 1 && s.twin.shadow

/-- Code of a module state in SYS_STATE. -/
def MState.code : MState → Nat
  | .dormant => 0 | .standby => 1 | .configPending => 2 | .ready => 3 | .running => 4 | .faulted => 5

/-! ### Access to the records -/

/-- SYS_FW_RELEASE of a firmware slot: release 3.2, with a build of its own (R1, R3, R579). -/
def Config.fwRelease (slotB : Bool) : Word := 0x0302#16 ++ Config.fwBuild slotB

/-- Changes submodule channel `c`. -/
def State.updCell (s : State) (c : Nat) (f : Cell → Cell) : State := s.modArm (fun a => { a with cells := a.cells.modify c f })
/-- Changes every configured channel. -/
def State.mapCells (s : State) (f : Nat → Cell → Cell) : State :=
  s.modArm (fun a => { a with cells := a.cells.mapIdx (fun i c => if c.conf then f i c else c) })
/-- Submodule channel `c`. -/
def State.cell (s : State) (c : Nat) : Cell := s.arm.cells.getD c Cell.reset
/-- Changes owned arm `a`. -/
def State.updArm (s : State) (a : Nat) (f : ArmS → ArmS) : State := s.modArm (fun x => { x with arms := x.arms.modify a f })
/-- Owned arm `a`. -/
def State.armS (s : State) (a : Nat) : ArmS := s.arm.arms.getD a ArmS.reset
/-- Changes the root's record of converter arm `a`. -/
def State.updRef (s : State) (a : Nat) (f : RefA → RefA) : State := s.modArm (fun x => { x with refs := x.refs.modify a f })
/-- The root's record of converter arm `a`. -/
def State.refA (s : State) (a : Nat) : RefA := s.arm.refs.getD a RefA.reset
/-- Changes Crihel port `p`. -/
def State.updPort (s : State) (p : Nat) (f : Port → Port) : State := s.modLink (fun x => { x with ports := x.ports.modify p f })
/-- Crihel port `p`. -/
def State.port (s : State) (p : Nat) : Port := s.link.ports.getD p Port.reset
/-- Changes the nest link to child `i`. -/
def State.updKid (s : State) (i : Nat) (f : Nst → Nst) : State := s.modNest (fun x => { x with kids := x.kids.modify i f })
/-- The nest link to child `i`. -/
def State.kid (s : State) (i : Nat) : Nst := s.nest.kids.getD i Nst.reset
/-- Changes tracker `t`, counted from 0. -/
def State.updTrk (s : State) (t : Nat) (f : Trk → Trk) : State := s.modTrk (fun l => l.modify t f)
/-- Tracker `t`, counted from 0. -/
def State.tracker (s : State) (t : Nat) : Trk := s.trk.getD t Trk.reset
/-- Changes mailbox channel `c`. -/
def State.updChan (s : State) (c : Nat) (f : Chan → Chan) : State := s.modMbx (fun x => { x with chans := x.chans.modify c f })
/-- Mailbox channel `c`. -/
def State.chan (s : State) (c : Nat) : Chan := s.mbx.chans.getD c Chan.reset
/-- Changes field output `o`. -/
def State.updOut (s : State) (o : Nat) (f : OutS → OutS) : State := s.modFio (fun x => { x with outs := x.outs.modify o f })
/-- Field output `o`. -/
def State.outS (s : State) (o : Nat) : OutS := s.fio.outs.getD o OutS.reset

/-- Runs `f` for the numbers of a list, left to right. -/
def forAll {α : Type} (l : List α) (f : State → α → State) (s : State) : State := l.foldl f s

/-- Takes `f` where `b` holds. -/
def State.when (s : State) (b : Bool) (f : State → State) : State := if b then f s else s

/-- Configured channels of owned arm `a`, ascending (R174). -/
def State.channels (s : State) (a : Nat) : List Nat :=
  (s.arm.cells.zipIdx.filter (fun p => p.1.conf && p.1.arm == a)).map (·.2)
/-- Configured channels of port `p`, ascending. -/
def State.portCells (s : State) (p : Nat) : List Nat :=
  (s.arm.cells.zipIdx.filter (fun x => x.1.conf && x.1.port == p)).map (·.2)

/-! ### Sorted association lists -/

/-- Value at a key of a map kept as a list. -/
def mGet {α : Type} (l : List (Nat × α)) (k : Nat) : Option α := (l.find? (fun p => p.1 == k)).map (·.2)

/-- Puts a value at a key; keys stay strictly rising. -/
def mPut {α : Type} (k : Nat) (v : α) : List (Nat × α) → List (Nat × α)
  | [] => [(k, v)]
  | p :: l => if p.1 == k then (k, v) :: l else if k < p.1 then (k, v) :: p :: l else p :: mPut k v l

/-! ### Sticky status bits (R7, R8) -/

/-- ORs a mask into the word kept for a diagnostic and element. -/
def evPut (d e : Nat) (m : Word) : List (Nat × Nat × Word) → List (Nat × Nat × Word)
  | [] => [(d, e, m)]
  | p :: l =>
    if p.1 == d && p.2.1 == e then (d, e, p.2.2 ||| m) :: l
    else if d < p.1 || (d == p.1 && e < p.2.1) then (d, e, m) :: p :: l
    else p :: evPut d e m l

/-- The word kept for a diagnostic and element; 0 where nothing stands. -/
def evGet (l : List (Nat × Nat × Word)) (d e : Nat) : Word :=
  ((l.find? (fun p => p.1 == d && p.2.1 == e)).map (·.2.2)).getD 0

/-- Sets RC bit `k` of element `e` of diagnostic `d`; a read finds it once its set has been written (R8). -/
def State.rcSet (s : State) (d e k : Nat) : State := s.modPub (fun p => { p with ev := evPut d e (bitAt true k) p.ev })

/-- Moves the RC bits of the diagnostics `lo` to `hi` into what a read returns: their set is written. -/
def State.rcPublish (s : State) (lo hi : Nat) : State :=
  s.modPub (fun p =>
    { p with
      rc := p.ev.foldl (fun r x => if lo ≤ x.1 && x.1 ≤ hi then evPut x.1 x.2.1 x.2.2 r else r) p.rc
      ev := p.ev.filter (fun x => !(lo ≤ x.1 && x.1 ≤ hi)) })

/-! ### Audit records (R508 to R512) -/

/-- Where a record comes from: ORIGIN, CHANNEL, SESSION, CREDENTIAL of R508. -/
structure Who where
  origin : Nat := 0
  ch     : Nat := 0xFF
  sess   : Nat := 0
  cred   : Nat := 0xFFFF
deriving DecidableEq, Repr

/-- The module itself. -/
def Who.module : Who := { origin := 0 }
/-- A field input. -/
def Who.field : Who := { origin := 4 }
/-- Hedgerow. -/
def Who.hedgerow : Who := { origin := 5 }

/-- Appends one record under the next sequence number (R508, R510). A record that falls off the ring while unacknowledged is counted
(R512). The record joins Peat's page buffer (R526). -/
def State.logPush (s : State) (r : Audit) : State :=
  let q := s.sys.seqNo + 1
  let full := s.sys.log.length ≥ 1048576
  let lost := full && q > 1048576 + s.pn gLOG 2
  (s.modSys (fun x => { x with seqNo := q, log := ({ r with seq := q } :: x.log).take 1048576,
                               logOver := if lost then wrap32 (x.logOver + 1) else x.logOver }))
  |>.modPeat (fun p => { p with pageN := p.pageN + 1, pageT := if p.pageN == 0 then s.clk.tai else p.pageT })

/-- Appends the records of one event: the first, then a CONTINUATION record for each reason name and each group of further values;
every one but the last says that another follows (R508, R509). -/
def State.audit (s : State) (ty : Nat) (w : Who := {}) (subj : Nat := 0) (old : Int := 0) (new : Int := 0) (detail : Int := 0)
    (result : Nat := 0) (more : List Reason := []) (vals : List (List Int) := []) : State :=
  let base := (if s.twin.sideB then 1 else 0) + (if s.isShadow then 2 else 0)
  let r : Audit := { Audit.reset with tai := s.clk.tai, fnum := s.clk.frame, ty := ty, origin := w.origin, ch := w.ch, flags := base }
  let first : Audit := { r with sess := w.sess, cred := w.cred, result := result, subj := subj, old := old, new := new, detail := detail }
  let rest := more.map (fun m => { r with ty := 0x7F, more := [m] }) ++ vals.map (fun v => { r with ty := 0x7F, vals := v })
  let all := first :: rest
  (all.zipIdx).foldl (fun s p => s.logPush (if p.2 + 1 == all.length then p.1 else { p.1 with flags := base + 4 })) s

/-! ### Interrupt bits of BAR0 -/

/-- Sets bit `k` of SYS_IRQ_STATUS. Where it is enabled an MSI goes out: vector 1 for bits 1 and 2, vector 2 for every other. -/
def State.irqSet (s : State) (k : Nat) : State :=
  s.modMbx (fun m => { m with irq := m.irq ||| bitAt true k,
                              msi := if m.irqEn.getLsbD k then m.msi ++ [if k == 1 || k == 2 then 1 else 2] else m.msi })

/-- The module enters a state and says so in the audit log (event type 0x20; R490, R494, R495). -/
def State.enter (s : State) (m : MState) (w : Who := {}) : State :=
  ((s.audit 0x20 w 0 s.sys.st.code m.code).modSys (fun x => { x with st := m })).irqSet 0

end Sys2Proof.Machine
end

