-- ==== Sys2Proof/Machine/Groups.lean ====
section
/-!
DEFINITION. Output groups of Bramble and what their latches cover (R295, R296, R299, R302).
-/
namespace Sys2Proof.Machine
open Sys2Proof

/-- Port topology: 0 unused, 1 ring, 2 dual head, 3 dual tail, 4 twin chain, 5 nest (LNK.001). -/
def State.topoOf (s : State) (p : Nat) : Nat := s.pn gLNK 1 p
/-- Ports of the chain at port `p`: head and tail of a dual-ended chain, else the port itself (R227). -/
def State.chainPorts (s : State) (p : Nat) : List Nat :=
  if s.topoOf p == 2 then [p, p + 1] else if s.topoOf p == 3 then [p - 1, p] else [p]

/-- Channel `c` is a member of group `g` (PRT.004); group 15 holds every channel (R295). -/
def State.grpChan (s : State) (g c : Nat) : Bool := g == 15 || s.pb gPRT 4 (g * 512 + c)
/-- Port `p` (0 to 31 P00 to P31, 32 to 35 N0 to N3) is a member of group `g` (PRT.005, R295). -/
def State.grpPort (s : State) (g p : Nat) : Bool := g == 15 || s.pb gPRT 5 (g * 36 + p)
/-- Group `g` names port `p` or the other port of its chain: an action on a chain acts from both its ports (R249, R296). -/
def State.grpChain (s : State) (g p : Nat) : Bool := (s.chainPorts p).any (s.grpPort g)
/-- Field output `o` is a member of group `g` (PRT.006); group 15 holds none (R295). -/
def State.grpOut (s : State) (g o : Nat) : Bool := g < 15 && s.pb gPRT 6 (g * 16 + o)
/-- Safety request SO1 (`k` 0) or SO2 (`k` 1) is a member of group `g` (PRT.007, R295). -/
def State.grpSafe (s : State) (g k : Nat) : Bool := g == 15 || s.pb gPRT 7 (g * 2 + k)

/-- A latch of group `g`: index 0 BLOCK, 1 BYPASS, 2 BREAKER, 3 SELF_FAIL (R301). -/
def Prot.has (p : Prot) (g k : Nat) : Bool := (p.latch.getD g []).getD k false
/-- A BLOCK stands on group `g`: latched, or a SELF_FAIL that acts as BLOCK (R297). -/
def Prot.blocks (p : Prot) (g : Nat) : Bool := p.has g 0 || p.asBlock.getD g false

/-- Groups on which a BLOCK stands. -/
def State.blkGroups (s : State) : List Nat := (List.range 16).filter (fun g => s.prot.blocks g)
/-- Groups on which a BYPASS stands. -/
def State.bypGroups (s : State) : List Nat := (List.range 16).filter (fun g => s.prot.has g 1)

/-- A block action covers channel `c`: by itself or by a port of its chain (R296, R204). -/
def State.blkCh (s : State) (c : Nat) : Bool := s.blkGroups.any (fun g => s.grpChan g c || s.grpChain g (s.cell c).port)
/-- A bypass action covers channel `c`: by itself or by a port of its chain (R296). -/
def State.bypCh (s : State) (c : Nat) : Bool := s.bypGroups.any (fun g => s.grpChan g c || s.grpChain g (s.cell c).port)
/-- A block action names port `p` or the other port of its chain. -/
def State.blkPort (s : State) (p : Nat) : Bool := s.blkGroups.any (fun g => s.grpChain g p)
/-- A BREAKER action names field output `o` (R296). -/
def State.breakerOut (s : State) (o : Nat) : Bool := (List.range 16).any (fun g => s.prot.has g 2 && s.grpOut g o)
/-- Bramble requests that SO1 be de-energised (R296, R300). -/
def State.reqSO1 (s : State) : Bool := (List.range 16).any (fun g => s.prot.has g 2 && s.grpSafe g 0)
/-- Bramble requests that SO2 be de-energised (R296, R300). -/
def State.reqSO2 (s : State) : Bool := s.blkGroups.any (fun g => s.grpSafe g 1)

/-- A block action covers every channel of owned arm `a` (R203, R302). -/
def State.armCovered (s : State) (a : Nat) : Bool :=
  !s.blkGroups.isEmpty && (let l := s.channels a; !l.isEmpty && l.all s.blkCh)

/-- Owned arm `a` is BLOCKED now (R203). -/
def State.armBlocked (s : State) (a : Nat) : Bool := !s.running || s.armCovered a

/-- Ports that two elements of NST.001 or NST.002 name: P ports 0 to 31 and N ports 32 to 35; 0 names none. -/
def namedPorts (a b : Nat) : List Nat := ([a, b].filter (fun v => v != 0)).map (fun v => if v ≤ 4 then 31 + v else v - 5)
/-- The port serves nest frames: N0 to N3, or a P port set to nest (LNK.001, R20). -/
def State.nestPort (s : State) (p : Nat) : Bool := 32 ≤ p || s.topoOf p == 5
/-- Ports that NST.002 names for child `i`. -/
def State.kidNamed (s : State) (i : Nat) : List Nat := namedPorts (s.pn gNST 2 (2 * i)) (s.pn gNST 2 (2 * i + 1))
/-- Ports that NST.001 names toward the parent. -/
def State.parNamed (s : State) : List Nat := namedPorts (s.pn gNST 1 0) (s.pn gNST 1 1)
/-- Ports of the nest link to child `i` (R20). -/
def State.kidPorts (s : State) (i : Nat) : List Nat := (s.kidNamed i).filter s.nestPort
/-- Ports to the parent (R20). -/
def State.parPorts (s : State) : List Nat := s.parNamed.filter s.nestPort
/-- Children of the module: indexes with a node identifier (NST.003) in a POLE or an AGGREGATOR; no other role has children (R15). -/
def State.kidIdx (s : State) : List Nat :=
  if s.role == .pole || s.role == .aggregator then (List.range 32).filter (fun i => s.pn gNST 3 i != 0) else []
/-- A block action names a nest port of child `i` (R270, R302). -/
def State.kidBlocked (s : State) (i : Nat) : Bool := (s.kidPorts i).any s.blkPort

/-- The condition of R302: a latched BLOCK covers every channel of an owned arm or any nest port toward a child. -/
def State.mustFault (s : State) : Bool :=
  (s.isLeaf && (List.range s.nArms).any s.armCovered) || s.kidIdx.any s.kidBlocked

end Sys2Proof.Machine
end

