-- ==== Sys2Proof/Machine/Trig.lean ====
section
/-!
DEFINITION. Sine, cosine and atan2 of the lanes (R583). Their methods are not published, so the values come from Config; what the manual
fixes is their distance from the exact value. A value of Config that keeps the bound is the result, and where it would not, the result is
the nearest value instead, so that the bound holds of every result. Exact values are held in units of 2^-128.
-/
namespace Sys2Proof.Machine
open Sys2Proof

/-- One in units of 2^-128. -/
def fix1 : Int := 1 <<< 128

/-- π in units of 2^-128. -/
def fixPi : Int := 1069028584064966747859680373161870783301

/-- Terms of the power series of sine and cosine: each is the one before times -x² / ((k + 1)·(k + 2)). -/
def trigSeries (x2 : Int) : Nat → Int → Nat → Int → Int
  | 0, _, _, acc => acc
  | n + 1, term, k, acc =>
    let t := -(term * x2 / fix1) / (((k + 1) * (k + 2) : Nat) : Int)
    trigSeries x2 n t (k + 2) (acc + t)

/-- Sine of an angle of the first quadrant, `r` counts from 0 to 2^30. -/
def sinQ (r : Nat) : Int := let x := (r : Int) * fixPi / 2147483648; trigSeries (x * x / fix1) 20 x 1 x

/-- sin θ in units of 2^-128: 0 and ±1 are exact. -/
def sinExact (th : Angle) : Int :=
  let r := th.toNat % 1073741824
  let c := 1073741824 - r
  match th.toNat / 1073741824 with
  | 0 => if c == 1073741824 then 0 else sinQ r
  | 1 => if r == 0 then fix1 else sinQ c
  | 2 => if r == 0 then 0 else -sinQ r
  | _ => if r == 0 then -fix1 else -sinQ c

/-- cos θ in units of 2^-128. -/
def cosExact (th : Angle) : Int := sinExact (th + 0x40000000)

/-- A finite binary32 as an integer over 2^149. -/
def fNum149 (x : F32) : Int := fSsig x * ((1 <<< (fExp x + 149).toNat : Nat) : Int)

/-- A value lies within 1 ulp of an exact one. -/
def ulpOk (v : F32) (e : Int) : Bool :=
  let x := e * 2097152
  fFinite v && decide ((fNum149 v - x).natAbs ≤ (if x == 0 then 0 else 2 ^ (Nat.log2 x.natAbs - 23)))

/-- A value within 1 ulp of an exact one: the one offered, or the nearest. -/
def ulpOr (v : F32) (e : Int) : F32 := if ulpOk v e then v else fOfQ e (1 <<< 128)

/-- sin of an ANGLE, within 1 ulp (R583). -/
def fSin (th : Angle) : F32 := ulpOr (Config.sin th) (sinExact th)
/-- cos of an ANGLE, within 1 ulp (R583). -/
def fCos (th : Angle) : F32 := ulpOr (Config.cos th) (cosExact th)

/-- Angle `a` lies within 256 counts of the direction of (x, y) (R583); 2^-108 covers the rounding of the exact values. -/
def atanOk (y x : Int) (a : Angle) : Bool :=
  let s := sinExact a
  let c := cosExact a
  let cross := y * c - x * s
  let dot := x * c + y * s
  decide (0 < dot) && decide (cross.natAbs * (cosExact 256).natAbs ≤ ((sinExact 256).natAbs + 1048576) * dot.natAbs)

/-- Largest angle, in counts below 2^30, that does not lie beyond the direction of (x, y) in the first quadrant. -/
def atanQ (y x : Int) : Nat → Nat → Nat
  | 0, r => r
  | k + 1, r =>
    let t := r + (1 <<< k)
    let a : Angle := BitVec.ofNat 32 t
    atanQ y x k (if 0 ≤ y * cosExact a - x * sinExact a then t else r)

/-- Direction of (x, y) as an ANGLE. -/
def atanRef (y x : Int) : Angle :=
  if 0 ≤ y then
    (if 0 < x then BitVec.ofNat 32 (atanQ y x 30 0) else 0x40000000 + BitVec.ofNat 32 (atanQ (-x) y 30 0))
  else if x < 0 then 0x80000000 + BitVec.ofNat 32 (atanQ (-y) (-x) 30 0)
  else 0xC0000000 + BitVec.ofNat 32 (atanQ x (-y) 30 0)

/-- atan2 to an ANGLE, within 256 counts (R583); atan2(0, 0) = 0 (R109 No. 35). -/
def atan2A (y x : F32) : Angle :=
  if fSig x == 0 && fSig y == 0 then 0
  else
    let a := Config.atan2 y x
    if !(fFinite x && fFinite y) || atanOk (fNum149 y) (fNum149 x) a then a else atanRef (fNum149 y) (fNum149 x)

end Sys2Proof.Machine
end

