-- ==== Sys2Proof/Machine/Measure.lean ====
section
/-!
DEFINITION. Measurement inputs (chapter 02): analog conversions, sigma-delta filters and sampled-value streams, and what they deliver
at a frame boundary (R46 to R69, R581, R582).
-/
namespace Sys2Proof.Machine
open Sys2Proof

/-! ### Conditions of Bramble at their samples (R292) -/

/-- One sample of the condition of source `k`: the condition itself and how many samples in a row it has held or been absent.
The counts stop at 511, beyond every filter. -/
def State.condSample (s : State) (k : Nat) (b : Bool) : State :=
  s.modProt (fun p =>
    { p with cond := p.cond.set k b
             onN := p.onN.modify k (fun n => if b then min 511 (n + 1) else 0)
             offN := p.offN.modify k (fun n => if b then 0 else min 511 (n + 1)) })

/-! ### Analog inputs -/

/-- Input `k` is the even member of an interleaved pair (R51). -/
def State.pairEven (s : State) (k : Nat) : Bool := k % 2 == 0 && s.pb gMEA 9 (k / 2)
/-- Input `k` is the odd member of an interleaved pair: its terminals are unused (R51). -/
def State.pairOdd (s : State) (k : Nat) : Bool := k % 2 == 1 && s.pb gMEA 9 (k / 2)
/-- The input that delivers the samples of converter `k` (R51, R53). -/
def State.aiOf (s : State) (k : Nat) : Nat := if s.pairOdd k then k - 1 else k
/-- Converter `k` converts: enabled, or the odd converter of an enabled pair (MEA.001, R51). -/
def State.aiOn (s : State) (k : Nat) : Bool := k < 24 && s.pb gMEA 1 (s.aiOf k)

/-- Scaled value of R55 with a given gain and offset: `g × (c × LSB) + o`, LSB = 20 V / 65,536. -/
def scaleWith (g o : F32) (c : Int) : F32 := fAdd (fMul g (fOfQ (c * 20) 65536)) o
/-- Scaled value of a code of converter `k` (R53, R55). -/
def State.aiScale (s : State) (k : Nat) (c : Int) : F32 := scaleWith (s.pf gMEA 7 k) (s.pf gMEA 8 k) c

/-- A code within the 16-bit range. -/
def satCode (c : Int) : Int := max (-32768) (min 32767 c)

/-- A code at either end of the range (R56). -/
def codeEnd (c : Int) : Bool := c == -32768 || c == 32767

/-- Raw code in the word of the chosen format (R54). -/
def rawWord (fmt : Nat) (c : Int) : Word :=
  let u := BitVec.ofInt 32 (c + 32768)
  match fmt with
  | 0 => BitVec.ofInt 32 c
  | 1 => u
  | 2 => (BitVec.ofInt 32 c) <<< 16
  | _ => u <<< 16

/-- Owned arms whose fast-overcurrent input is `k` (PRT.010). -/
def State.ocArms (s : State) (k : Nat) : List Nat := (List.range s.nArms).filter (fun a => s.pn gPRT 10 a == k)

/-- The fast comparator's verdict on a sample (R310): beyond a threshold as converted when the thresholds took effect. -/
def ocBeyond (t : F32 × F32 × F32 × F32) (c : Int) : Bool :=
  let x := scaleWith t.2.2.1 t.2.2.2 c
  fGt x t.1 || fLt x t.2.1

/-- One sample of input `i`, taken by its odd converter or not, at the fast comparators (R310, DIA.166). -/
def State.ocSample (s : State) (i : Nat) (odd : Bool) (c : Int) : State :=
  (s.ocArms i).foldl (fun s a =>
    let t := s.prot.oc.getD (2 * a + (if odd then 1 else 0)) (0, 0, 0, 0)
    let x := s.aiScale (if odd then i + 1 else i) c
    let s := s.condSample a (ocBeyond t c)
    s.modProt (fun p => { p with ocMax := p.ocMax.modify a (fun m => if fGt (fAbs x) (fAbs m) then x else m) })) s

/-- Raw channels of Reedbed that record input `i` take the code in the format of MEA.006 (R54, R394); a channel keeps 500 ms of samples. -/
def State.rawSample (s : State) (i : Nat) (c : Int) : State :=
  s.modAcq (fun q =>
    { q with rawRing := q.rawRing.mapIdx (fun r l => if s.pn gACQ 30 r == i then (rawWord (s.pn gMEA 6 i) c :: l).take 2000000 else l)
             rawN := q.rawN.mapIdx (fun r n => if s.pn gACQ 30 r == i then n + 1 else n) })

/-- A conversion of converter `k` completes: it belongs to the present frame, goes to the fast comparator and to Reedbed, and a code
at either end of the range sets OVR of the input (R48, R50, R53, R56). -/
def State.convert (s : State) (k : Nat) (smp : Sample) : State :=
  let i := s.aiOf k
  let odd := s.pairOdd k
  let c := satCode smp.code
  let s := s.modMeas (fun m =>
    { m with ai := m.ai.modify i (fun a =>
        { a with acc := (smp.at_, odd, c) :: a.acc, odd := odd, code := c, stamp := smp.at_, live := true }) })
  let s := s.when (codeEnd c) (fun s => s.rcSet 10 0 i)
  let s := s.when (s.pn gMEA 2 i == 2) (fun s => s.rawSample i c)
  s.ocSample i odd c

/-- Exact mean of binary32 values, rounded once (R50). -/
def fMean (l : List F32) : F32 := fOfQ ((l.map fNum149).sum) (l.length * (1 <<< 149))

/-- What input `i` delivers at a frame boundary: the mean and the latest sample of a CONTINUOUS input, the newest conversion of any
other; validity since the first conversion after the transition to READY (R46, R50, R51, R582, R589). -/
def State.aiDeliver (s : State) (i : Nat) (a : AIn) : AIn :=
  if s.pairOdd i then { a with acc := [], dMean := 0, dLatest := 0, dValid := false }
  else
    let sc := fun (p : Nat × Bool × Int) => s.aiScale (if p.2.1 then i + 1 else i) p.2.2
    let latest := s.aiScale (if a.odd then i + 1 else i) a.code
    let ovr := if a.acc.isEmpty then a.dOvr else a.acc.any (fun p => codeEnd p.2.2)
    if !a.live then { a with acc := [], dValid := false }
    else if s.pn gMEA 2 i == 2 then
      if a.acc.isEmpty then { a with dLatest := latest, dValid := true }
      else { a with acc := [], dMean := fMean (a.acc.map sc), dLatest := latest, dValid := true, dOvr := ovr,
                    dStamp := (a.acc.map (·.1)).sum / a.acc.length }
    else { a with acc := [], dMean := latest, dLatest := latest, dValid := true, dStamp := a.stamp, dOvr := ovr }

/-! ### Sigma-delta inputs -/

/-- One modulator clock through the integrators of a sinc filter; the bit counts as +1 or -1. -/
def sincStep : List Int → Int → List Int
  | [], _ => []
  | i :: l, x => (i + x) :: sincStep l (i + x)

/-- The comb stages at the output rate: their new delays and the output. -/
def combStep : List Int → Int → List Int × Int
  | [], x => ([], x)
  | d :: l, x =>
    let r := combStep l (x - d)
    (x :: r.1, r.2)

/-- One output of the filter of input `k`: order and decimation of MEA.041 and MEA.042, normalised by `D^order` (R58, R59). -/
def State.sdOut (s : State) (k : Nat) (bits : List Bool) (age : Nat) (x : SdIn) : SdIn :=
  let n := s.pn gMEA 41 k
  let d := s.pn gMEA 42 k
  let st := if x.integ.length == n then x.integ else List.replicate n 0
  let cb := if x.comb.length == n then x.comb else List.replicate n 0
  let st := bits.foldl (fun l b => sincStep l (if b then 1 else -1)) st
  let r := combStep cb (st.getLastD 0)
  { x with integ := st, comb := r.1, y := fOfQ r.2 (d ^ n), age := age, outs := min 255 (x.outs + 1), settle := x.settle - 1 }

/-- The value of input `k` is valid: no SD_FAULT, and one full settling time has passed since its first output (R62, R582). -/
def State.sdValid (s : State) (k : Nat) (x : SdIn) : Bool :=
  !x.fault && x.settle == 0 && x.outs ≥ s.pn gMEA 41 k + 1

/-- What input `k` delivers at a frame boundary (R59 to R62, R589). A repeated output grows older by one frame. -/
def State.sdDeliver (s : State) (k : Nat) (x : SdIn) : SdIn :=
  { x with dX := fAdd (fMul (s.pf gMEA 43 k) x.y) (s.pf gMEA 44 k), dAge := x.age, dValid := s.sdValid k x,
           age := x.age + s.tf }

/-! ### Sampled values -/

/-- Samples per second `f_nom × spc` of stream `k` (R65). -/
def State.svDen (s : State) (k : Nat) : Nat := (if s.pn gMEA 85 == 0 then 50 else 60) * (if s.pn gMEA 84 k == 0 then 80 else 256)

/-- One second in 2^-16 ns. -/
def sec16 : Int := 65536000000000

/-- Sample time of a counter value: S + smpCnt × T_sv with the second S that puts it nearest the present time (R65), exact, in 2^-16 ns
over `f_nom × spc`. -/
def State.svTime (s : State) (k cnt : Nat) : Int :=
  let n : Int := s.svDen k
  let now : Int := (s.clk.tai : Int) * 65536
  let t := now / sec16 * sec16 * n + (cnt : Int) * sec16
  if t > (now + sec16 / 2) * n then t - sec16 * n else if t < (now - sec16 / 2) * n then t + sec16 * n else t

/-- A message belongs to stream `k` but for its configuration revision (R64). -/
def State.svMatch (s : State) (k : Nat) (m : SvMessage) : Bool :=
  s.pb gMEA 80 k && s.pn gMEA 81 k == m.mac && s.pn gMEA 82 k == m.appid &&
    (s.pn gMEA 88 k == 2 || (s.pn gMEA 88 k == 1) == m.portE2)

/-- Puts a sample in time order. -/
def svPut (x : Int × SvSample × Nat) : List (Int × SvSample × Nat) → List (Int × SvSample × Nat)
  | [] => [x]
  | p :: l => if x.1 < p.1 then x :: p :: l else p :: svPut x l

/-- Stream `k` takes the samples of a message of its profile, one ASDU at 80 samples per cycle and eight at 256 (R4); a sample whose instant
has been resampled is discarded (R64, R69). -/
def State.svTake (s : State) (k : Nat) (m : SvMessage) (v : SvIn) : SvIn :=
  if !s.svMatch k m then v
  else if s.pn gMEA 83 k != m.confRev then { v with misRev := wrap32 (v.misRev + 1) }
  else if m.asdus.length != (if s.pn gMEA 84 k == 0 then 1 else 8) then v
  else
    m.asdus.foldl (fun v a =>
      let t := s.svTime k a.cnt
      if t ≤ v.lastT then v else { v with buf := svPut (t, a, m.synch) v.buf }) v

/-- A value of a sample is valid (R68). -/
def State.svGood (s : State) (k : Nat) (a : SvSample) (i : Nat) : Bool :=
  a.good.getD i false && (!a.test.getD i false || s.pb gMEA 87 k)

/-- Newest sample at or before an instant. -/
def svBefore (l : List (Int × SvSample × Nat)) (t : Int) : Option (Int × SvSample × Nat) := (l.filter (fun p => p.1 ≤ t)).getLast?
/-- Oldest sample at or after an instant. -/
def svAfter (l : List (Int × SvSample × Nat)) (t : Int) : Option (Int × SvSample × Nat) := l.find? (fun p => t ≤ p.1)

/-- Linear interpolation between two samples at `t`, in A or V: currents come in 1 mA, voltages in 10 mV (R66). -/
def svInterp (a b : Int × SvSample × Nat) (t : Int) (i : Nat) : F32 :=
  let va := a.2.1.vals.getD i 0
  let vb := b.2.1.vals.getD i 0
  let unit : Nat := if i < 4 then 1000 else 100
  let w := (b.1 - a.1).toNat
  if w == 0 then fOfQ va unit else fOfQ (va * (w : Int) + (vb - va) * (t - a.1)) (w * unit)

/-- What stream `k` delivers at a frame boundary (R66 to R69). -/
def State.svDeliver (s : State) (k : Nat) (v : SvIn) : SvIn :=
  if !s.pb gMEA 80 k then v
  else
    let t : Int := ((s.clk.tai : Int) - (s.pn gMEA 86 k : Int)) * 65536 * (s.svDen k : Int)
    let v := { v with lastT := t }
    match svBefore v.buf t, svAfter v.buf t with
    | some a, some b =>
      let near : Bool := b.1 - a.1 ≤ 2 * sec16
      let ok := near && b.2.2 == 2 && s.clk.tstate == .locked
      let oks := (List.range 8).map (fun i => ok && s.svGood k a.2.1 i && s.svGood k b.2.1 i)
      { v with buf := v.buf.filter (fun p => a.1 ≤ p.1)
               dVal := (List.range 8).map (fun i => if oks.getD i false then svInterp a b t i else v.dVal.getD i 0)
               dOk := oks
               invalid := if oks.all id then v.invalid else wrap32 (v.invalid + 1) }
    | _, bb =>
      { v with dOk := List.replicate 8 false, invalid := wrap32 (v.invalid + 1),
               late := if bb.isNone then wrap32 (v.late + 1) else v.late }

/-- Delivery of every measured value at a frame boundary (R46). -/
def State.deliver (s : State) : State :=
  s.modMeas (fun m =>
    { m with ai := m.ai.mapIdx (fun i a => if s.aiOn i then s.aiDeliver i a else a)
             sd := m.sd.mapIdx (fun i x => if s.pb gMEA 40 i then s.sdDeliver i x else x)
             sv := m.sv.mapIdx (fun i v => s.svDeliver i v) })

/-- At a transition from STANDBY to READY every conversion and decimator output made before is discarded (R582). -/
def Meas.restart (m : Meas) : Meas :=
  { m with ai := m.ai.map (fun a => { a with acc := [], live := false, dValid := false })
           sd := m.sd.map (fun x => { x with integ := [], comb := [], outs := 0, dValid := false }) }

end Sys2Proof.Machine
end

