-- ==== Sys2Proof/Machine/Tracker.lean ====
section
/-!
DEFINITION. Grid angle trackers (R70 to R90): angle, crossings, frequency, phase sequence and angle compare. Times are held in
2^-16 ns (notes/assumptions/10.md).
-/
namespace Sys2Proof.Machine
open Sys2Proof

/-- A tracker is enabled (ANG.001). -/
def State.trkOn (s : State) (t : Nat) : Bool := s.pb gANG 1 t

/-- Crossings per turn M (ANG.008). -/
def State.trkM (s : State) (t : Nat) : Nat :=
  match s.pn gANG 8 t with
  | 0 => 1 | 1 => 2 | 2 => 3 | 3 => 4 | 4 => 6 | _ => 12

/-- The three phase values of tracker `t`, whether all inputs are valid, and the instant they describe in 2^-16 ns (R70, R73). -/
def State.trkIn (s : State) (t : Nat) : F32 × F32 × F32 × Bool × Int :=
  let ia := s.pn gANG 3 t
  let ib := s.pn gANG 4 t
  let ic := s.pn gANG 5 t
  let nowT : Int := (s.clk.tai : Int) * 65536
  match s.pn gANG 2 t with
  | 0 =>
    let a := s.meas.ai.getD ia AIn.reset
    let b := s.meas.ai.getD ib AIn.reset
    let c := s.meas.ai.getD ic AIn.reset
    let ok := fun (x : AIn) => x.dValid && !x.dOvr
    (a.dMean, b.dMean, c.dMean, ok a && ok b && ok c,
      (a.dStamp : Int) * (s.tf : Int) * 65536 / 2048000)
  | 1 =>
    let a := s.meas.sd.getD ia SdIn.reset
    let b := s.meas.sd.getD ib SdIn.reset
    let c := s.meas.sd.getD ic SdIn.reset
    (a.dX, b.dX, c.dX, a.dValid && b.dValid && c.dValid, nowT - (a.dAge : Int) * 65536)
  | _ =>
    let v := s.meas.sv.getD ia SvIn.reset
    (v.dVal.getD 4 0, v.dVal.getD 5 0, v.dVal.getD 6 0, v.dOk.getD 4 false && v.dOk.getD 5 false && v.dOk.getD 6 false,
      nowT - (s.pn gMEA 86 ia : Int) * 65536)

/-- Square root of three as binary32. -/
def fSqrt3 : F32 := fSqrt 0x40400000

/-- α and β of R72. -/
def clarkeAB (a b c : F32) : F32 × F32 :=
  (fDiv (fSub (fSub (fMul 0x40000000 a) b) c) 0x40400000, fDiv (fSub b c) fSqrt3)

/-- Signed distance of two angles, in [-2^31, 2^31). -/
def angDiff (a b : Angle) : Int := (a - b).toInt

/-- Distance in counts times M from an angle forward to mark `j`, in [0, M·2^32). -/
def markDist (m : Nat) (th : Angle) (j : Nat) : Int :=
  ((j : Int) * 4294967296 - (th.toNat : Int) * (m : Int)) % ((m : Int) * 4294967296)

/-- Marks passed on the way from `a` by `d` counts: forward those in (a, a + d], backward those in [a + d, a), each with its
distance from `a` in counts times M, nearest first. -/
def marksPassed (m : Nat) (a : Angle) (d : Int) : List (Nat × Int) :=
  let full : Int := (m : Int) * 4294967296
  let l := (List.range m).filterMap (fun j =>
    let f := markDist m a j
    if d > 0 then (let f := if f == 0 then full else f; if f ≤ d * (m : Int) then some (j, f) else none)
    else if d < 0 then (let b := if f == 0 then full else full - f; if b ≤ -d * (m : Int) then some (j, b) else none)
    else none)
  l.mergeSort (fun p q => p.2 ≤ q.2)

/-- Interpolated crossing instant of R74, from distances in the same unit. -/
def crossTime (t1 t2 d1 d2 : Int) : Int := if d1 + d2 == 0 then t2 else t1 + (t2 - t1) * d1 / (d1 + d2)

/-- An interval corresponds to a frequency from ANG.010 to ANG.011 (R76). -/
def State.trkBand (s : State) (t : Nat) (iv : Int) : Bool :=
  if iv ≤ 0 then false
  else
    let f := fOfQ sec16 (s.trkM t * iv.toNat)
    fLe (s.pf gANG 10 t) f && fLe f (s.pf gANG 11 t)

/-- Frequency of R77 from the intervals of the present sense, newest first. -/
def trkFreq (m : Nat) (ivs : List Int) : F32 :=
  let l := ivs.take m
  let sum := l.sum
  if l.isEmpty || sum ≤ 0 then 0 else fOfQ ((l.length : Int) * sec16) (m * sum.toNat)

/-- Disarms the compare of tracker `t` (R80, DIA.044 CMP_DISARMED). -/
def State.cmpDisarm (s : State) (t : Nat) : State :=
  if (s.tracker t).set.armed then
    ((s.updTrk t (fun x => { x with set := { x.set with armed := false } })).rcSet 44 t 11).setRaw ⟨gANG, 23⟩ t 0
  else s

/-- One qualifying crossing at `tx` in a sense (true negative) (R77, R80). -/
def State.trkCross (s : State) (t : Nat) (neg : Bool) (tx : Int) : State :=
  let x := s.tracker t
  let m := s.trkM t
  if neg != x.set.seqNeg then
    -- reversal (R80)
    let s := s.updTrk t (fun x =>
      { x with ivs := [], inSense := 1, lastX := some tx, sinceX := s.clk.tai,
               set := { x.set with seqNeg := neg, freq := 0, valid := false, xcount := wrap16 (x.set.xcount + 1) } })
    (s.rcSet 44 t 3).cmpDisarm t
  else
    let ivs := match x.lastX with
      | some l => ((tx - l) :: x.ivs).take 12
      | none => []
    s.updTrk t (fun x =>
      { x with ivs := ivs, inSense := x.inSense + 1, lastX := some tx, sinceX := s.clk.tai,
               set := { x.set with freq := trkFreq m ivs, xcount := wrap16 (x.set.xcount + 1) } })

/-- The hysteresis of R75 and the conditions of R76 for one passed mark; `ok` is that magnitude and inputs were good in both frames. -/
def State.trkMark (s : State) (t j : Nat) (neg : Bool) (beyond : Int) (ok : Bool) (tx : Int) : State :=
  let x := s.tracker t
  let m : Int := s.trkM t
  let held := match x.lastMark with
    | some (j', n') => j' == j && n' != neg && beyond < 2 * m
    | none => false
  if held then s
  else
    let s := s.updTrk t (fun x => { x with lastMark := some (j, neg) })
    let band := match x.lastX with
      | some l => s.trkBand t (tx - l)
      | none => true
    if ok && band then s.trkCross t neg tx else s

/-- A mark whose crossing R75 withheld is taken once the angle lies two counts beyond it: the mark, when it falls due between
`a` and `a + d`, with the distance passed. -/
def heldMark (m : Nat) (x : Trk) (a : Angle) (d : Int) : Option (Nat × Int) :=
  match x.lastMark with
  | none => none
  | some (j, n') =>
    -- signed distance of the angle beyond the mark, in the sense opposite to the last crossing
    let full : Int := (m : Int) * 4294967296
    let f := markDist m a j
    let before : Int := if n' then (if f ≤ full / 2 then -f else full - f) else (if f ≤ full / 2 then f else f - full)
    let after : Int := before + (if n' then d else -d) * (m : Int)
    if (if n' then d > 0 else d < 0) && 0 ≤ before && before < 2 * (m : Int) && 2 * (m : Int) ≤ after then some (j, before) else none

/-- Crossings between the previous angle and the present one (R74 to R78). -/
def State.trkCrossings (s : State) (t : Nat) (a1 a2 : Angle) (t1 t2 : Int) (ok : Bool) : State :=
  let m := s.trkM t
  let d := angDiff a2 a1
  let neg : Bool := d < 0
  let tot : Int := (if neg then -d else d) * (m : Int)
  let s := match heldMark m (s.tracker t) a1 d with
    | some (j, b) => s.trkMark t j neg (tot + b) ok (crossTime t1 t2 (-b) (tot + b))
    | none => s
  (marksPassed m a1 d).foldl (fun s p => s.trkMark t p.1 neg (tot - p.2) ok (crossTime t1 t2 p.2 (tot - p.2))) s

/-- Output number of a compare action: `ANG.024` 1 to 16 for DO00 to DO15. -/
def State.cmpOut (s : State) (t : Nat) : Option Nat := if s.pn gANG 24 t == 0 then none else some (s.pn gANG 24 t - 1)

/-- The compare fires: it clears its arm, records the crossing instant and the boundary of its action, the second after the
time-stamp (R88). For sampled values the boundary counts from the time-stamp plus the alignment delay. -/
def State.cmpFire (s : State) (t : Nat) (tx ts : Int) : State :=
  let lag : Int := if s.pn gANG 2 t == 2 then (s.pn gMEA 86 (s.pn gANG 3 t) : Int) else 0
  let act := ((ts / 65536 + lag) / (s.tf : Int) + 2).toNat
  let s := s.updTrk t (fun x =>
    { x with set := { x.set with armed := false }, action := some act, actionTai := act * s.tf, crossTai := tx / 65536 })
  -- the kernel takes note where it armed this compare (R160)
  let s := s.modKern (fun k => if k.synArm && s.pn gGFM 5 == t + 1 then { k with fired := some s.clk.tai } else k)
  (s.rcSet 44 t 9).setRaw ⟨gANG, 23⟩ t 0

/-- One evaluation of the compare in a frame in which the tracker is VALID (R83 to R89). -/
def State.cmpEval (s : State) (t : Nat) (a1 : Angle) (prevOk : Bool) (a2 : Angle) (t1 t2 : Int) : State :=
  let x := s.tracker t
  let tgt : Angle := s.pf gANG 20 t
  let win : Angle := s.pf gANG 21 t
  let ahead : Angle := if x.set.seqNeg then tgt - a2 else a2 - tgt
  let first := x.evalDue
  let s := s.updTrk t (fun x => { x with evalDue := false })
  let s := s.when (first && ahead.toNat < 2147483648) (fun s => s.rcSet 44 t 10)
  if s.pb gANG 22 t then
    if ahead.toNat ≤ win.toNat then s.cmpFire t t2 t2 else s
  else
    let d := angDiff a2 a1
    let step := if x.set.seqNeg then -d else d
    let d1 : Int := ((if x.set.seqNeg then a1 - tgt else tgt - a1) : Angle).toNat
    if !first && prevOk && step > 0 && 0 < d1 && d1 ≤ step then s.cmpFire t (crossTime t1 t2 d1 (step - d1)) t2 else s

/-- One frame of tracker `t` (R72 to R89). -/
def State.trkFrame (s : State) (t : Nat) : State :=
  if !s.trkOn t then s
  else
    let (va, vb, vc, okIn, t2) := s.trkIn t
    let ab := clarkeAB va vb vc
    let th := atan2A ab.2 ab.1
    let mag := fDiv (fSqrt (fAdd (fMul ab.1 ab.1) (fMul ab.2 ab.2))) (s.pf gANG 6 t)
    let okMag := fGe mag (s.pf gANG 7 t)
    let x := s.tracker t
    let t1 : Int := x.set.ts
    let a1 := x.set.theta
    -- below the minimum magnitude the frequency starts anew (R78)
    let s := if okMag then s
      else s.updTrk t (fun x => { x with ivs := [], inSense := 0, lastX := none, set := { x.set with freq := 0 } })
    let s := if x.prevOk then s.trkCrossings t a1 th t1 t2 (okMag && okIn && x.prevIn && x.prevMag) else s
    let s := s.updTrk t (fun x =>
      let v := okMag && okIn && !x.ivs.isEmpty
      { x with prevOk := true, prevIn := okIn, prevMag := okMag,
               set := { x.set with theta := th, ts := t2, mag := mag, valid := v, magLow := !okMag, inBad := !okIn } })
    let y := s.tracker t
    if y.set.armed && y.set.valid then s.cmpEval t a1 x.prevOk th t1 t2 else s

/-- The crossing timeout of R79: due when no qualifying crossing has come for ANG.009. -/
def State.trkTimeout (s : State) (t : Nat) : State :=
  if s.trkOn t && (s.tracker t).sinceX + s.pn gANG 9 t ≤ s.clk.tai then
    (s.updTrk t (fun x =>
      { x with ivs := [], inSense := 0, lastX := none, sinceX := s.clk.tai,
               set := { x.set with valid := false, freq := 0 } })).rcSet 44 t 4
  else s

/-- A write of ANG.020 to ANG.023 takes effect (R83, R85): the next frame in which the tracker is VALID evaluates it first. -/
def State.cmpWrite (s : State) (t n : Nat) (v : Raw) : State :=
  if n == 23 then s.updTrk t (fun x => { x with evalDue := v != 0 && !x.set.armed || x.evalDue, set := { x.set with armed := v != 0 } })
  else if n == 20 then s.updTrk t (fun x => { x with evalDue := true })
  else s

/-- A tracker as it stands when a program is loaded or the tracker is enabled (R78). -/
def Trk.fresh (now : Nat) : Trk := { Trk.reset with sinceX := now }

end Sys2Proof.Machine
end

