-- ==== Sys2Proof/Machine/Blocks.lean ====
section
/-!
DEFINITION. The 48 block types of the loop engine (R109 to R115, R584 to R588). Each equation is evaluated in the order in which the
manual writes it, every operation rounded once (notes/assumptions/9.md).
-/
namespace Sys2Proof.Machine
open Sys2Proof

/-- What one execution of a block gives: outputs, next states, whether a binary32 result is not finite (R93), whether a clamp pair is
inverted (R114). -/
structure BRes where
  outs : List Word
  sts  : List Word
  bad  : Bool := false
  inv  : Bool := false
deriving DecidableEq, Repr

/-- What one execution of a block is given. `k` are its coefficient words, `x` its states, `u` its inputs, `y` its previous outputs,
`t` the period, `trk` the track value where its track input is true. -/
structure BArg where
  k    : List Word
  x    : List Word
  u    : List Word
  y    : List Word
  opts : List Int
  t    : F32
  trk  : Option F32 := none
deriving DecidableEq, Repr

namespace BArg
/-- Coefficient word. -/
def kw (a : BArg) (i : Nat) : Word := a.k.getD i 0
/-- State word. -/
def xw (a : BArg) (i : Nat) : Word := a.x.getD i 0
/-- Input word; 0 where the program gives none. -/
def uw (a : BArg) (i : Nat) : Word := a.u.getD i 0
/-- Previous output word. -/
def yw (a : BArg) (i : Nat) : Word := a.y.getD i 0
/-- Option of the program. -/
def op (a : BArg) (i : Nat) : Int := a.opts.getD i 0
end BArg

/-- A Boolean signal. -/
def bW (b : Bool) : Word := if b then 1 else 0
/-- A signal as a Boolean. -/
def wB (w : Word) : Bool := w != 0

/-- Binary32 outputs and states, checked for R93. -/
def fRes (outs sts : List F32) (inv : Bool := false) : BRes :=
  { outs := outs, sts := sts, bad := !(outs.all fFinite && sts.all fFinite), inv := inv }

/-- One output of another kind, states that are no binary32. -/
def wRes (outs sts : List Word) : BRes := { outs := outs, sts := sts }

/-- Sum of signed terms, left to right (SUM). -/
def sumSigned : List F32 → List Int → F32 → F32
  | [], _, acc => acc
  | u :: l, sg, acc => sumSigned l sg.tail (if sg.headD 1 < 0 then fSub acc u else fAdd acc u)

/-- SUM (No. 1). -/
def blkSum (a : BArg) : BRes :=
  match a.u with
  | [] => fRes [0] []
  | u :: l => fRes [sumSigned l a.opts.tail (if a.op 0 < 0 then fNeg u else u)] []

/-- DIV (No. 4). -/
def blkDiv (a : BArg) : BRes :=
  let u1 := a.uw 0
  let u2 := a.uw 1
  if fLt (fAbs u2) (a.kw 0) then
    fRes [if fSig u1 == 0 then 0 else if fSign u1 then fNeg (a.kw 1) else a.kw 1] []
  else fRes [fDiv u1 u2] []

/-- MINMAX (No. 6): option 0 minimum, 1 maximum. -/
def blkMinmax (a : BArg) : BRes :=
  match a.u with
  | [] => fRes [0] []
  | u :: l => fRes [l.foldl (if a.op 0 == 0 then fMin else fMax) u] []

/-- RATELIM (No. 8). -/
def blkRatelim (a : BArg) : BRes :=
  match a.trk with
  | some y => fRes [y] [y]
  | none =>
    let y := a.xw 0
    let y' := fAdd y (fClamp (fSub (a.uw 0) y) (fMul (fNeg (a.kw 0)) a.t) (fMul (a.kw 1) a.t))
    fRes [y'] [y']

/-- HYST (No. 9): setting is tested first. -/
def blkHyst (a : BArg) : BRes :=
  let y := if fGe (a.uw 0) (a.kw 0) then true else if fLe (a.uw 0) (a.kw 1) then false else wB (a.xw 0)
  wRes [bW y] [bW y]

/-- CMP (No. 10): options 0 to 5 in the order <, ≤, =, ≠, ≥, >. -/
def blkCmp (a : BArg) : BRes :=
  let p := a.uw 0
  let q := a.uw 1
  let r := match (a.op 0).toNat with
    | 0 => fLt p q
    | 1 => fLe p q
    | 2 => fEq p q
    | 3 => !fEq p q
    | 4 => fGe p q
    | _ => fGt p q
  wRes [bW r] []

/-- LOGIC (No. 11): option 0 AND, 1 OR, 2 XOR, 3 NOT. -/
def blkLogic (a : BArg) : BRes :=
  let r := match (a.op 0).toNat with
    | 0 => a.u.all wB
    | 1 => a.u.any wB
    | 2 => a.u.foldl (fun x w => x != wB w) false
    | _ => !wB (a.uw 0)
  wRes [bW r] []

/-- EDGE (No. 12): option 0 rising, 1 falling, 2 either. -/
def blkEdge (a : BArg) : BRes :=
  let u := wB (a.uw 0)
  let p := wB (a.xw 0)
  let r := match (a.op 0).toNat with
    | 0 => u && !p
    | 1 => !u && p
    | _ => u != p
  wRes [bW r] [bW u]

/-- TIMER (No. 13): option 0 on-delay, 1 off-delay; the state counts executions. -/
def blkTimer (a : BArg) : BRes :=
  let u := wB (a.uw 0)
  let c := (a.xw 0).toNat
  let td := (a.kw 0).toNat
  if a.op 0 == 0 then
    wRes [bW (u && c ≥ td)] [if u then BitVec.ofNat 32 (min (c + 1) 4294967295) else 0]
  else
    wRes [bW (u || (wB (a.yw 0) && c < td))] [if u then 0 else BitVec.ofNat 32 (min (c + 1) 4294967295)]

/-- An integer clamped; the upper value where the pair is inverted (R114). -/
def iClamp (v lo hi : Int) : Int := min (max v lo) hi

/-- COUNTER (No. 14): up, down, reset; counts executions with the input true. -/
def blkCounter (a : BArg) : BRes :=
  let lo := (a.kw 0).toInt
  let hi := (a.kw 1).toInt
  let c := (a.xw 0).toInt
  let c' := if wB (a.uw 2) then iClamp 0 lo hi
    else iClamp (c + (if wB (a.uw 0) then 1 else 0) - (if wB (a.uw 1) then 1 else 0)) lo hi
  { outs := [wordOfInt c'], sts := [wordOfInt c'], inv := decide (lo > hi) }

/-- MUX (No. 15): the selector is the first input, u0 to u7 follow. -/
def blkMux (a : BArg) : BRes :=
  let s := (a.uw 0).toNat
  wRes [if s ≤ 7 && s + 1 < a.u.length then a.uw (s + 1) else a.uw 1] []

/-- SH (No. 16). -/
def blkSh (a : BArg) : BRes :=
  match a.trk with
  | some y => wRes [y] [y]
  | none => let y := if wB (a.uw 1) then a.uw 0 else a.xw 0; wRes [y] [y]

/-- DELAY (No. 17): option d, 1 to 16; the states hold the last inputs, newest first. -/
def blkDelay (a : BArg) : BRes :=
  let d := (a.op 0).toNat
  wRes [a.xw (d - 1)] ((a.uw 0 :: a.x).take 16)

/-- INTEG (No. 18): words k, a, b. -/
def blkInteg (a : BArg) : BRes :=
  let inv := fGt (a.kw 1) (a.kw 2)
  let x := match a.trk with
    | some y => fClamp y (a.kw 1) (a.kw 2)
    | none => fClamp (fAdd (a.xw 0) (fMul (fMul (a.kw 0) a.t) (a.uw 0))) (a.kw 1) (a.kw 2)
  fRes [x] [x] inv

/-- The input that tracking assumes (R588), from numerator and denominator sums, the track value and the present input. -/
def trackInput (num den y u : F32) : F32 :=
  if fSig den == 0 then 0 else if fSig num == 0 then u else fDiv y (fDiv num den)

/-- FILT1 (No. 19): words b0, b1, a1; states u[n-1], y[n-1]. -/
def blkFilt1 (a : BArg) : BRes :=
  let one : F32 := 0x3F800000
  match a.trk with
  | some y =>
    let us := trackInput (fAdd (a.kw 0) (a.kw 1)) (fAdd one (a.kw 2)) y (a.uw 0)
    fRes [y] [us, y]
  | none =>
    let y := fSub (fAdd (fMul (a.kw 0) (a.uw 0)) (fMul (a.kw 1) (a.xw 0))) (fMul (a.kw 2) (a.xw 1))
    fRes [y] [a.uw 0, y]

/-- A biquad in transposed direct form II. -/
def biquad (b0 b1 b2 a1 a2 s1 s2 u : F32) : F32 × F32 × F32 :=
  let y := fAdd (fMul b0 u) s1
  (y, fAdd (fSub (fMul b1 u) (fMul a1 y)) s2, fSub (fMul b2 u) (fMul a2 y))

/-- FILT2 (No. 20): words b0, b1, b2, a1, a2; states s1, s2. -/
def blkFilt2 (a : BArg) : BRes :=
  let one : F32 := 0x3F800000
  match a.trk with
  | some y =>
    let us := trackInput (fAdd (fAdd (a.kw 0) (a.kw 1)) (a.kw 2)) (fAdd (fAdd one (a.kw 3)) (a.kw 4)) y (a.uw 0)
    let s2 := fSub (fMul (a.kw 2) us) (fMul (a.kw 4) y)
    let s1 := fAdd (fSub (fMul (a.kw 1) us) (fMul (a.kw 3) y)) s2
    fRes [y] [s1, s2]
  | none =>
    let r := biquad (a.kw 0) (a.kw 1) (a.kw 2) (a.kw 3) (a.kw 4) (a.xw 0) (a.xw 1) (a.uw 0)
    fRes [r.1] [r.2.1, r.2.2]

/-- NOTCH (No. 21): inputs u and f_c, word Q. -/
def blkNotch (a : BArg) : BRes :=
  let c := Config.notchCoef (a.uw 1) (a.kw 0) a.t
  let r := biquad c.1 c.2.1 c.2.2.1 c.2.2.2.1 c.2.2.2.2 (a.xw 0) (a.xw 1) (a.uw 0)
  fRes [r.1] [r.2.1, r.2.2]

/-- W of MAVG and RMS, within 1 to 256. -/
def avgW (a : BArg) : Nat := max 1 (min 256 (a.kw 0).toNat)

/-- Exact sum of binary32 values, rounded once. -/
def fSumExact (l : List F32) : F32 := fOfQ ((l.map fNum149).sum) (1 <<< 149)

/-- MAVG (No. 22): states are the execution count, the running sum and the last inputs, newest first. -/
def blkMavg (a : BArg) : BRes :=
  let w := avgW a
  let n := (a.xw 0).toNat
  let buf := a.x.drop 2
  let buf' := ((a.uw 0 :: buf) ++ List.replicate w 0).take w
  let sum := if (n + 1) % w == 0 then fSumExact buf' else fAdd (fSub (a.xw 1) (buf.getD (w - 1) 0)) (a.uw 0)
  let y := fDiv sum (fOfInt w)
  { outs := [y], sts := BitVec.ofNat 32 ((n + 1) % w) :: sum :: buf', bad := !(fFinite y && fFinite sum && fFinite (a.uw 0)) }

/-- RMS (No. 23): states are the last squares, newest first. -/
def blkRms (a : BArg) : BRes :=
  let w := avgW a
  let buf := ((fMul (a.uw 0) (a.uw 0) :: a.x) ++ List.replicate w 0).take w
  fRes [fSqrt (fDiv (fSumExact buf) (fOfInt w))] buf

/-- LEADLAG (No. 24) by the Tustin transform: words k, T1, T2; states u[n-1], y[n-1]. -/
def blkLeadlag (a : BArg) : BRes :=
  let two : F32 := 0x40000000
  let t1 := fMul two (a.kw 1)
  let t2 := fMul two (a.kw 2)
  match a.trk with
  | some y => fRes [y] [a.uw 0, y]
  | none =>
    let num := fAdd (fMul (fAdd a.t t1) (a.uw 0)) (fMul (fSub a.t t1) (a.xw 0))
    let y := fDiv (fSub (fMul (a.kw 0) num) (fMul (fSub a.t t2) (a.xw 1))) (fAdd a.t t2)
    fRes [y] [a.uw 0, y]

/-- A PI step (No. 25, R113, R115): K_p, K_iT, x_min, x_max, y_min, y_max, the state and the error; state and output. -/
def piStep (kp ki xl xh yl yh x e : F32) (trk : Option F32) : F32 × F32 :=
  let x' := match trk with
    | some y => fClamp (fSub y (fMul kp e)) xl xh
    | none => fClamp (fAdd x (fMul ki e)) xl xh
  (x', fClamp (fAdd (fMul kp e) x') yl yh)

/-- PI (No. 25). -/
def blkPi (a : BArg) : BRes :=
  let r := piStep (a.kw 0) (a.kw 1) (a.kw 2) (a.kw 3) (a.kw 4) (a.kw 5) (a.xw 0) (a.uw 0) a.trk
  fRes [r.2] [r.1] (fGt (a.kw 2) (a.kw 3) || fGt (a.kw 4) (a.kw 5))

/-- PR (No. 26): words K_p, K_r, ω_r, x_lim; ω_r from a second input where there is one; states r, r'. -/
def blkPr (a : BArg) : BRes :=
  let e := a.uw 0
  let w := if a.u.length ≥ 2 then a.uw 1 else a.kw 2
  let lim := fun x => fClamp x (fNeg (a.kw 3)) (a.kw 3)
  match a.trk with
  | some y =>
    let r := lim (fSub y (fMul (a.kw 0) e))
    fRes [fAdd (fMul (a.kw 0) e) r] [r, a.xw 1]
  | none =>
    let p := Config.prStep (a.kw 1) w a.t e (a.xw 0) (a.xw 1)
    let r := lim p.1
    fRes [fAdd (fMul (a.kw 0) e) r] [r, lim p.2]

/-- CLARKE (No. 27). -/
def blkClarke (a : BArg) : BRes :=
  let ab := clarkeAB (a.uw 0) (a.uw 1) (a.uw 2)
  fRes [ab.1, ab.2, fDiv (fAdd (fAdd (a.uw 0) (a.uw 1)) (a.uw 2)) 0x40400000] []

/-- Phases from α, β and z (No. 28). -/
def iclarke (al be z : F32) : F32 × F32 × F32 :=
  let h := fDiv (fNeg al) 0x40000000
  let q := fMul (fDiv fSqrt3 0x40000000) be
  (fAdd al z, fAdd (fAdd h q) z, fAdd (fSub h q) z)

/-- ICLARKE (No. 28). -/
def blkIclarke (a : BArg) : BRes :=
  let r := iclarke (a.uw 0) (a.uw 1) (a.uw 2)
  fRes [r.1, r.2.1, r.2.2] []

/-- α, β to d, q (No. 29). -/
def park (al be : F32) (th : Angle) : F32 × F32 :=
  let s := fSin th
  let c := fCos th
  (fAdd (fMul al c) (fMul be s), fAdd (fMul (fNeg al) s) (fMul be c))

/-- d, q to α, β (No. 30). -/
def ipark (d q : F32) (th : Angle) : F32 × F32 :=
  let s := fSin th
  let c := fCos th
  (fSub (fMul d c) (fMul q s), fAdd (fMul d s) (fMul q c))

/-- p and q of PQ before the filter (No. 32). -/
def pqOf (vd vq id iq : F32) : F32 × F32 :=
  (fAdd (fMul vd id) (fMul vq iq), fSub (fMul vq id) (fMul vd iq))

/-- PQ (No. 32): word the filter time constant; states the filtered p and q. -/
def blkPq (a : BArg) : BRes :=
  let r := pqOf (a.uw 0) (a.uw 1) (a.uw 2) (a.uw 3)
  let p := Config.lowpass (a.kw 0) a.t (a.xw 0) r.1
  let q := Config.lowpass (a.kw 0) a.t (a.xw 1) r.2
  fRes [p, q] [p, q]

/-- Magnitude of a pair. -/
def fHypot (x y : F32) : F32 := fSqrt (fAdd (fMul x x) (fMul y y))

/-- ANGOP (No. 37): option 0 sum, 1 difference, 2 turns to ANGLE, 3 ANGLE to turns. -/
def blkAngop (a : BArg) : BRes :=
  match (a.op 0).toNat with
  | 0 => wRes [a.uw 0 + a.uw 1] []
  | 1 => wRes [a.uw 0 - a.uw 1] []
  | 2 => { outs := [fTurnsToAngle (a.uw 0)], sts := [], bad := !fFinite (a.uw 0) }
  | _ => wRes [fAngleToTurns (a.uw 0)] []

/-- Interpolation segment of ascending breakpoints: the index below `u`, at most `n - 2`. -/
def lutSeg (bp : List F32) (u : F32) (n : Nat) : Nat := min (n - 2) ((bp.take n).filter (fun b => fLe b u)).length.pred

/-- Linear interpolation, in the order of the words: base value plus (u − x0) × (y1 − y0) / (x1 − x0). -/
def lerp (u x0 x1 y0 y1 : F32) : F32 := fAdd y0 (fDiv (fMul (fSub u x0) (fSub y1 y0)) (fSub x1 x0))

/-- LUT1 (No. 38): option N; words N breakpoints and N values. -/
def blkLut1 (a : BArg) : BRes :=
  let n := (a.op 0).toNat
  let u := fClamp (a.uw 0) (a.kw 0) (a.kw (n - 1))
  let i := lutSeg a.k u n
  fRes [lerp u (a.kw i) (a.kw (i + 1)) (a.kw (n + i)) (a.kw (n + i + 1))] []

/-- LUT2 (No. 39): options N1, N2; words the breakpoints of u1, of u2, then the values with the index of u2 running fastest. -/
def blkLut2 (a : BArg) : BRes :=
  let n1 := (a.op 0).toNat
  let n2 := (a.op 1).toNat
  let u1 := fClamp (a.uw 0) (a.kw 0) (a.kw (n1 - 1))
  let u2 := fClamp (a.uw 1) (a.kw n1) (a.kw (n1 + n2 - 1))
  let i := lutSeg a.k u1 n1
  let j := lutSeg (a.k.drop n1) u2 n2
  let v := fun (p q : Nat) => a.kw (n1 + n2 + p * n2 + q)
  let row := fun (p : Nat) => lerp u2 (a.kw (n1 + j)) (a.kw (n1 + j + 1)) (v p j) (v p (j + 1))
  fRes [lerp u1 (a.kw i) (a.kw (i + 1)) (row i) (row (i + 1))] []

/-- The first transition of an FSM that leaves state `s` on a true guard; the options list triples (from, guard input, to). -/
def fsmNext (u : List Word) (s : Int) : List Int → Option Int
  | f :: g :: t :: l => if f == s && wB (u.getD g.toNat 0) then some t else fsmNext u s l
  | _ => none

/-- FSM (No. 40). -/
def blkFsm (a : BArg) : BRes :=
  let s := ((fsmNext a.u (a.xw 0).toInt a.opts).getD (a.xw 0).toInt)
  wRes [wordOfInt s] [wordOfInt s]

/-- 2^32 / 2π as binary32: the correctly rounded quotient of 2^31 by π, π taken to 60 binary places. -/
def countsPerRad : F32 := fOfQ (2147483648 * 1152921504606846976) 3622009729038561421

/-- Angle advance of VSM: round(ω × ω_b × T × 2^32 / 2π) (R109). -/
def vsmAdvance (w wb t : F32) : Angle := wordOfInt (fToIntEven (fMul (fMul (fMul w wb) t) countsPerRad))

/-- One step of the swing equation on a speed or its deviation (R109, R136): H, D, damping reference, clamps. -/
def swing (h d w0 lo hi t w pd p : F32) : F32 :=
  let k := fDiv t (fMul 0x40000000 h)
  fClamp (fAdd w (fMul k (fSub (fSub pd p) (fMul d (fSub w w0))))) lo hi

/-- VSM (No. 41): inputs P*, P, HOLD and, where given, ω0; words H, D, ω0, ω_min, ω_max, ω_b; states ω, θ. -/
def blkVsm (a : BArg) : BRes :=
  let w0 := if a.u.length ≥ 4 then a.uw 3 else a.kw 2
  let w := match a.trk with
    | some y => fClamp y (a.kw 3) (a.kw 4)
    | none =>
      if wB (a.uw 2) then a.xw 0 else swing (a.kw 0) (a.kw 1) w0 (a.kw 3) (a.kw 4) a.t (a.xw 0) (a.uw 0) (a.uw 1)
  let th := a.xw 1 + vsmAdvance w (a.kw 5) a.t
  { outs := [w, th], sts := [w, th], bad := !fFinite w, inv := fGt (a.kw 3) (a.kw 4) }

/-- DROOP (No. 42): words y0, m, u0, δ. -/
def blkDroop (a : BArg) : BRes :=
  let du := fSub (a.uw 0) (a.kw 2)
  fRes [if fGt (fAbs du) (a.kw 3) then fSub (a.kw 0) (fMul (a.kw 1) du) else a.kw 0] []

/-- v of VIMP (No. 43). -/
def vimp (rv xv w ed eq id iq : F32) : F32 × F32 :=
  (fAdd (fSub ed (fMul rv id)) (fMul (fMul w xv) iq), fSub (fSub eq (fMul rv iq)) (fMul (fMul w xv) id))

/-- VIMP (No. 43): inputs e_d, e_q, i_d, i_q, ω. -/
def blkVimp (a : BArg) : BRes :=
  let r := vimp (a.kw 0) (a.kw 1) (a.uw 4) (a.uw 0) (a.uw 1) (a.uw 2) (a.uw 3)
  fRes [r.1, r.2] []

/-- A value with the sign of another. -/
def withSign (s m : F32) : F32 := if fSign s then fNeg m else m

/-- The room left below a limit: √(I² − x²). -/
def room (im x : F32) : F32 := fSqrt (fMax (fSub (fMul im im) (fMul x x)) 0)

/-- CLIM (R143): I_max, I_q,cap, priority and the references d, q of both sequences; the limited references. -/
def climStep (im iq : F32) (pr : Nat) (pd pq nd nq : F32) : F32 × F32 × F32 × F32 :=
  let mp := fHypot pd pq
  let mn := fHypot nd nq
  let tot := fAdd mp mn
  if fLe tot im then (pd, pq, nd, nq)
  else if pr == 0 then
    let k := fDiv im tot
    (fMul pd k, fMul pq k, fMul nd k, fMul nq k)
  else
    let cap := fMin iq im
    let q := if pr == 1 then withSign pq (fMin (fAbs pq) cap) else withSign pq (fMin (fAbs pq) (room im (withSign pd (fMin (fAbs pd) im))))
    let d := if pr == 1 then withSign pd (fMin (fAbs pd) (room im q)) else withSign pd (fMin (fAbs pd) im)
    let rest := fSub im (fHypot d q)
    let rest := fMax rest 0
    if fLe mn rest then (d, q, nd, nq)
    else
      let k := fDiv rest mn
      (d, q, fMul nd k, fMul nq k)

/-- CLIM (No. 44): inputs the references d, q of the positive and of the negative sequence. -/
def blkClim (a : BArg) : BRes :=
  let r := climStep (a.kw 0) (fMin (a.kw 1) (a.kw 0)) (a.kw 2).toNat (a.uw 0) (a.uw 1) (a.uw 2) (a.uw 3)
  fRes [r.1, r.2.1, r.2.2.1, r.2.2.2] []

/-- QUANT (No. 45): words a, b. -/
def blkQuant (a : BArg) : BRes :=
  let lo := (a.kw 0).toInt
  let hi := (a.kw 1).toInt
  if fFinite (a.uw 0) then
    { outs := [wordOfInt (iClamp (fToIntEven (a.uw 0)) lo hi)], sts := [], inv := decide (lo > hi) }
  else { outs := a.y, sts := [], bad := true }

/-- One execution of a block (R109). IMPORT passes the latched value and its validity, EXPORT passes its input, MODE passes the mode
that the kernel's manager holds; the engine gives these as inputs. -/
def blkExec (b : Block) (a : BArg) : BRes :=
  match b with
  | .sum => blkSum a
  | .gain => fRes [fMul (a.kw 0) (a.uw 0)] []
  | .mul => fRes [fMul (a.uw 0) (a.uw 1)] []
  | .div => blkDiv a
  | .abs => fRes [fAbs (a.uw 0)] []
  | .minmax => blkMinmax a
  | .limit => fRes [fClamp (a.uw 0) (a.kw 0) (a.kw 1)] [] (fGt (a.kw 0) (a.kw 1))
  | .ratelim => blkRatelim a
  | .hyst => blkHyst a
  | .cmp => blkCmp a
  | .logic => blkLogic a
  | .edge => blkEdge a
  | .timer => blkTimer a
  | .counter => blkCounter a
  | .mux => blkMux a
  | .sh => blkSh a
  | .delay => blkDelay a
  | .integ => blkInteg a
  | .filt1 => blkFilt1 a
  | .filt2 => blkFilt2 a
  | .notch => blkNotch a
  | .mavg => blkMavg a
  | .rms => blkRms a
  | .leadlag => blkLeadlag a
  | .pi => blkPi a
  | .pr => blkPr a
  | .clarke => blkClarke a
  | .iclarke => blkIclarke a
  | .park => let r := park (a.uw 0) (a.uw 1) (a.uw 2); fRes [r.1, r.2] []
  | .ipark => let r := ipark (a.uw 0) (a.uw 1) (a.uw 2); fRes [r.1, r.2] []
  | .ddsrf => let r := Config.ddsrf (a.kw 0) a.t a.x (a.uw 0) (a.uw 1) (a.uw 2); fRes r.2 r.1
  | .pq => blkPq a
  | .sqrt => fRes [fSqrt (fMax (a.uw 0) 0)] []
  | .trig => fRes [fSin (a.uw 0), fCos (a.uw 0)] []
  | .atan2 => wRes [atan2A (a.uw 1) (a.uw 0)] []
  | .polar => { outs := [fHypot (a.uw 0) (a.uw 1), atan2A (a.uw 1) (a.uw 0)], sts := [], bad := !fFinite (fHypot (a.uw 0) (a.uw 1)) }
  | .angop => blkAngop a
  | .lut1 => blkLut1 a
  | .lut2 => blkLut2 a
  | .fsm => blkFsm a
  | .vsm => blkVsm a
  | .droop => blkDroop a
  | .vimp => blkVimp a
  | .clim => blkClim a
  | .quant => blkQuant a
  | .import_ => wRes a.u []
  | .export_ => wRes a.u []
  | .mode => wRes a.u []

/-- Bank words of an instance (R109, "Words"; R587), for the reach of its addresses. -/
def blkWords (b : Block) (opts : List Int) : Nat :=
  match b with
  | .gain | .timer | .mavg | .rms | .pq => 1
  | .div | .limit | .ratelim | .hyst | .counter | .notch | .ddsrf | .vimp | .quant => 2
  | .integ | .filt1 | .leadlag | .clim => 3
  | .droop => 4
  | .filt2 | .pr => 5
  | .pi | .vsm => 6
  | .mode => 16
  | .lut1 => 2 * (opts.getD 0 0).toNat
  | .lut2 => (opts.getD 0 0).toNat + (opts.getD 1 0).toNat + (opts.getD 0 0).toNat * (opts.getD 1 0).toNat
  | _ => 0

/-- The clamp pairs of an instance in a bank are in order (R114, R587). -/
def clampsOk (b : Block) (k : List Word) : Bool :=
  let f := fun i => k.getD i 0
  match b with
  | .limit => fLe (f 0) (f 1)
  | .integ => fLe (f 1) (f 2)
  | .quant | .counter => decide ((f 0).toInt ≤ (f 1).toInt)
  | .pi => fLe (f 2) (f 3) && fLe (f 4) (f 5)
  | .vsm => fLe (f 3) (f 4)
  | _ => true

end Sys2Proof.Machine
end

