-- ==== Sys2Proof/Machine/Crc.lean ====
section
/-!
DEFINITION. The three checks of the manual: CRC-32 and CRC-8 (R231) and CRC-64 (R285).
-/
namespace Sys2Proof.Machine
open Sys2Proof

/-- `k` shifts of the reflected CRC-32 register. -/
def crc32Shift : Nat → Word → Word
  | 0, c => c
  | k + 1, c => crc32Shift k (if c.getLsbD 0 then (c >>> 1) ^^^ 0xEDB88320 else c >>> 1)

/-- CRC-32 of IEEE 802.3: polynomial 0x04C1_1DB7, initial value all ones, reflected, final XOR all ones (R231). -/
def crc32 (l : List Byte) : Word :=
  ~~~(l.foldl (fun c b => crc32Shift 8 (c ^^^ b.setWidth 32)) 0xFFFFFFFF)

/-- `k` shifts of the CRC-8 register. -/
def crc8Shift : Nat → Byte → Byte
  | 0, c => c
  | k + 1, c => crc8Shift k (if c.getLsbD 7 then (c <<< 1) ^^^ 0x07 else c <<< 1)

/-- CRC-8 with polynomial 0x07, initial value 0, no reflection (R231). -/
def crc8 (l : List Byte) : Byte := l.foldl (fun c b => crc8Shift 8 (c ^^^ b)) 0

/-- `k` shifts of the CRC-64 register. -/
def crc64Shift : Nat → BitVec 64 → BitVec 64
  | 0, c => c
  | k + 1, c => crc64Shift k (if c.getLsbD 63 then (c <<< 1) ^^^ 0x42F0E1EBA9EA3693 else c <<< 1)

/-- CRC-64 with polynomial 0x42F0_E1EB_A9EA_3693, initial value 0, no reflection, no final XOR (R285). -/
def crc64 (l : List Byte) : BitVec 64 :=
  l.foldl (fun c b => crc64Shift 8 (c ^^^ ((BitVec.setWidth 64 b : BitVec 64) <<< (56 : Nat)))) 0

end Sys2Proof.Machine
end

