-- ==== Sys2Proof/Machine/Operands.lean ====
section
/-!
DEFINITION. Where a block, the kernel or the recorder takes a value from (R98, R109 No. 46, R133, R393), and the elements a parent
holds (R19).
-/
namespace Sys2Proof.Machine
open Sys2Proof

/-- Arm sections that child `i` reports: two for an ARM node that owns two arms, else one (R15, chapter 07). -/
def State.kidArms (s : State) (i : Nat) : Nat :=
  match s.nodes.find? (fun n => n.id == s.pn gNST 3 i) with
  | some n => if n.role == .arm && n.arms == 2 then 2 else 1
  | none => 1

/-- The child and its arm section that present converter arm `a` (NST.003, NST.004): element `2·i + j` of NST.004 is the converter
arm of section `j` of child `i`. -/
def State.kidOf (s : State) (a : Nat) : Option (Nat × Nat) :=
  (List.range 32).findSome? (fun i =>
    if s.pn gNST 3 i == 0 then none
    else if s.pn gNST 4 (2 * i) == a then some (i, 0)
    else if s.kidArms i == 2 && s.pn gNST 4 (2 * i + 1) == a then some (i, 1)
    else none)

/-- Arm section `j` of a report. -/
def UpRep.sec (r : UpRep) (j : Nat) : ArmSec := if j == 0 then r.arm0 else r.arm1

/-- Newest report of child `i` with the tag `f`. -/
def State.kidRep (s : State) (i f : Nat) : Option UpRep := (s.kid i).reps.find? (fun r => r.epoch == f)

/-- An F32 as an energy or mean of integers is formed by the caller; a count as binary32. -/
def fNat (n : Nat) : F32 := fOfInt n

/-- A cell is excluded: some reason stands (R196). -/
def Cell.excluded (c : Cell) : Bool :=
  c.exGroup || c.exStale || c.exGate || c.exByp || c.exProt || c.exIdent

/-- Stored energy ½·C·V² of a cell in J: C in µF, V in 0.1 V (R19). -/
def cellEnergy (capUF v : Nat) : F32 := fOfQ (capUF * v * v) 200000000

/-- What the module knows of converter arm `a` at the root, or of owned arm `a` at a leaf: its newest section. -/
def State.armSec (s : State) (a : Nat) : ArmSec :=
  if s.isLeaf then
    let cs := (s.channels a).map s.cell
    let ok := cs.filter (fun c => !c.excluded)
    { healthy := ok.length, vavg := (s.armS a).vAvg, energy := (ok.map (fun c => cellEnergy c.capUF c.vcap)).foldl fAdd 0,
      inserted := ((s.armS a).books.head?.map (fun b => b.2.1)).getD 0,
      returned := ((s.armS a).books.head?.map (fun b => b.2.2.1)).getD 0,
      nHi := (ok.length : Int) - (if s.pn gARM 1 a == 1 then 1 else 0),
      nLo := -((ok.filter (fun c => c.fb)).length : Int) }
  else match s.kidOf a with
    | some (i, j) => (((s.kid i).reps.head?).map (fun r => r.sec j)).getD {}
    | none => {}

/-- Program of the running image. -/
def State.prog (s : State) : List Inst := (s.sys.run.map (·.prog)).getD []

/-- Published output `o` of instance `i`. -/
def State.sigOut (s : State) (i o : Nat) : Word := (s.eng.outs.getD i []).getD o 0

/-- Published value of the EXPORT block with a destination (R109 No. 47). -/
def State.expVal (s : State) (d : Dst) : Option Word :=
  match s.prog.findIdx? (fun x => x.ty == .export_ && x.dst == d) with
  | some i => some (s.sigOut i 0)
  | none => none

/-- An optional value with its validity. -/
def orAbsent (v : Option Word) : Word × Bool := (v.getD 0, v.isSome)

/-- A status word from its bits and fields. -/
def wbits (bits : List (Bool × Nat)) (fields : List (Nat × Nat)) : Word :=
  fields.foldl (fun w f => w ||| fieldAt f.1 f.2) (bits.foldl (fun w b => w ||| bitAt b.1 b.2) 0)

/-- DIA.044 but its RC bits (R90). -/
def TSet.word (t : TSet) : Word :=
  wbits [(t.inBad, 12), (t.armed, 8), (t.magLow, 2), (t.seqNeg, 1), (t.valid, 0)] [(t.xcount, 16)]

/-- Value and validity of a source. Aggregate quantities come as binary32 in the units of R19. -/
def State.srcVal (s : State) : Src → Word × Bool
  | .none => (0, false)
  | .ai k => let a := s.meas.ai.getD k AIn.reset; (a.dMean, a.dValid)
  | .aiLatest k => let a := s.meas.ai.getD k AIn.reset; (a.dLatest, a.dValid)
  | .sd k => let a := s.meas.sd.getD k SdIn.reset; (a.dX, a.dValid)
  | .sdAge k => let a := s.meas.sd.getD k SdIn.reset; (BitVec.ofNat 32 a.dAge, a.dValid)
  | .sv i k => let v := s.meas.sv.getD i SvIn.reset; (v.dVal.getD k 0, v.dOk.getD k false)
  | .trkAngle t => let x := s.tracker t; (x.set.theta, x.set.valid)
  | .trkMag t => let x := s.tracker t; (x.set.mag, !x.set.inBad)
  | .trkFreq t => let x := s.tracker t; (x.set.freq, x.set.valid)
  | .armVavg a => (fOfQ (s.armSec a).vavg 10, true)
  | .armEnergy a => ((s.armSec a).energy, true)
  | .armHealthy a => (fNat (s.armSec a).healthy, true)
  | .armInserted a => (fOfInt (s.armSec a).inserted, true)
  | .armReturned a => (fOfInt (s.armSec a).returned, true)
  | .armNlo a => (fOfInt (s.armSec a).nLo, true)
  | .armNhi a => (fOfInt (s.armSec a).nHi, true)
  | .vcap c => (fOfQ (s.cell c).vcap 10, (s.cell c).fresh)
  | .baseTemp => (s.hw.base, true)
  | .field i => (bW (s.fio.lat.getLsbD i), !s.fio.brk.getLsbD i)
  | .mstate => (BitVec.ofNat 32 s.sys.st.code, true)
  | .exported k => orAbsent (s.expVal (.reedbed k))
  | .kernExp k => orAbsent (s.expVal (.kernel k))
  | .host id e => match prow id with
    | some r => ((s.raw id.g id.n e).setWidth 32, decide (e < r.len))
    | none => (0, false)
  | .digital _ => (0, false)

/-- Level of a field input named as in GFM.003: 0 none, 1 to 16 DIA00 to DIA15, 17 to 32 DIB00 to DIB15. -/
def State.fieldLevel (s : State) (code : Nat) : Bool := code != 0 && s.fio.lat.getLsbD (code - 1)

/-- Kernel outputs by index, as a block input names them: u_abc, θ, ω, E, limited references, P_dc, MODE, KERNEL_ACTIVE (R133). -/
def KOut.word (o : KOut) (mode : KMode) (k : Nat) : Word :=
  match k with
  | 0 => o.ua | 1 => o.ub | 2 => o.uc | 3 => o.th | 4 => o.w | 5 => o.e | 6 => o.ld | 7 => o.lq | 8 => o.lnd | 9 => o.lnq
  | 10 => o.pdc
  | 11 => (match mode with | .idle => 0 | .blackStart => 1 | .sync => 2 | .forming => 3 | .limited => 4)
  | _ => bW o.active

end Sys2Proof.Machine
end

