-- ==== Sys2Proof/Machine/Engine.lean ====
section
/-!
DEFINITION. The loop engine (chapter 03): runs of the rate groups, publication, overruns, coefficient banks and their CRCs.
-/
namespace Sys2Proof.Machine
open Sys2Proof

/-- Index of a group: frame 0, control 1, supervisory 2, background 3. -/
def Grp.ix : Grp → Nat
  | .frame => 0 | .control => 1 | .supervisory => 2 | .background => 3

/-- The engine runs a program: the module is READY, RUNNING or FAULTED (R443, R491). -/
def State.engOn (s : State) : Bool := s.sys.st == .ready || s.sys.st == .running || s.sys.st == .faulted

/-- Words of a bank: false A, true B. -/
def Eng.bank (e : Eng) (b : Bool) : List Word := if b then e.bankB else e.bankA
/-- CRC-32 of a bank: 8,192 words from the lowest address, most significant byte first (R117). -/
def Eng.crc (e : Eng) (b : Bool) : Word :=
  crc32 ((e.bank b).flatMap (fun w => [w.extractLsb' 24 8, w.extractLsb' 16 8, w.extractLsb' 8 8, w.extractLsb' 0 8]))

/-- A pending exchange of banks falls due at frame `f`: the control boundary of the swap is reached (R119). -/
def State.swapDue (s : State) (f : Nat) : Bool :=
  match s.eng.swapAt with
  | some t => decide (t ≤ f) && s.isCtl f
  | none => false

/-- Bank in force for a latch at frame `f`: a pending exchange at that boundary counts (R119, R589). -/
def State.bankAt (s : State) (f : Nat) : Bool := if s.swapDue f then !s.eng.actB else s.eng.actB

/-- One input of an instance in a run of group `g` (R98, R584): a current input from the same group takes the value of this run. -/
def State.inVal (s : State) (g : Grp) (prog : List Inst) (new : List (List Word)) (knext : Option (KOut × KMode)) (r : InRef) : Word :=
  match r.src with
  | .const w => w
  | .sig i o =>
    let same := ((prog[i]?).map (·.grp)) == some g
    if same && !r.prev then (new.getD i []).getD o 0 else s.sigOut i o
  | .kern k =>
    match knext with
    | some (o, m) => if g == .control && !r.prev then o.word m k else s.kern.out.word s.kern.core.mode k
    | none => s.kern.out.word s.kern.core.mode k

/-- Executes one instance of a run (R92, R93, R110, R114, R115). -/
def State.instExec (s : State) (g : Grp) (t : F32) (bank : List Word) (knext : Option (KOut × KMode)) (prog : List Inst)
    (r : Run) (i : Nat) (x : Inst) : Run :=
  if x.grp != g then r
  else
    let inp := s.inVal g prog r.outs knext
    let on := match x.enable with | some e => wB (inp e) | none => true
    if !on then r
    else
      let u := match x.ty with
        | .import_ => let v := s.srcVal x.src; [v.1, bW v.2]
        | .mode => [s.kern.out.word s.kern.core.mode 11]
        | _ => x.ins.map inp
      let trk := match x.track with
        | some (c, v) => if wB (inp c) then some (inp v) else none
        | none => none
      let b := blkExec x.ty { k := bank.drop x.coef, x := s.eng.sts.getD i [], u := u, y := s.eng.outs.getD i [],
                              opts := x.opts, t := t, trk := trk }
      if b.bad then { r with numeric := r.numeric ++ [i], inv := r.inv || b.inv }
      else { r with outs := r.outs.set i b.outs, sts := r.sts.set i b.sts, inv := r.inv || b.inv }

/-- A whole run of group `g`, latched at frame `f` and due at `due` (R96 to R98, R584). -/
def State.runGroup (s : State) (g : Grp) (t : F32) (bank : Bool) (knext : Option (KOut × KMode)) (f due : Nat) : Run :=
  let prog := s.prog
  let r0 : Run := { outs := s.eng.outs, sts := s.eng.sts, numeric := [], startF := f, dueF := due, bad := false, inv := false }
  (prog.zipIdx).foldl (fun r p => s.instExec g t (s.eng.bank bank) knext prog r p.2 p.1) r0

/-- Period of a group in seconds (chapter 03, block library). -/
def State.grpT (s : State) : Grp → F32
  | .frame => fSec s.tf
  | .control => fSec s.tsNs
  | .supervisory => fSec 1000000
  | .background => match s.eng.bgStart, s.eng.bgPrev with
    | some a, some b => fSec (a - b)
    | _, _ => 0

/-- Starts a run of a group at the present boundary. -/
def State.startRun (s : State) (g : Grp) (bank : Bool) (knext : Option (KOut × KMode)) (due : Nat) : State :=
  let r := s.runGroup g (s.grpT g) bank knext s.fr due
  s.modEng (fun e => { e with runs := e.runs.set g.ix (some r), readBad := e.readBad.set g.ix false })

/-- Records the instances with a non-finite result, and an inverted clamp (R93, R114). -/
def State.numericEv (s : State) (l : List Nat) (inv : Bool) : State :=
  let s := s.modEng (fun e =>
    { e with numericN := wrap32 (e.numericN + l.length)
             numericI := if e.numericI == 65535 then l.headD 65535 else e.numericI })
  s.when (!l.isEmpty || inv) (fun s => s.rcSet 60 0 12)

/-- Non-finite results and inverted clamps of a run are recorded, also when it publishes nothing (R93, R114). -/
def State.numericOf (s : State) (r : Run) : State := s.numericEv r.numeric r.inv

/-- Merges the signals and states of group `g` from a run into what is published (R96, R102). -/
def mergeGrp (prog : List Inst) (g : Grp) (old new : List (List Word)) : List (List Word) :=
  old.mapIdx (fun i o => if ((prog[i]?).map (·.grp)) == some g then new.getD i o else o)

/-- The group has finished a sample by its deadline: its count of consecutive overruns and its conditions end (R94, R103, R104). -/
def Eng.inTime (e : Eng) (g : Grp) : Eng :=
  { e with conRun := if g == .control then 0 else e.conRun
           frmRun := if g == .frame then 0 else e.frmRun
           loopF := if g == .frame then false else e.loopF
           loopC := if g == .control then false else e.loopC
           badGrp := e.badGrp.set g.ix false }

/-- Publishes the run of a group: outputs, states, events of its arithmetic; the control group's with their state epoch (R31, R93, R96, R97). -/
def State.publishRun (s : State) (g : Grp) (r : Run) : State :=
  let prog := s.prog
  let s := s.modEng (fun e =>
    ({ e with outs := mergeGrp prog g e.outs r.outs, sts := mergeGrp prog g e.sts r.sts, runs := e.runs.set g.ix none,
              ctlPub := e.ctlPub || (g == Grp.control), ctlEp := if g == Grp.control then some r.startF else e.ctlEp }).inTime g)
  s.numericOf r

/-- Makespan that the image states for a group and the running lane count (R108, DIA.069). -/
def State.stated (s : State) (gi : Nat) : Nat :=
  match s.sys.run with
  | none => 0
  | some c =>
    if s.eng.laneOk == 15 then c.spans4.getD gi 0
    else (c.spans3.getD (if s.eng.laneOk == 14 then 0 else if s.eng.laneOk == 13 then 1 else if s.eng.laneOk == 11 then 2 else 3) []).getD gi 0

/-- A measured makespan: the largest is kept, one beyond the stated value sets WCET_EXCEEDED (R107, R108). -/
def State.measureSpan (s : State) (g : Grp) (v : Nat) : State :=
  let s := s.modEng (fun e => { e with spans := e.spans.modify g.ix (max v) })
  if g.ix < 3 && v > s.stated g.ix then (s.rcSet 60 0 14).audit 0x50 {} g.ix v (s.stated g.ix) (s.lastCtl s.fr) else s

/-- Ends the run of a group at its deadline with nothing published (R94, R102 to R105). -/
def State.overrun (s : State) (g : Grp) : State :=
  match s.eng.runs.getD g.ix none with
  | none => s
  | some r =>
    let s := s.numericOf r
    let s := s.modEng (fun e => { e with runs := e.runs.set g.ix none })
    match g with
    | .frame => (s.modEng (fun e => { e with totals := e.totals.modify 0 (fun n => wrap32 (n + 1)), frmRun := min 15 (e.frmRun + 1) })).rcSet 60 0 8
    | .control =>
      let s := s.numericEv ((s.kern.next.map (·.num)).getD []) false
      ((s.modEng (fun e => { e with totals := e.totals.modify 1 (fun n => wrap32 (n + 1)), conRun := min 15 (e.conRun + 1) })).modKern
        (fun k => { k with next := none, req := k.req.or k.reqLat, reqLat := none, due4 := false, due6 := false })).rcSet 60 0 9
    | .supervisory =>
      ((s.modEng (fun e => { e with totals := e.totals.modify 2 (fun n => wrap32 (n + 1)) })).rcSet 60 0 10).audit 0x50 {} 2 0 0
        (s.lastCtl s.fr)
    | .background => s

/-- Publishes the run of a group if it is due at the present frame; a run that has read an uncorrectable word counts as an overrun
(R94). Either is measured (R107). -/
def State.publishDue (s : State) (g : Grp) (spans : List Nat) : State :=
  match s.eng.runs.getD g.ix none with
  | some r =>
    if s.fr < r.dueF then s
    else if r.bad then (s.overrun g).measureSpan g (spans.getD g.ix 0)
    else (s.publishRun g r).measureSpan g (spans.getD g.ix 0)
  | none => s

/-- Consecutive overruns of a group have reached its threshold (R104, R127). -/
def State.loopOver (s : State) (g : Grp) : Bool :=
  match g with
  | .frame => s.eng.frmRun ≥ s.pn gLPE 2
  | .control => s.eng.conRun ≥ s.pn gLPE 3
  | _ => false

/-- A program is loaded: signals and states start at zero, COUNTER at its reset count, banks as in the image (R585). -/
def Eng.load (c : Content) (laneOk : Nat) (bankB : Bool) (old : Eng) : Eng :=
  let pad := fun (l : List Word) => (l ++ List.replicate 8192 0).take 8192
  let words := fun (x : Inst) => (if bankB then pad c.bankB else pad c.bankA).drop x.coef
  let cnt := fun (x : Inst) =>
    let k := words x
    [wordOfInt (iClamp 0 ((k.getD 0 0).toInt) ((k.getD 1 0).toInt))]
  { old with
    outs := c.prog.map (fun x => if x.ty == .counter then cnt x else List.replicate x.nOut 0)
    sts := c.prog.map (fun x => if x.ty == .counter then cnt x else [])
    runs := [none, none, none, none]
    conRun := 0, frmRun := 0, loopF := false, loopC := false
    badGrp := [false, false, false, false], readBad := [false, false, false, false]
    laneOk := laneOk, degraded := false
    actB := bankB, bankA := pad c.bankA, bankB := pad c.bankB, swapAt := none
    bgB := bankB, bgStart := none, bgPrev := none, bgEnded := false, bgLate := false, ctlPub := false, ctlEp := none }

/-! ### Coefficient banks (R116 to R122) -/

/-- Puts words into a bank from an address on. -/
def setWords (bank : List Word) (addr : Nat) (ws : List Word) : List Word :=
  (ws.zipIdx).foldl (fun b p => b.set (addr + p.2) p.1) bank

/-- Writes words to the inactive bank. -/
def Eng.writeInactive (e : Eng) (addr : Nat) (ws : List Word) : Eng :=
  if e.actB then { e with bankA := setWords e.bankA addr ws } else { e with bankB := setWords e.bankB addr ws }

/-- The exchange of banks at its boundary, with its audit record: state epoch and the two CRCs (R119, R121, R122). -/
def State.bankExchange (s : State) : State :=
  if s.swapDue s.fr then
    let s := s.modEng (fun e => { e with actB := !e.actB, swapAt := none })
    let s := s.modPar (fun p => { p with
      vals := (p.bankW.filter (fun v => (s.sys.run.bind (fun c => mGet c.gfmAddr v.id.n)).isNone)).foldl (fun l v => pvPut v l) p.vals, bankW := [] })
    s.audit 0x10 {} 0 (s.eng.crc s.eng.actB).toNat (s.eng.crc (!s.eng.actB)).toNat s.fr
  else s

/-- GFM limits of R171 over a bank, by the values of its words. -/
def State.kernWord (s : State) (b : Bool) (n : Nat) : Option Word :=
  match s.sys.run with
  | some c => (mGet c.gfmAddr n).bind (fun a => (s.eng.bank b)[a]?)
  | none => none

/-- A Bank parameter of group GFM as its bank word: seconds for TIME, limits of speed as deviations from 1 (R136, R587). -/
def gfmWord (n : Nat) (v : Raw) : Word :=
  if n == 21 || n == 24 || n == 61 then fSec v.toNat
  else if n == 22 || n == 23 then fSub (v.setWidth 32) 0x3F800000
  else v.setWidth 32

/-- Value of a GFM Bank parameter in a bank: its word, else the parameter's own value. -/
def State.gw (s : State) (b : Bool) (n : Nat) : Word := (s.kernWord b n).getD (gfmWord n (s.raw gGFM n))

/-- GFM_RANGE of R171 holds in a bank: speed limits out of order, or the return threshold below 0.8 pu. -/
def State.gfmRangeBad (s : State) (b : Bool) : Bool :=
  !fLt (s.gw b 22) (s.gw b 23) || fLt (fSub (s.gw b 40) (s.gw b 43)) (fOfQ 8 10)

end Sys2Proof.Machine
end

