-- ==== Sys2Proof/Machine/Kernel.lean ====
section
/-!
DEFINITION. The grid-forming kernel (chapter 04): measurement, control law, current limit, modes and transitions, bumpless hand-over,
synchronising. One run belongs to one control boundary; its publication commits it (R96, R149).
-/
namespace Sys2Proof.Machine
open Sys2Proof

/-- 1.0 as binary32. -/
def f1 : F32 := 0x3F800000

/-- 2π as binary32. -/
def fTwoPi : F32 := fOfQ (2 * 3622009729038561421) 1152921504606846976

/-- Nominal frequency (R131). -/
def State.fNom (s : State) : F32 := (s.sys.run.map (·.fNom)).getD 0x42480000
/-- Base angular frequency ω_b = 2π f_nom (R131). -/
def State.wb (s : State) : F32 := fMul fTwoPi s.fNom
/-- Control sample in seconds. -/
def State.kT (s : State) : F32 := fSec s.tsNs

/-- The kernel runs: a root whose GFM section is not empty (R130). -/
def State.kernOn (s : State) : Bool := s.engOn && s.isRoot && ((s.sys.run.map (·.gfmSet)).getD false)

/-- Code of a kernel mode in DIA.080. -/
def KMode.code : KMode → Nat
  | .idle => 0 | .blackStart => 1 | .sync => 2 | .forming => 3 | .limited => 4

/-- An angle of a tracker set extrapolated to an instant in ns: θ_L + f × (t − t_L) × 2^32 (R82). -/
def TSet.extrap (x : TSet) (t : Nat) : Angle :=
  let dt : Int := (t : Int) * 65536 - x.ts
  x.theta + fTurnsToAngle (fMul x.freq (fOfQ dt sec16.toNat))

/-- Some arm section of the tree reports its arm BLOCKED, seen at the root (R133). -/
def State.anyArmBlocked (s : State) : Bool :=
  (s.isLeaf && (List.range s.nArms).any (fun a => (s.armS a).blkPrev)) ||
  (List.range 32).any (fun i => s.pn gNST 3 i != 0 &&
    match (s.kid i).reps with
    | r :: _ => r.arm0.blocked || (r.two && r.arm1.blocked)
    | [] => false)

/-- CONV_DEBLOCKED (R133): RUNNING, no arm BLOCKED, the valve permit SO2 energised. -/
def State.convDeblocked (s : State) : Bool :=
  s.running && !s.anyArmBlocked && (match s.hdg.outs[1]? with | some o => o.hs && o.ls | none => false)

/-- Inputs latched at a control boundary (R133, R149). -/
def State.kernLatch (s : State) : KLatch :=
  let k := (s.sys.run.bind (·.kern))
  let v := fun (i : Nat) => match k with | some x => (s.srcVal (x.v.getD i .none)).1 | none => 0
  let c := fun (i : Nat) => match k with | some x => (s.srcVal (x.i.getD i .none)).1 | none => 0
  { va := v 0, vb := v 1, vc := v 2, ia := c 0, ib := c 1, ic := c 2
    vdc := match k with | some x => (s.srcVal x.vdc).1 | none => 0
    ter := (s.tracker (s.pn gGFM 6 - 1)).set
    syn := if s.pn gGFM 5 == 0 then TSet.reset else (s.tracker (s.pn gGFM 5 - 1)).set
    brk := s.fieldLevel (s.pn gGFM 4)
    debl := s.convDeblocked
    f := s.fr, tai := s.now }

/-- Components after CLARKE, DDSRF and PQ (chapter 04, Measurement). -/
structure KMeas where
  vd : F32
  vq : F32
  vnd : F32
  vnq : F32
  id : F32
  iq : F32
  ind : F32
  inq : F32
  vm : F32
deriving DecidableEq, Repr

/-- Measured current, both sequences. -/
def KMeas.cur (m : KMeas) : F32 × F32 × F32 × F32 := (m.id, m.iq, m.ind, m.inq)
/-- Measured voltage, both sequences. -/
def KMeas.volt (m : KMeas) : F32 × F32 × F32 × F32 := (m.vd, m.vq, m.vnd, m.vnq)

/-- Track values of one sample (R115, R148, R165): the current references that the voltage loop's PIs give, the voltages that the current
loop's PIs give, the power of RATELIM, speed and angle from the terminal tracker, the EMF ramp at 0. -/
structure KTrk where
  volt  : Option (F32 × F32 × F32 × F32) := none
  cur   : Option (F32 × F32 × F32 × F32) := none
  pr    : Option F32 := none
  ter   : Bool := false
  ramp0 : Bool := false
deriving DecidableEq, Repr

/-- What a sample tracks: everything in IDLE (R148), the states of the back-calculation table in the sample of a transition (R165). -/
def State.kernTrk (s : State) (trans : Option Nat) (mode : KMode) (c : KCore) (m : KMeas) : KTrk :=
  let o := s.kern.out
  let net : KTrk := { volt := some m.cur, cur := some m.volt }
  if mode == .idle then { net with pr := some c.pf, ter := true }
  else match trans with
  | some 3 => if s.pn gGFM 2 == 0 then {} else { cur := some (o.ud, o.uq, 0, 0) }
  | some 4 => { volt := some (o.ld, o.lq, o.lnd, o.lnq) }
  | some 8 => { pr := some c.pf }
  | some 9 => { net with ramp0 := true }
  | some 10 => { net with pr := some c.pf, ter := true }
  | _ => {}

/-- Measurement of one sample in the frame of θ[n−1]; the filter states advance. -/
def State.kernMeasure (s : State) (b : Bool) (c : KCore) (l : KLatch) : KCore × KMeas :=
  let t := s.kT
  let v := clarkeAB l.va l.vb l.vc
  let i := clarkeAB l.ia l.ib l.ic
  let rv := Config.ddsrf (s.gw b 26) t (c.dds.take 4) v.1 v.2 s.kern.out.th
  let ri := Config.ddsrf (s.gw b 26) t (c.dds.drop 4) i.1 i.2 s.kern.out.th
  let g := fun (x : List F32) (k : Nat) => x.getD k 0
  let vd := g rv.2 0
  let vq := g rv.2 1
  let id := g ri.2 0
  let iq := g ri.2 1
  let pq := pqOf vd vq id iq
  ({ c with dds := rv.1 ++ ri.1, pf := Config.lowpass (s.gw b 24) t c.pf pq.1, qf := Config.lowpass (s.gw b 24) t c.qf pq.2 },
   { vd := vd, vq := vq, vnd := g rv.2 2, vnq := g rv.2 3, id := id, iq := iq, ind := g ri.2 2, inq := g ri.2 3,
     vm := fHypot vd vq })

/-- A kernel PI block with its clamps (R141, R144). -/
def kPi (n : Nat) (kp ki x e : F32) (trk : Option F32) : F32 × F32 :=
  let c := Config.kernelPi n
  piStep kp ki c.1 c.2.1 c.2.2.1 c.2.2.2 x e trk

/-- P_dc of R146. -/
def State.kernPdc (s : State) (b : Bool) (l : KLatch) : F32 :=
  if s.pb gGFM 90 then fClamp (fDiv (fSub l.vdc (s.pf gGFM 91)) (s.gw b 92)) (fNeg (s.gw b 93)) (s.gw b 93) else 0

/-- Slip angle Δθ of R155. -/
def State.kernSlip (s : State) (l : KLatch) : Angle := l.syn.extrap l.tai - s.kern.out.th - s.pf gGFM 75

/-- E of R139 for a voltage setpoint. -/
def State.kernEmf (s : State) (b : Bool) (vset q : F32) : F32 :=
  fClamp (fSub vset (fMul (s.gw b 15) (fSub q (s.pf gGFM 11)))) 0 (s.gw b 25)

/-- First part of the law: power, speed, angle, EMF and the unlimited reference of the present mode `c.mode` (R135 to R142, R146,
R148, R154, R155, R162, R163). -/
structure KLaw where
  c    : KCore
  w    : F32
  e    : F32
  vsd  : F32
  vsq  : F32
  rd   : F32
  rq   : F32
  nd   : F32
  nq   : F32
  pdc  : F32
  hold : Bool
deriving DecidableEq, Repr

/-- Speed deviation and angle after one sample. -/
def State.kernSpeed (s : State) (b : Bool) (c : KCore) (l : KLatch) (m : KMeas) (tr : KTrk) (pr pdc : F32) : KCore × Bool :=
  let t := s.kT
  let wset := if c.mode == .sync then c.synW else s.pf gGFM 13
  let pstar := fAdd (fAdd pr (fDiv (fSub wset s.kern.out.w) (s.gw b 14))) pdc
  let net := tr.ter && l.ter.valid
  let fTer := fDiv l.ter.freq s.fNom
  let wref := if s.pn gGFM 20 != 1 || !l.ter.valid then c.wref else if tr.ter then fTer else Config.lowpass (s.gw b 21) t c.wref fTer
  let w0 := if s.pn gGFM 20 == 1 then fSub wref f1 else 0
  let track := fun (y : F32) => fClamp y (s.gw b 22) (s.gw b 23)
  let dw := if net then track (fSub fTer f1) else match c.mode with
    | .blackStart => track (fSub (s.gw b 62) f1)
    | .idle | .limited => c.dw
    | _ => swing (s.gw b 18) (s.gw b 19) w0 (s.gw b 22) (s.gw b 23) t c.dw pstar c.pf
  let adv := c.th + vsmAdvance (fAdd f1 dw) s.wb t
  let th := if net then l.ter.extrap l.tai else adv
  -- angle hold (R163)
  let del : Angle := 0 - atan2A m.vq m.vd
  let mag : Int := if del.toInt < 0 then -del.toInt else del.toInt
  let lim : Int := (s.gw b 45).toNat
  let on := c.mode == .limited && fGe m.vm (s.gw b 47) && decide (mag > lim)
  let mv : Int := min (mag - lim) (s.gw b 46).toNat
  let th := if on then th - wordOfInt (if del.toInt < 0 then -mv else mv) else th
  ({ c with dw := dw, th := th, wref := wref }, on)

/-- The first part of the law for the mode in `c`. -/
def State.kernLawA (s : State) (b : Bool) (c : KCore) (l : KLatch) (m : KMeas) (tr : KTrk) : KLaw :=
  let t := s.kT
  let pdc := s.kernPdc b l
  let rate := fMul (s.gw b 17) t
  let pr := tr.pr.getD (fAdd c.pr (fClamp (fSub (s.pf gGFM 10) c.pr) (fNeg rate) rate))
  -- synchronising setpoints (R155, R159)
  let slip := s.kernSlip l
  let live := c.mode == .sync && l.syn.valid
  let c := if live then
      { c with synW := fAdd (fDiv l.syn.freq s.fNom) (fMul (s.gw b 74) (fOfDyadic slip.toInt (-32))), synV := l.syn.mag }
    else c
  let (c, hold) := s.kernSpeed b c l m tr pr pdc
  let ramp := fMul (s.gw b 60) (fDiv t (s.gw b 61))
  let ef := if tr.ramp0 then 0 else match c.mode with
    | .idle => m.vm
    | .blackStart => fMin (fAdd c.ef ramp) (s.gw b 60)
    | _ => c.ef
  let c := { c with pr := pr, ef := ef }
  let w := fAdd f1 c.dw
  let e := match c.mode with
    | .idle => m.vm
    | .blackStart => c.ef
    | .sync => s.kernEmf b c.synV c.qf
    | .limited => if c.ret == .blackStart then c.ef else s.kernEmf b (if c.fromS then c.synV else s.pf gGFM 12) c.qf
    | .forming => s.kernEmf b (s.pf gGFM 12) c.qf
  let vs := vimp (s.gw b 30) (s.gw b 31) w e 0 m.id m.iq
  let casc := s.pn gGFM 2 == 0
  let fd := fMul (s.gw b 34) m.id
  let fq := fMul (s.gw b 34) m.iq
  let pd := kPi 0 (s.gw b 32) (s.gw b 33) c.vd (fSub vs.1 m.vd) (tr.volt.map (fun y => fSub y.1 fd))
  let pq := kPi 0 (s.gw b 32) (s.gw b 33) c.vq (fSub vs.2 m.vq) (tr.volt.map (fun y => fSub y.2.1 fq))
  let noN := fSig (s.gw b 38) == 0 && fSig (s.gw b 39) == 0
  let nd := kPi 1 (s.gw b 38) (s.gw b 39) c.nd (fNeg m.vnd) (tr.volt.map (fun y => y.2.2.1))
  let nq := kPi 1 (s.gw b 38) (s.gw b 39) c.nq (fNeg m.vnq) (tr.volt.map (fun y => y.2.2.2))
  let c := if casc || tr.volt.isSome then { c with vd := pd.1, vq := pq.1, nd := nd.1, nq := nq.1 } else c
  if casc then
    { c := c, w := w, e := e, vsd := vs.1, vsq := vs.2
      rd := fAdd fd pd.2, rq := fAdd fq pq.2, nd := if noN then 0 else nd.2, nq := if noN then 0 else nq.2, pdc := pdc, hold := hold }
  else
    -- (e − v) / (R_v + j(X_v + X_c)) (R142)
    let r := s.gw b 30
    let x := fAdd (s.gw b 31) (s.gw b 37)
    let dd := fSub e m.vd
    let dq := fNeg m.vq
    let den := fAdd (fMul r r) (fMul x x)
    { c := c, w := w, e := e, vsd := vs.1, vsq := vs.2
      rd := fDiv (fAdd (fMul dd r) (fMul dq x)) den, rq := fDiv (fSub (fMul dq r) (fMul dd x)) den, nd := 0, nq := 0,
      pdc := pdc, hold := hold }

/-- Second part: the current loop or the direct law on limited references (R142, R144). Result: states, u d and q, negative sequence. -/
def State.kernLawB (s : State) (b : Bool) (a : KLaw) (m : KMeas) (tr : KTrk) (lim : F32 × F32 × F32 × F32) : KCore × F32 × F32 × F32 × F32 :=
  let c := a.c
  let idle := c.mode == .idle
  let casc := s.pn gGFM 2 == 0
  let wx := fMul a.w (s.gw b 37)
  let xd := fMul wx m.iq
  let xq := fMul wx m.id
  let loop := casc || c.mode == .limited
  if loop || tr.cur.isSome then
    let kp := s.gw b 35
    let ki := s.gw b 36
    let pd := kPi 2 kp ki c.cd (fSub lim.1 m.id) (tr.cur.map (fun y => fAdd (fSub y.1 m.vd) xd))
    let pq := kPi 2 kp ki c.cq (fSub lim.2.1 m.iq) (tr.cur.map (fun y => fSub (fSub y.2.1 m.vq) xq))
    let nxd := fMul wx m.inq
    let nxq := fMul wx m.ind
    let nd := kPi 3 kp ki c.md (fSub lim.2.2.1 m.ind) (tr.cur.map (fun y => fSub (fSub y.2.2.1 m.vnd) nxd))
    let nq := kPi 3 kp ki c.mq (fSub lim.2.2.2 m.inq) (tr.cur.map (fun y => fAdd (fSub y.2.2.2 m.vnq) nxq))
    let c := { c with cd := pd.1, cq := pq.1, md := nd.1, mq := nq.1 }
    if !loop && !idle then (c, a.vsd, a.vsq, 0, 0)
    else if idle then (c, m.vd, m.vq, m.vnd, m.vnq)
    else (c, fSub (fAdd m.vd pd.2) xd, fAdd (fAdd m.vq pq.2) xq, fAdd (fAdd m.vnd nd.2) nxd, fSub (fAdd m.vnq nq.2) nxq)
  else if idle then (c, m.vd, m.vq, m.vnd, m.vnq)
  else (c, a.vsd, a.vsq, 0, 0)

/-- u_abc from u at θ, with the negative sequence at −θ (R145). -/
def kernAbc (ud uq nd nq : F32) (th : Angle) : F32 × F32 × F32 :=
  let p := ipark ud uq th
  let n := ipark nd nq (0 - th)
  iclarke (fAdd p.1 n.1) (fAdd p.2 n.2) 0

/-- Fraction 1 − k/N of a blend. -/
def blendF (k n : Nat) : F32 := if n ≤ k then 0 else fOfQ ((n : Int) - k) n

/-- Round-half-even of an offset in counts times 1 − k/N. -/
def blendA (d : Int) (k n : Nat) : Int := if n ≤ k then 0 else divEven (d * ((n : Int) - k)) n

/-- One kernel sample in the mode of `c` with measurement `m`: the whole law, the blend and the outputs. A transition `trans` starts a
blend from what was last published (R166, R167, R169); IDLE has none (R170). -/
def State.kernSample (s : State) (b : Bool) (c : KCore) (l : KLatch) (m : KMeas) (trans : Option Nat) : KNext :=
  let tr := s.kernTrk trans c.mode c m
  let a := s.kernLawA b c l m tr
  let idle := c.mode == .idle
  let fresh := trans.isSome && !idle
  let o := s.kern.out
  let nb0 := (s.gw b 50).toNat
  -- blend index and offsets of θ and of the current reference
  let k := if fresh then 0 else c.blK + 1
  let oT := if fresh then angDiff o.th a.c.th else c.oT
  let oId := if fresh then fSub o.rd a.rd else c.oId
  let oIq := if fresh then fSub o.rq a.rq else c.oIq
  let n0 := if fresh then nb0 else c.blN
  let f0 := if idle then 0 else if fresh then f1 else blendF k n0
  let rd := fAdd a.rd (fMul f0 oId)
  let rq := fAdd a.rq (fMul f0 oIq)
  let iu := fAdd (fHypot rd rq) (fHypot a.nd a.nq)
  let imax := s.gw b 40
  let lim := if idle then (rd, rq, a.nd, a.nq)
    else climStep imax (fMin (s.gw b 42) imax) (s.gw b 41).toNat rd rq a.nd a.nq
  let r := s.kernLawB b a m tr lim
  let oUd := if fresh then fSub o.ud r.2.1 else c.oUd
  let oUq := if fresh then fSub o.uq r.2.2.1 else c.oUq
  -- jump limits (R167)
  let mu := fHypot oUd oUq
  let mi := fHypot oId oIq
  let mt : Int := if oT < 0 then -oT else oT
  let forced := fresh && !idle && (decide (mt > (s.gw b 52).toNat) || fGt mu (s.gw b 51) || fGt mi (s.gw b 53))
  let n := if idle then 0 else if fresh then (if forced then 100 else nb0) else if k ≥ c.blN then 0 else c.blN
  let k := if idle || n == 0 then 0 else k
  let f := if idle then 0 else if fresh then f1 else blendF k n
  let th := if idle || n == 0 then a.c.th else a.c.th + wordOfInt (if fresh then oT else blendA oT k n)
  let ud := if n == 0 then r.2.1 else fAdd r.2.1 (fMul f oUd)
  let uq := if n == 0 then r.2.2.1 else fAdd r.2.2.1 (fMul f oUq)
  let abc := if idle then (l.va, l.vb, l.vc) else kernAbc ud uq r.2.2.2.1 r.2.2.2.2 th
  let slip := s.kernSlip l
  let fsn := fDiv l.syn.freq s.fNom
  let mag : Int := if slip.toInt < 0 then -slip.toInt else slip.toInt
  let mat := c.mode == .sync && l.syn.valid && decide (mag ≤ (s.gw b 70).toNat) &&
    fLe (fAbs (fSub a.w fsn)) (s.gw b 71) && fLe (fAbs (fSub m.vm l.syn.mag)) (s.gw b 72)
  let low := fLt iu (fSub imax (s.gw b 43))
  let c2 := { r.1 with
    blN := n, blK := k
    oT := if n == 0 then 0 else oT
    oUd := if n == 0 then 0 else oUd
    oUq := if n == 0 then 0 else oUq
    oId := if n == 0 then 0 else oId
    oIq := if n == 0 then 0 else oIq
    nRet := if c.mode == .limited && low then min 65535 (c.nRet + 1) else 0
    matched := mat
    matchN := if mat then min 65535 (c.matchN + 1) else 0
    badSince := if c.mode == .sync && !l.syn.valid then some (c.badSince.getD l.tai) else none
    deadSince := if fLt m.vm (s.pf gGFM 63) then some (c.deadSince.getD l.tai) else none
    brkPrev := l.brk }
  { core := c2
    out := { ua := abc.1, ub := abc.2.1, uc := abc.2.2, th := th, w := a.w, e := a.e, ud := ud, uq := uq, rd := rd, rq := rq,
             ld := lim.1, lq := lim.2.1, lnd := lim.2.2.1, lnq := lim.2.2.2, pdc := a.pdc, p := c.pf, q := c.qf, iu := iu,
             slip := if c.mode != .sync then 0 else if l.syn.valid then slip else o.slip, active := !idle, limitOn := !idle && fGt iu imax, angHold := a.hold,
             trkBad := !l.ter.valid || (c.mode == .sync && !l.syn.valid), epoch := l.f, synArm := false }
    trans := trans, forced := forced, nb := if fresh then n else 0
    offs := if fresh then [oT, mu.toNat, mi.toNat] else []
    reqDone := false, refuse := 0, unsync := false, num := [] }

/-- Lowest transition without a request in its guard (R149, R151): the sample of the present mode gives I_u and the counts. -/
def State.kernAuto (s : State) (b : Bool) (c : KCore) (l : KLatch) (p : KNext) : Option Nat :=
  let md := c.mode
  if md != .idle && !l.debl then some 1
  else if (md == .forming || md == .blackStart || md == .sync) && fGt p.out.iu (s.gw b 40) then some 3
  else if md == .limited && p.core.nRet ≥ max 1 (s.gw b 44).toNat then some 4
  else if md == .sync && l.brk && !c.brkPrev then some 5
  else if md == .sync && (match p.core.badSince with | some t0 => decide (t0 + s.pn gGFM 77 ≤ l.tai) | none => false) then some 6
  else if md == .blackStart && fGe p.core.ef (s.gw b 60) then some 8
  else none

/-- Verdict on a request at its evaluation: the transition, or the refusal reason; both 0 where it names the present mode
(R151, R152). -/
def State.kernReq (s : State) (c : KCore) (l : KLatch) (m : KMeas) (p : KNext) (r : KMode) : Nat × Nat :=
  let dead := match p.core.deadSince with | some t0 => decide (t0 + s.pn gGFM 64 ≤ l.tai) | none => false
  let dcOk := fGe l.vdc (s.pf gGFM 65)
  if r == c.mode then (0, 0)
  else if r == .idle then (2, 0)
  else if !l.debl then (0, 1)
  else match c.mode, r with
    | .sync, .forming => (7, 0)
    | .idle, .blackStart => if !dead then (0, 3) else if !dcOk then (0, 7) else (9, 0)
    | .idle, .forming =>
      if fLt m.vm 0x3F000000 then (0, 4) else if !l.ter.valid then (0, 5) else if !l.brk then (0, 6)
      else if !dcOk then (0, 7) else (10, 0)
    | .forming, .sync => if !l.syn.valid then (0, 5) else if l.brk then (0, 6) else (11, 0)
    | _, _ => (0, 2)

/-- Mode a transition leads to (R149, R150). -/
def transTo (c : KCore) : Nat → KMode
  | 1 => .idle | 2 => .idle | 3 => .limited | 4 => c.ret | 9 => .blackStart | 11 => .sync
  | _ => .forming

/-- The mode manager's states at a transition (R150, R165). What the track inputs set is `kernTrk`'s: the sample of the transition runs the
blocks with it. -/
def State.backCalc (s : State) (n : Nat) (c : KCore) (l : KLatch) : KCore :=
  let dest := transTo c n
  let c1 := { c with mode := dest, entered := l.f, nRet := 0, matchN := 0, matched := false, badSince := none,
                     fromS := dest == .limited && c.mode == .sync }
  match n with
  | 3 => { c1 with ret := if c.mode == .blackStart then .blackStart else .forming }
  | 11 => { c1 with synW := s.pf gGFM 13, synV := s.pf gGFM 12 }
  | _ => c1

/-- Finite values of a run; a field with a non-finite one keeps what it was, as the instance that forms it does (R93). -/
def keepF (old new : F32) : F32 := if fFinite new then new else old

/-- The binary32 states of the kernel. -/
def KCore.words (c : KCore) : List F32 :=
  [c.dw, c.pr, c.ef, c.vd, c.vq, c.nd, c.nq, c.cd, c.cq, c.md, c.mq, c.pf, c.qf, c.wref, c.synW, c.synV, c.oUd, c.oUq, c.oId, c.oIq] ++ c.dds

/-- The binary32 outputs of the kernel. -/
def KOut.words (o : KOut) : List F32 :=
  [o.ua, o.ub, o.uc, o.w, o.e, o.ud, o.uq, o.rd, o.rq, o.ld, o.lq, o.lnd, o.lnq, o.pdc, o.p, o.q, o.iu]

/-- States of a run with non-finite ones as before it (R93); the angle stands with the speed. -/
def KCore.held (o n : KCore) : KCore :=
  { n with
    dw := keepF o.dw n.dw, th := if fFinite n.dw then n.th else o.th, pr := keepF o.pr n.pr, ef := keepF o.ef n.ef
    vd := keepF o.vd n.vd, vq := keepF o.vq n.vq, nd := keepF o.nd n.nd, nq := keepF o.nq n.nq
    cd := keepF o.cd n.cd, cq := keepF o.cq n.cq, md := keepF o.md n.md, mq := keepF o.mq n.mq
    dds := o.dds.zipWith keepF n.dds, pf := keepF o.pf n.pf, qf := keepF o.qf n.qf, wref := keepF o.wref n.wref
    synW := keepF o.synW n.synW, synV := keepF o.synV n.synV
    oUd := keepF o.oUd n.oUd, oUq := keepF o.oUq n.oUq, oId := keepF o.oId n.oId, oIq := keepF o.oIq n.oIq }

/-- Outputs of a run with non-finite ones as before it (R93). -/
def KOut.held (o n : KOut) : KOut :=
  { n with
    ua := keepF o.ua n.ua, ub := keepF o.ub n.ub, uc := keepF o.uc n.uc, w := keepF o.w n.w, e := keepF o.e n.e
    th := if fFinite n.w then n.th else o.th
    ud := keepF o.ud n.ud, uq := keepF o.uq n.uq, rd := keepF o.rd n.rd, rq := keepF o.rq n.rq
    ld := keepF o.ld n.ld, lq := keepF o.lq n.lq, lnd := keepF o.lnd n.lnd, lnq := keepF o.lnq n.lnq
    pdc := keepF o.pdc n.pdc, p := keepF o.p n.p, q := keepF o.q n.q, iu := keepF o.iu n.iu }

/-- A run as it may be committed: no state or output is non-finite, and the instances concerned are noted (R93). -/
def KNext.finite (k : Kern) (n : KNext) : KNext :=
  { n with
    core := k.core.held n.core, out := k.out.held n.out
    num := ((n.core.words ++ n.out.words).zipIdx.filter (fun p => !fFinite p.1)).map (fun p => Config.kernInst p.2 % 65535) }

/-- The run of one control boundary. `force` names a transition that a step of its own takes (LIMITED_RETURN, SYNC_ABORT). -/
def State.kernRun (s : State) (l : KLatch) (force : Option Nat) : KNext × Option Nat :=
  let b := s.eng.actB
  let cm := s.kernMeasure b s.kern.core l
  let c := cm.1
  let m := cm.2
  let p := s.kernSample b c l m none
  let take := fun (n : Nat) => s.kernSample b (s.backCalc n c l) l m (some n)
  match force with
  | some n => (take n, none)
  | none =>
    match s.kernAuto b c l p with
    | some 4 => (p, some 4)
    | some 6 => (p, some 6)
    | some 5 => ({ take 5 with unsync := s.kern.fired.isNone }, none)
    | some n => (take n, none)
    | none =>
      match s.kern.req with
      | none => (p, none)
      | some r =>
        let v := s.kernReq c l m p r
        if v.1 == 0 then ({ p with reqDone := true, refuse := v.2 }, none)
        else ({ take v.1 with reqDone := true }, none)

/-- The kernel's part of a control boundary: inputs latched, the request of a field edge taken up in RUNNING, one run started
(R149, R151, R153). -/
def State.kernStart (s : State) : State :=
  if !s.kernOn then s
  else
    let s := if s.running && s.kern.bsEdge then s.modKern (fun k => { k with bsEdge := false, req := some .blackStart }) else s
    let l := s.kernLatch
    let r := s.kernRun l none
    s.modKern (fun k => { k with
      lat := l, next := some (r.1.finite k), req := if r.1.reqDone then none else k.req, reqLat := if r.1.reqDone then k.req else none, due4 := r.2 == some 4, due6 := r.2 == some 6 })

/-- The index of the sync tracker, where one is named. -/
def State.syncTrk (s : State) : Option Nat := if s.pn gGFM 5 == 0 then none else some (s.pn gGFM 5 - 1)

/-- Disarms the sync tracker's compare for the kernel (R157). -/
def State.syncDisarm (s : State) : State :=
  let s := match s.syncTrk with
    | some t => (s.updTrk t (fun x => { x with set := { x.set with armed := false } })).setRaw ⟨gANG, 23⟩ t 0
    | none => s
  s.modKern (fun k => { k with synArm := false })

/-- Publication of a kernel run: mode and outputs are committed, transitions and refusals are counted and logged (R149, R152, R157,
R161, R167, R172, R173). -/
def State.kernPublish (s : State) : State :=
  match s.kern.next with
  | none => s
  | some n =>
    let s := s.modKern (fun k =>
      { k with core := n.core, out := n.out, next := none, due4 := false, due6 := false, jump := n.forced
               reqLat := none
               counts := match n.trans with | some t => k.counts.modify (t - 1) (fun x => wrap32 (x + 1)) | none => k.counts
               fired := if n.core.mode == .sync then k.fired else none
               synHold := n.core.mode == .sync && k.synHold
               reason := if n.refuse == 0 then k.reason else n.refuse })
    let s := match n.trans with
      | some t => s.audit 0x21 {} t n.out.epoch n.nb (n.offs.headD 0) 0 [] [n.offs.tail]
      | none => s
    let s := s.when n.forced (fun s => (s.rcSet 80 0 16).audit 0x21 {} (n.trans.getD 0) (n.offs.getD 0 0) (n.offs.getD 1 0) (n.offs.getD 2 0))
    let s := s.when n.unsync (fun s => (s.rcSet 80 0 15).audit 0x21 {} 5)
    let s := s.when (n.trans == some 6) (fun s => s.rcSet 80 0 13)
    let s := s.when (n.refuse != 0) (fun s => (s.rcSet 80 0 8).audit 0x21 {} 0 n.refuse)
    let s := s.when (n.reqDone && s.kern.req.isNone) (fun s => s.setRaw ⟨gGFM, 1⟩ 0 (BitVec.ofNat 64 n.core.mode.code))
    let s := (s.numericEv n.num false).rcPublish 80 80
    let s := s.when (s.kern.synArm && !n.core.matched && s.kern.fired.isNone) State.syncDisarm
    s.modKern (fun k => { k with out := { k.out with synArm := k.synArm } })

/-- Discards what a program left: the kernel as a load leaves it (R443, R585). -/
def Kern.load (old : Kern) : Kern := { Kern.reset with bsEdge := old.bsEdge, counts := old.counts, reason := old.reason }

/-! ### The meanings of the kernel's own steps -/

/-- SYNC_COMPARE_ARMED: after N_match MATCHED samples the kernel arms the sync tracker's compare (R156). -/
def syncArm (s : State) : State :=
  let k := s.kern.core
  match s.syncTrk with
  | some t =>
    if s.kernOn && k.mode == .sync && !s.kern.synArm && !s.kern.synHold && s.kern.fired.isNone &&
        decide ((s.gw s.eng.actB 73).toNat ≤ k.matchN) then
      ((s.cmpWrite t 23 1).setRaw ⟨gANG, 23⟩ t 1).modKern (fun k => { k with synArm := true })
    else s
  | none => s

/-- A transition taken by a step of its own: the run of the boundary is computed again with it, and with it the control group's run that
reads the kernel (R149, R584). -/
def State.kernForce (s : State) (n : Nat) : State :=
  let s := s.modKern (fun k => { k with next := some ((s.kernRun s.kern.lat (some n)).1.finite k), due4 := false, due6 := false })
  match s.eng.runs.getD 1 none, s.kern.next with
  | some r, some x => if r.startF == s.fr && !r.bad then s.startRun .control s.eng.actB (some (x.out, x.core.mode)) r.dueF else s
  | _, _ => s

/-- SYNC_FAIL: the compare has fired and the breaker has not closed within GFM.076 (R160). -/
def syncFailed (s : State) : State :=
  match s.kern.fired with
  | some t0 =>
    if s.kernOn && s.kern.core.mode == .sync && !s.kern.synHold && decide (t0 + s.pn gGFM 76 ≤ s.now) then
      ((s.rcSet 80 0 14).audit 0x21 {} 0 t0).modKern (fun k => { k with synHold := true, synArm := false })
    else s
  | none => s

/-- SYNC_COMPARE_ARMED (R156). -/
def execSyncCompareArmed (s : State) : Host.Outcome State Fault Refusal := .next (syncArm s)

/-- SYNC_ABORT (R159): transition 6, where the control boundary has found it due. -/
def execSyncAbort (s : State) : Host.Outcome State Fault Refusal :=
  .next (if s.kern.due6 then s.kernForce 6 else s)

/-- SYNC_FAIL (R160). -/
def execSyncFail (s : State) : Host.Outcome State Fault Refusal := .next (syncFailed s)

/-- LIMITED_RETURN (R149 No. 4, R150), where the control boundary has found it due. -/
def execLimitedReturn (s : State) : Host.Outcome State Fault Refusal :=
  .next (if s.kern.due4 then s.kernForce 4 else s)

end Sys2Proof.Machine
end

