-- ==== Sys2Proof/Machine/Arm.lean ====
section
/-!
DEFINITION. Arm modulation (chapter 05): the arm reference stage of the root, selection, the channel PWM units, exclusion and refresh
at the leaf.
-/
namespace Sys2Proof.Machine
open Sys2Proof

/-! ### The arm reference stage (R174 to R179) -/

/-- An exported voltage in volts as millivolts: rounded half to even, saturated to 32 bits (chapter 05, notes/assumptions/13.md). -/
def mvOf (x : F32) : Int :=
  if !fFinite x then (if fSign x then -2147483648 else 2147483647)
  else
    let n := fNum149 x * 1000
    sat32 (divEven n (1 <<< 149))

/-- Apply offset t_off in whole ticks of T_f / 4,096, halves to even (R592). -/
def State.tOff (s : State) : Nat := (divEven ((s.pn gLNK 3 * 4096 : Nat) : Int) s.tf).toNat

/-- Converter arms that the root serves. -/
def State.convArms (s : State) : List Nat :=
  if s.role == .compact then List.range s.nArms else (List.range 12).filter (fun a => (s.kidOf a).isSome)

/-- The reference stage takes the publication of boundary `b + D_c`; with none, the reference holds (R175, R176). -/
def State.refTake (s : State) (published : Bool) : State :=
  forAll s.convArms (fun s a =>
    s.updRef a (fun r =>
      let v := match s.expVal (.armVref a) with
        | some x => mvOf x
        | none => 0
      { r with vPrev := r.vNew, vNew := if published then v else r.vNew, m0 := s.fr + s.hmax + 3 })) s

/-- Frame reference v(m) of R175: the division rounds toward minus infinity. -/
def RefA.v (r : RefA) (nc m : Nat) : Int :=
  let j : Nat := min (m - r.m0) (nc - 1)
  r.vPrev + ((j : Int) + 1) * (r.vNew - r.vPrev) / (nc : Int)

/-- The element of arm `a` at the root and whether it is current under R177. The element of a COMPACT module is always held. -/
def State.refElem (s : State) (a : Nat) : ArmSec × Bool :=
  if s.role == .compact then (s.armSec a, true)
  else match s.kidOf a with
    | some (i, j) =>
      match (s.kid i).reps.head? with
      | some r => (r.sec j, decide (s.fr ≤ r.epoch + 1 + (s.kid i).dsub + s.pn gNST 12))
      | none => ({}, false)
    | none => ({}, false)

/-- Average cell voltage v̄ of arm `a` at the root, 0.1 V (R177, ARM.003). -/
def State.vBar (s : State) (a : Nat) : Nat := if s.pn gARM 3 a == 1 then s.pn gARM 4 a else (s.refElem a).1.vavg

/-- Level of R178 before the clamp: nearest level, halves upward, or the integer part. -/
def levelOf (mode : Nat) (v : Int) (vbar : Nat) : Int :=
  if mode == 1 then v / (100 * (vbar : Int)) else (2 * v + 100 * (vbar : Int)) / (200 * (vbar : Int))

/-- A value clamped to the insertion range (R178). -/
def clampLevel (lo hi n : Int) : Int := min hi (max lo n)

/-- Level command of arm `a` for apply frame `m` at the present boundary: the level and whether it was clamped or forced to 0
(R177 to R179, R190). -/
def State.levelCmd (s : State) (a : Nat) (v : Int) (psc : Int) : Int × Bool × Bool :=
  let e := s.refElem a
  let vb := s.vBar a
  if !e.2 || vb < s.pn gARM 5 a then (0, false, true)
  else
    let n := if s.pn gARM 1 a == 2 then psc else levelOf (s.pn gARM 1 a) v vb
    let k := clampLevel e.1.nLo e.1.nHi n
    (k, k != n, false)

/-! ### Channel PWM units (R206 to R218) -/

/-- Smallest undithered carrier boundary after `t`: (τ - φ) modulo P is 0 (R206). -/
def nextCarrier (p f : Nat) (t : Int) : Int := t + ((p : Int) - (t - (f : Int)) % (p : Int))

/-- One step of the dither register (R217). -/
def lfsrStep (x : BitVec 16) : BitVec 16 := if x.getLsbD 0 then (x >>> 1) ^^^ 0xB400 else x >>> 1

/-- Sixteen steps (R218). -/
def lfsr16 (x : BitVec 16) : BitVec 16 := (List.range 16).foldl (fun x _ => lfsrStep x) x

/-- First state of the dither register of channel `c` for a seed (R217). -/
def lfsrInit (seed c : Nat) : BitVec 16 :=
  let x := BitVec.ofNat 16 seed ^^^ BitVec.ofNat 16 (c * 0x0101)
  if x == 0 then 1 else x

/-- Displacement of the next boundary in ticks (R218). -/
def ditherOf (x : BitVec 16) (amp p : Nat) : Int := ((x.toNat : Int) - 32768) * (amp : Int) * (p : Int) / 3276800

/-- Minimum-pulse rule of R215 for a duty `d` of at most the length `p`. -/
def minPulse (tmin p d : Nat) : Nat :=
  if p < tmin then (if 2 * d < p then 0 else p)
  else if 2 * d < tmin then 0
  else if d < tmin then tmin
  else if 2 * (p - d) < tmin then p
  else if p - d < tmin then p - tmin
  else d

/-- Settings common to every channel: dither on, amplitude in percent, minimum pulse in ticks. -/
structure PwmSet where
  dith : Bool
  amp  : Nat
  tmin : Nat
deriving DecidableEq, Repr

/-- Settings in force (PWM.020 to PWM.022). -/
def State.pwmSet (s : State) : PwmSet := ⟨s.arm.seed != 0, s.pn gPWM 21, s.pn gPWM 22 * 4096⟩

/-- Carrier time at which the present period of a channel ends. -/
def Cell.perE (c : Cell) : Int := c.perS + (c.perL : Int)

/-- The reload of a carrier boundary: shadow to active, the duty clamped to the new period, the next boundary dithered (R210, R212,
R218). -/
def Cell.reload (w : PwmSet) (c : Cell) : Cell :=
  let p := max 1 c.shP
  let l := if w.dith then lfsr16 c.lfsr else c.lfsr
  let d := if w.dith then ditherOf l w.amp p else 0
  let u := nextCarrier p c.shF c.perU
  let u := if u + d ≤ c.perE then u + (p : Int) else u
  let len := (u + d - c.perE).toNat
  let duty := min c.shD len
  { c with acP := c.shP, acD := duty, acF := c.shF, shPend := false, lfsr := l,
           prevS := c.perS, perS := c.perE, perU := u, perL := len, perD := minPulse w.tmin len duty }

/-- Instants at which the present period sets the channel's state, with the state (R214, R216). -/
def Cell.marks (c : Cell) : List (Int × Bool) :=
  if c.perD == 0 then [(c.perS, false)]
  else if c.perD == c.perL then [(c.perS, true)]
  else
    let rise := c.perS + ((c.perL - c.perD) / 2 : Nat)
    [(c.perS, false), (rise, true), (rise + (c.perD : Int), false)]

/-- Reloads of the carrier boundaries that belong to apply frame `m`, and the marks of every period that reaches into it. -/
def Cell.runFrame (w : PwmSet) (m : Nat) : Nat → Cell → List (Int × Bool) → Cell × List (Int × Bool)
  | 0, c, l => (c, l)
  | k + 1, c, l =>
    if c.perE < 4096 * ((m : Int) + 1) then
      let c' := c.reload w
      Cell.runFrame w m k c' (l ++ c'.marks)
    else (c, l)

/-- State that marks give a channel at instant `t`: the last one not after it; `off` before the first. -/
def stateAt (off : CellCmd) (t : Int) (l : List (Int × CellCmd)) : CellCmd := l.foldl (fun r p => if p.1 ≤ t then p.2 else r) off

/-- Edge of a frame (R216, R591): from the state at its start, the state after the last change within it and the instant of that
change. -/
def lastEdge (m : Nat) (st : CellCmd) (l : List (Int × CellCmd)) : CellCmd × Option Int :=
  let t0 : Int := 4096 * (m : Int)
  (l.filter (fun p => t0 ≤ p.1 && p.1 < t0 + 4096)).foldl (fun r p => if p.2 == r.1 then r else (p.2, some p.1)) (st, none)

/-- Command of a channel that runs its carrier (R216): an edge at offset 0 is the frame's state. -/
def carrierCmd (m : Nat) (e : CellCmd × Option Int) : Cmd :=
  match e.2 with
  | some t => if t == 4096 * (m : Int) then { st := e.1 } else { st := e.1, edge := some (t - 4096 * (m : Int)).toNat }
  | none => { st := e.1 }

/-- A carrier start, or a carrier midpoint, of channel `c` lies at instant `e` in u (R47): carrier time 0 is the apply instant of frame 0. -/
def State.carrierAt (s : State) (c : Nat) (mid : Bool) (e : Nat) : Bool :=
  let x := s.cell c
  let at_ := fun (t : Int) => (t + (s.tOff : Int)) * 500 == (e : Int)
  if mid then at_ (x.perS + ((x.perL / 2 : Nat) : Int)) || at_ (x.prevS + (x.perS - x.prevS) / 2) else at_ x.perS || at_ x.prevS

/-- Carrier period of ARM.031 in ticks, halves to even. -/
def State.carrierTicks (s : State) (a : Nat) : Nat := (divEven ((s.pn gARM 31 a * 4096 : Nat) : Int) s.tf).toNat

/-- The PWM sets of every channel at a transition from STANDBY to READY, and the period that runs at the first frame commanded (R207). -/
def State.pwmRestart (s : State) : State :=
  s.modArm (fun a => { a with
    cells := a.cells.map (fun c =>
      let p := max 1 (s.carrierTicks c.arm)
      let t : Int := 4096 * ((s.fr : Int) + 2)
      { c with stP := p, stD := 0, stF := 0, shP := p, shD := 0, shF := 0, acP := p, acD := 0, acF := 0, shPend := false,
               prevS := t - t % (p : Int), perS := t - t % (p : Int), perU := t - t % (p : Int) + (p : Int), perL := p, perD := 0 })
    arms := a.arms.map (fun x => { x with pwm := none, pwmWait := false, pwmOld := none, pscSet := [], pscOn := false }) })

/-- The carrier period of a channel's active set that holds carrier time `t`, on the undithered grid (R206). -/
def Cell.rePeriod (tmin : Nat) (t : Int) (c : Cell) : Cell :=
  let p := max 1 c.acP
  let b := t - (t - (c.acF : Int)) % (p : Int)
  { c with prevS := b - (p : Int), perS := b, perU := b + (p : Int), perL := p, perD := minPulse tmin p (min c.acD p) }

/-- The carriers take up the grid of a station time that has stepped: the period of the first frame commanded on it (R206, R430). -/
def State.reCarrier (s : State) : State :=
  s.mapCells (fun _ c => c.rePeriod s.pwmSet.tmin (4096 * ((s.fr : Int) + 2)))

/-! ### Selection (R182 to R198) -/

/-- Direction of arm current at a boundary (R181, R182). -/
def State.direction (s : State) (a : Nat) : State :=
  let v := s.srcVal (.ai (s.pn gARM 13 a))
  s.updArm a (fun x =>
    if v.2 && fGe (fAbs v.1) (s.pf gARM 12 a) then { x with iVal := v.1, dirPos := fGt v.1 0 }
    else { x with iVal := v.1 })

/-- Average cell voltage of the healthy cells of owned arm `a`, halves to even (R595). -/
def State.leafVavg (s : State) (a : Nat) : Nat :=
  let l := ((s.channels a).map s.cell).filter (fun c => !c.excluded)
  if l.isEmpty then 0 else (divEven ((l.map (·.vcap)).sum : Nat) l.length).toNat

/-- Channels in the order of R191, best first: by key, ties to the lower channel. -/
def ranked (s : State) (charging : Bool) (l : List Nat) : List Nat :=
  let key := fun (c : Nat) => if charging then ((s.cell c).vcap : Int) else -((s.cell c).vcap : Int)
  l.mergeSort (fun a b => key a < key b || (key a == key b && a ≤ b))

/-- The exchanges of R192: at most `budget`, while the worst inserted cell lies more than the band beyond the best waiting one. `ins`
and `out` are ranked, `ins` worst first. -/
def swapLoop (key : Nat → Int) (band : Int) : Nat → List Nat → List Nat → Nat → List Nat × List Nat × Nat
  | 0, ins, out, n => (ins, out, n)
  | k + 1, w :: ins, b :: out, n =>
    if key w - key b > band then
      let r := swapLoop key band k (ins) (out) (n + 1)
      (b :: r.1, w :: r.2.1, r.2.2)
    else (w :: ins, b :: out, n)
  | _ + 1, ins, out, n => (ins, out, n)

/-- Priority list of R200 within a pool: low gate supplies while charging, then the refresh-due cells, each by longest time since
insertion. -/
def State.priority (s : State) (charging : Bool) (pool : List Nat) : List Nat :=
  let old := fun (l : List Nat) => l.mergeSort (fun a b => (s.cell a).idle > (s.cell b).idle || ((s.cell a).idle == (s.cell b).idle && a ≤ b))
  let low := if charging then old (pool.filter (fun c => (s.cell c).gsLow)) else []
  low ++ old (pool.filter (fun c => (s.cell c).due && !low.contains c))

/-- Result of the selection procedure. -/
structure Sel where
  ins   : List Nat
  st    : CellCmd
  swaps : Nat
  forced : Nat
  pool  : List Nat
deriving DecidableEq, Repr

/-- The cell waits for the supervisory boundary at which it re-enters the pool (R197). -/
def State.waits (s : State) (c : Nat) : Bool :=
  match (s.cell c).out_ with
  | some f => decide (s.fr / s.fpms * s.fpms ≤ f)
  | none => false

/-- A channel may be selected: in the pool and under no block or bypass action (R192, R196, R197, R204). -/
def State.inPool (s : State) (c : Nat) : Bool := !(s.cell c).excluded && !s.waits c && !s.blkCh c && !s.bypCh c

/-- Cells of arm `a` inserted in the frame commanded last: those of the inserted set that no block or bypass action took out of it. -/
def State.heldIns (s : State) (a : Nat) : List Nat := (s.armS a).ins.filter (fun c => (s.cell c).cmd.st == (s.armS a).insSt)

/-- The selection procedure of R192 for a grant. `old` is the inserted set of frame m-1 where the arm was not BLOCKED in it. -/
def State.selectSet (s : State) (a : Nat) (n : Int) (pwm : Option Nat) (blk : Bool) : Sel :=
  let x := s.armS a
  let pool0 := (s.channels a).filter (fun c => s.inPool c && some c != pwm)
  let st : CellCmd := if n ≥ 0 then .insertPos else .insertNeg
  let pool := if n ≥ 0 then pool0 else pool0.filter (fun c => (s.cell c).fb)
  let charging := if n ≥ 0 then x.dirPos else !x.dirPos
  let key := fun (c : Nat) => if charging then ((s.cell c).vcap : Int) else -((s.cell c).vcap : Int)
  let old := if st != x.insSt || blk then [] else (s.heldIns a).filter pool.contains
  let k := min n.natAbs pool.length
  let f := (s.priority charging pool).take (min k (s.pn gARM 21))
  let keep := (ranked s charging (old.filter (fun c => !f.contains c))).take (k - f.length)
  let wait := ranked s charging (pool.filter (fun c => !keep.contains c && !f.contains c))
  let add := k - f.length - keep.length
  let ins := ranked s charging (keep ++ wait.take add)
  let r := swapLoop key (s.pn gARM 10 a) (s.pn gARM 11 a) ins.reverse (wait.drop add) 0
  { ins := f ++ r.1, st := st, swaps := r.2.2, forced := f.length, pool := pool0 }

/-- The carrier boundary that ends the present period of channel `c` belongs to apply frame `m` (R184, R206, R218). -/
def State.boundaryIn (s : State) (c m : Nat) : Bool :=
  let u := (s.cell c).perE
  decide (4096 * (m : Int) ≤ u ∧ u < 4096 * ((m : Int) + 1))

/-- The carrier boundary of owned arm `a` falls in apply frame `m`: that of its PWM cell, or of its first channel where it has none
(R184, R187; with dither the channels' boundaries differ, log 111). -/
def State.armCarrier (s : State) (a m : Nat) : Bool :=
  match (s.armS a).pwm.or (s.channels a).head? with
  | some c => s.boundaryIn c m
  | none => false

/-- Duty of the PWM cell in ticks (R185). -/
def pwmDuty (v n : Int) (vl p : Nat) : Nat :=
  let one : Int := 100 * (vl : Int)
  let r := min one (max 0 (v - n * one))
  (r * (p : Int) / one).toNat

/-- Duty of a PSC channel in ticks (R188), exact before the last rounding down. -/
def pscDuty (v : Int) (nh vbar vc p : Nat) (kb : F32) (pos : Bool) : Nat :=
  let two : Int := 1 <<< 149
  let den : Int := (nh : Int) * 100 * (vbar : Int) * two
  let bal := fNum149 kb * ((vbar : Int) - (vc : Int)) * 100 * (nh : Int)
  let num := v * two + (if pos then bal else -bal)
  if den ≤ 0 then 0 else ((min den (max 0 num)) * (p : Int) / den).toNat

/-- The PSC modulator for apply frame `m`: phases when the set of cells changes, duties of the channels whose carrier boundary falls in
the frame (R188, R189). -/
def State.pscModulate (s : State) (a m : Nat) (v : Int) : State :=
  let set := (s.channels a).filter (fun c => !(s.cell c).excluded)
  let nh := set.length
  let s := if (s.armS a).pscOn && set == (s.armS a).pscSet then s else
    let s := s.when (s.armS a).pscOn (fun s => s.rcSet 100 a 14)
    (forAll set.zipIdx (fun s p => s.updCell p.1 (fun c => { c with shF := p.2 * c.shP / nh, shPend := true })) s).updArm a
      (fun x => { x with pscSet := set, pscOn := true })
  forAll set (fun s c => s.updCell c (fun x =>
    if x.perE < 4096 * ((m : Int) + 1) then
      { x with shD := pscDuty v nh (s.vBar a) x.vcap x.shP (s.pf gARM 30 a) (s.armS a).dirPos }
    else x)) s

/-- Arm current and average cell voltage of owned arm `a` as latched at the present boundary (R181, R182, R185, R595). -/
def State.armLatch (s : State) (a : Nat) : State := (s.direction a).updArm a (fun x => { x with vAvg := s.leafVavg a })

/-- The PWM cell of an arm in NLM+PWM for apply frame `m` (R184, R185, R187): at the boundary of the arm the best cell that the selection
has left out takes the role, and its duty goes to shadow for its own boundary. -/
def State.pwmPlan (s : State) (a m : Nat) (n v : Int) (turn start : Bool) (r : Sel) : State :=
  let x := s.armS a
  let duty := fun (s : State) (c : Nat) => s.updCell c (fun y => { y with shD := pwmDuty v n x.vAvg y.shP })
  if turn then
    match (ranked s x.dirPos (r.pool.filter (fun c => !r.ins.contains c))).head? with
    | some c =>
      let here := s.boundaryIn c m
      duty (s.updArm a (fun x => { x with
        pwm := some c, pwmNew := here && x.pwm != some c, pwmWait := !here, pwmOld := if x.pwm == some c then none else x.pwm })) c
    | none => (s.updArm a (fun x => { x with pwm := none, pwmWait := false, pwmOld := x.pwm })).rcSet 100 a 10
  else if start then
    match x.pwm with
    | some c => duty (s.updArm a (fun x => { x with pwmWait := false, pwmNew := true })) c
    | none => s
  else s

/-- Selection of owned arm `a` for apply frame `m` (R184 to R187, R192, R598). `blk` says that the arm was BLOCKED in frame m-1. -/
def State.selectArm (s : State) (a m : Nat) (grant : Option (Int × Int)) (blk : Bool) : State :=
  let mode := s.pn gARM 1 a
  -- an excluded PWM cell leaves its role (R187)
  let gone := match (s.armS a).pwm with
    | some c => (s.cell c).excluded
    | none => false
  let s := s.when gone (fun s => (s.updArm a (fun x => { x with pwm := none, pwmWait := false })).rcSet 100 a 10)
  let held := s.heldIns a
  let x := s.armS a
  let at_ := mode == 1 && s.armCarrier a m
  let start := at_ && x.pwm.isSome && x.pwmWait
  let turn := at_ && !start
  match grant with
  | none =>
    s.updArm a (fun x =>
      { x with planF := m, planN := none, planBlk := blk, pwmNew := start, pwmWait := x.pwmWait && !start, pwmOld := none, swaps := 0,
               ins := if blk then [] else held.filter (fun c => !(s.cell c).excluded) })
  | some (n, v) =>
    if mode == 2 then
      s.updArm a (fun x => { x with planF := m, planN := some n, planBlk := false, ins := [], swaps := 0 })
    else
      let r := s.selectSet a n (if turn then none else x.pwm) blk
      let s := s.updArm a (fun x =>
        { x with planF := m, planN := some n, planBlk := false, ins := r.ins, insSt := r.st, swaps := r.swaps, pwmNew := false, pwmOld := none,
                 forced := wrap32 (x.forced + r.forced) })
      s.pwmPlan a m n v turn start r

/-! ### Commands of a frame (R203, R204, R216, R220, R276) -/

/-- Test mode runs: on, and the module is READY (R219 to R221). -/
def State.testing (s : State) : Bool := s.arm.test && s.sys.st == .ready
/-- Channels under test (PWM.032). -/
def State.testChans (s : State) : List Nat := ((List.range 8).map (fun k => s.pn gPWM 32 k)).filter (fun c => c < 512)

/-- Channel `c` runs its carrier in the planned frame: the PWM cell in its service, a PSC cell or a channel under test. -/
def State.runsCarrier (s : State) (c : Nat) : Bool :=
  if s.testing then s.testChans.contains c
  else
    let x := s.armS (s.cell c).arm
    (x.pwm == some c && !x.pwmWait) || (s.pn gARM 1 (s.cell c).arm == 2 && x.pscSet.contains c)

/-- On state of a channel that runs its carrier (R186, R220). -/
def State.onState (s : State) (c : Nat) : CellCmd :=
  if s.testing && s.pn gPWM 33 == 1 && (s.cell c).fb then .insertNeg else .insertPos

/-- Channel `c` in apply frame `m`: the cell after the reloads of its boundaries in the frame, the command its carrier gives, and whether
it serves with a non-zero duty (R199, R210, R214 to R216, R591). A cell whose service ends in the frame runs its period to its boundary;
one whose service begins keeps the state of the frame before until its boundary. -/
def State.carrierOf (s : State) (c m : Nat) : Cell × Cmd × Bool :=
  let y := s.cell c
  let x := s.armS y.arm
  let r := Cell.runFrame s.pwmSet m 8 y []
  let out := !s.testing && x.planF == m && x.pwmOld == some c
  let fresh := !s.testing && x.planF == m && x.pwmNew && x.pwm == some c
  let l := if out then y.marks ++ [(y.perE, false)] else if fresh then r.2 else if s.runsCarrier c then y.marks ++ r.2 else []
  let marks := l.map (fun p => (p.1, if p.2 then s.onState c else CellCmd.bypass))
  let st := if fresh then (if y.cmd.st == .block then .bypass else y.cmd.st) else stateAt .bypass (4096 * (m : Int)) marks
  let duty := if out then y.acD != 0 && decide (4096 * (m : Int) < y.perE) else if fresh then r.1.acD != 0 else y.acD != 0 || r.1.acD != 0
  (r.1, carrierCmd m (lastEdge m st marks), duty)

/-- State that a command gives a cell at the apply instant of its frame: with an edge the cell keeps the state of the frame before
(R591). -/
def Cmd.atApply (q : Cmd) (before : CellCmd) : CellCmd := if q.edge.isSome then before else q.st

/-- Cells that the carriers place in INSERT_POS at the apply instant of `m` (R190). -/
def State.pscCount (s : State) (a m : Nat) : Int :=
  (((s.armS a).pscSet.filter (fun c => (s.carrierOf c m).2.1.atApply (s.cell c).cmd.st == .insertPos)).length : Nat)

/-- Command and use of channel `c` for apply frame `m`, from the command of its carrier and whether that has a duty (R186, R203, R204,
R216, R220, R299). -/
def State.cmdOf (s : State) (c : Nat) (blocked : Bool) (q : Cmd × Bool) : Cmd × Bool :=
  let x := s.armS (s.cell c).arm
  if s.testing then
    if s.testChans.contains c then (q.1, true)
    else ({ st := .block }, false)
  else if blocked || s.blkCh c then ({ st := .block }, false)
  else if s.bypCh c then ({ st := .bypass }, false)
  else if x.ins.contains c then ({ st := x.insSt }, true)
  else if s.runsCarrier c || x.pwmOld == some c then q
  else ({ st := .bypass }, false)

/-- Commands of owned arm `a` for apply frame `m`: reloads, edges, states, credits (R210 to R216, R276, R277). -/
def State.formArm (s : State) (a m : Nat) : State :=
  let x := s.armS a
  let blocked := s.armBlocked a || (x.planF == m && x.planBlk)
  let chans := s.channels a
  let s1 := forAll chans (fun (t : State) c =>
    let r := s.carrierOf c m
    let q := s.cmdOf c blocked r.2
    t.updCell c (fun y =>
      { r.1 with cmd := q.1, hist := ((m, q.1, q.2) :: y.hist).take 8,
                 changes := if q.1.st != y.cmd.st || q.1.edge.isSome then wrap32 (y.changes + 1) else y.changes })) s
  let count : Int :=
    if blocked || s.testing then 0
    else if s.pn gARM 1 a == 2 then
      ((chans.filter (fun c => (s1.cell c).cmd.atApply (s.cell c).cmd.st == .insertPos)).length : Nat)
    else
      let k : Int := ((chans.filter (fun c => x.ins.contains c && (s1.cell c).cmd.st == x.insSt)).length : Nat)
      if x.insSt == .insertNeg then -k else k
  let lost := x.planF != m || x.planN.isNone
  let ret : Int := match x.planN with
    | some n => if lost then 0 else n - count
    | none => 0
  let nChg := (chans.filter (fun c => (s1.cell c).changes != (s.cell c).changes)).length
  let s2 := s1.updArm a (fun x =>
    { x with blkPrev := blocked, blkH := ((m, blocked) :: x.blkH).take 8,
             books := ((m, count, ret, lost) :: x.books).take 8,
             retSum := x.retSum + ret, cum := x.cum + count + ret,
             lostN := if lost then wrap32 (x.lostN + 1) else x.lostN, lostRec := x.lostRec || lost,
             swit := match x.swit with
               | n :: l => (n + nChg) :: l
               | [] => [nChg] })
  s2.when (ret != 0) (fun s => s.rcSet 100 a 11)

/-! ### Refresh counts (R199 to R201) -/

/-- The frame that has ended at the present boundary counts for the refresh of every cell (R199, R201). -/
def State.refreshCount (s : State) : State :=
  if s.fr == 0 then s else
  let f := s.fr - 1
  s.mapCells (fun _ c =>
    let blk := (mGet (s.armS c.arm).blkH f).getD true
    let used := ((c.hist.find? (fun h => h.1 == f)).map (·.2.2)).getD false
    if used && !blk then { c with idle := 0, due := false, overdue := false }
    else if blk then c
    else { c with idle := c.idle + 1 })

/-- A cell has been due for refresh long enough: `k` intervals of ARM.020 since it was last inserted. -/
def State.refreshPast (s : State) (c k : Nat) : Bool := decide (k * s.pn gARM 20 ≤ (s.cell c).idle * s.tf)

/-! ### Meanings of the cell supervision rows -/

/-- REFRESH_DUE (R199). -/
def execRefreshDue (c : Nat) (s : State) : Host.Outcome State Fault Refusal :=
  .next (if (s.cell c).conf && s.refreshPast c 1 then s.updCell c (fun x => { x with due := true }) else s)

/-- REFRESH_OVERDUE (R201). -/
def execRefreshOverdue (c : Nat) (s : State) : Host.Outcome State Fault Refusal :=
  .next (if (s.cell c).conf && (s.cell c).due && !(s.cell c).excluded && s.refreshPast c 2 && !(s.cell c).overdue then
      (s.updCell c (fun x => { x with overdue := true })).rcSet 101 c 19
    else s)

/-- Changes an exclusion reason of a cell; a cell that becomes excluded stops being refresh-overdue (R196, R201). -/
def Cell.exclude (f : Cell → Cell) (c : Cell) : Cell := { f c with overdue := c.overdue && !(f c).excluded }

/-- GATE_SUPPLY_LOW (R202): the gate supply has been reported low for ARM.022. -/
def execGateSupplyLow (c : Nat) (s : State) : Host.Outcome State Fault Refusal :=
  .next (match (s.cell c).gsSince with
    | some f => if (s.cell c).conf && decide (s.pn gARM 22 ≤ (s.fr - f) * s.tf) then
        s.updCell c (Cell.exclude (fun x => { x with exGate := true })) else s
    | none => s)

/-- STATUS_STALE (exclusion table): no valid status for ARM.023 consecutive frames. -/
def execStatusStale (c : Nat) (s : State) : Host.Outcome State Fault Refusal :=
  .next (if (s.cell c).conf && decide (s.pn gARM 23 ≤ (s.cell c).noStat) then
      s.updCell c (Cell.exclude (fun x => { x with exStale := true }))
    else s)

end Sys2Proof.Machine
end

