-- ==== Sys2Proof/Machine/Clock.lean ====
section
/-!
DEFINITION. Clock domains, PLLs, station time and clock outputs (chapter 12). The loss of a PLL and the power-fail sequence act on
other units too: System.lean.
-/
namespace Sys2Proof.Machine
open Sys2Proof

/-- The serial lanes carry characters: LINK runs from a locked PLL-L (R414, R424). -/
def State.lanesOn (s : State) : Bool := s.awake && s.clk.lockL
/-- Frames go out: the lanes run and the transmitters have not been stopped (R424, R444, R497). -/
def State.txGo (s : State) : Bool := s.lanesOn && s.link.txOn

/-! ### Station time -/

/-- Station time steps by `off` ns and `frac` 2^-32 ns (R430): the frame number follows it (R25), STEPPED is set; the
instants of conversions of the running frame and the carriers follow it too. -/
def State.stepTime (s : State) (off : Int) (frac : Nat) : State :=
  let total : Int := (s.clk.tai : Int) * 4294967296 + s.clk.frac + off * 4294967296 + frac
  let t := total.toNat / 4294967296
  let s1 := s.audit 0x51 {} 0 s.clk.tai t off
  let s2 := (s1.modClk (fun c => { c with tai := t, frac := total.toNat % 4294967296, frame := t / s.tf, stepPending := false })).rcSet 201 0 17
  let du : Int := ((t * 2048000 / s.tf : Nat) : Int) - ((s.clk.tai * 2048000 / s.tf : Nat) : Int)
  (s2.modMeas (fun m => { m with ai := m.ai.map (fun a => { a with acc := a.acc.map (fun p => (((p.1 : Int) + du).toNat, p.2)) }) })).reCarrier

/-- The step still due at a transition into READY (R431). -/
def State.takeStep (s : State) : State :=
  if s.clk.stepPending then
    if s.clk.offset.natAbs > s.pn gTIM 24 then s.stepTime s.clk.offset 0 else s.modClk (fun c => { c with stepPending := false })
  else s

/-- The rate ρ changes: its history of the last 64 s is kept (R429). -/
def Clk.setRho (c : Clk) (r : Int) : Clk :=
  { c with rho := r, rhoH := (c.tai, r) :: c.rhoH.take ((c.rhoH.findIdx (fun x => x.1 + 64000000000 ≤ c.tai)) + 1) }

/-- Mean of ρ over the last 64 s, in ppb (R429). -/
def Clk.rhoMean (c : Clk) : Int :=
  let lo := c.tai - 64000000000
  let sum := (c.rhoH.foldl (fun (a : Int × Nat) x =>
    (a.1 + ((a.2 - max lo x.1 : Nat) : Int) * x.2, min a.2 (max lo x.1))) ((0 : Int), c.tai)).1
  let span := c.tai - max lo ((c.rhoH.getLast?.map (·.1)).getD c.tai)
  if span == 0 then c.rho else divEven sum span

/-- Station time enters a state (R429). `PPS_OUT` is driven in LOCKED and HOLDOVER only (R439). -/
def Clk.setState (c : Clk) (t : TState) : Clk :=
  { c with tstate := t, stateSince := c.tai, good := 0, fresh := t == .acquiring
           ppsHigh := c.ppsHigh && (t == .locked || t == .holdover) }

/-- Source `code` of the source table is enabled and has delivered a valid time in the last 3 s (R428). -/
def State.srcOk (s : State) (code : Nat) : Bool :=
  (s.raw gTIM 20).getLsbD (code - 1) && (match s.clk.srcSeen.getD (code - 1) none with
    | some t => decide (s.now ≤ t + 3000000000)
    | none => false)

/-- A master ranks better than another: the first value that differs is lower (R428, IEEE 1588-2019). -/
def rankLt : List Nat → List Nat → Bool
  | a :: l, b :: m => if a == b then rankLt l m else decide (a < b)
  | _, _ => false

/-- Master heard on E1 (0) or E2 (1), and its rank. -/
def Clk.ptp (c : Clk) (k : Nat) : Nat × List Nat := c.ptpM.getD k (0, [])

/-- The PTP port whose master ranks better, E1 where neither does (R428). -/
def State.ptpBest (s : State) : Nat := if s.srcOk 2 && (!s.srcOk 1 || rankLt (s.clk.ptp 1).2 (s.clk.ptp 0).2) then 2 else 1

/-- The first available source (R428); of the PTP ports the one with the better master. 0 for none. -/
def State.bestSrc (s : State) : Nat := (([s.ptpBest, 3, 4, 5, 6].find? s.srcOk).getD 0)

/-- One measurement of the source in use (R429 to R432). `anew` says that the source, the master or the port has changed. -/
def State.measureTime (s : State) (code : Nat) (off : Int) (frac : Nat) (anew : Bool) : State :=
  let s := if anew || s.clk.tstate == .free || s.clk.tstate == .holdover || s.clk.source != code then
      s.modClk (fun c => { (c.setState .acquiring) with source := code })
    else s
  let big := decide (off.natAbs > s.pn gTIM 24)
  let small := decide (off.natAbs ≤ s.pn gTIM 23)
  if s.clk.tstate == .acquiring && s.clk.fresh && big && !s.running then
    (s.stepTime off frac).modClk (fun c => { c with offset := off, fresh := false, good := 0 })
  else
    let r := Config.servoRate s.clk.rho (s.pn gTIM 25) off
    let s := s.modClk (fun c =>
      { (c.setRho (max (-200000) (min 200000 r))) with
        offset := off, fresh := false, rateLimited := decide (r.natAbs > 200000), stepPending := big && (s.running || c.stepPending)
        good := if c.tstate == .acquiring && small then c.good + 1 else 0 })
    if s.clk.tstate == .locked && !small then s.modClk (fun c => c.setState .acquiring) else s

/-- A source delivers a valid time; its measurement counts where it is the first available one (R428). -/
def State.timeFrom (s : State) (code : Nat) (off : Int) (frac : Nat) (anew : Bool) : State :=
  if !(s.up && (s.raw gTIM 20).getLsbD (code - 1)) then s
  else
    let s := s.modClk (fun c => { c with srcSeen := c.srcSeen.set (code - 1) (some c.tai) })
    if s.bestSrc == code then s.measureTime code off frac anew else s

/-- Delay of the declared nest fibre of a port, whole ns (R265, R428). -/
def State.nestDelay (s : State) (port : Nat) : Int :=
  let q := fToQ (s.pf gLNK 11)
  divEven ((s.pn gNST 5 port : Int) * q.1) (10 * q.2)

/-- The parent's nest frame as a source of time (R29, R428): `off` is taken at the arrival of the start delimiter. -/
def State.timeNest (s : State) (port : Nat) (off : Int) : State := s.timeFrom 6 (off + s.nestDelay port) 0 false

/-- Mean path delay of a peer-delay exchange in 2^-16 ns (IEEE 1588-2019, notes/assumptions/85.md). -/
def PeerDelay.mean (d : PeerDelay) : Int := (((d.t4 - d.t1) - (d.t3 - d.t2)) * 65536 - d.corr) / 2

/-- Offset of station time to the master in 2^-16 ns: origin, correction and path delay less the receive stamp (R436). -/
def PtpMsg.off16 (m : PtpMsg) : Int :=
  (m.origin.getD 0 - 8 * m.rx) * 65536 + m.corr + (m.peer.map PeerDelay.mean).getD 0
/-- The offset in whole ns, towards the past. -/
def PtpMsg.offset (m : PtpMsg) : Int := m.off16 / 65536
/-- The fraction of the offset in 2^-32 ns. -/
def PtpMsg.frac (m : PtpMsg) : Nat := (m.off16 % 65536).toNat * 65536

/-- The message gives a measurement: Ethernet has its clock and the cage its SFP, the port is enabled, its domain is TIM.021, a two-step Sync
has its Follow_Up, and the path delay of the port is known (R4, R424, R428, R436, R565). -/
def State.ptpGood (s : State) (m : PtpMsg) : Bool :=
  s.up && s.clk.lockH && (if m.e2 then s.hw.e2 else s.hw.e1) && (s.raw gTIM 20).getLsbD (if m.e2 then 1 else 0) && m.domain == s.pn gTIM 21 && m.origin.isSome && m.peer.isSome

/-- Index of the port of a PTP message. -/
def PtpMsg.port (m : PtpMsg) : Nat := if m.e2 then 1 else 0

/-- The port follows another master that is still heard and ranks no worse: the message is not used (R428). -/
def State.ptpOther (s : State) (m : PtpMsg) : Bool :=
  s.srcOk (m.port + 1) && (s.clk.ptp m.port).1 != m.master && !rankLt m.rank (s.clk.ptp m.port).2

/-- PTP_MESSAGE (R4, R428, R436): a measurement of the better master. A new master or port is handled as ACQUIRING. -/
def execPtpMessage (m : PtpMsg) (s : State) : Host.Outcome State Fault Refusal :=
  .next (
    let code := m.port + 1
    if !s.ptpGood m || s.ptpOther m then s
    else
      let s := s.modClk (fun c => { c with ptpM := c.ptpM.set m.port (m.master, m.rank), srcSeen := c.srcSeen.set m.port (some c.tai) })
      let mine := s.bestSrc == code
      let anew := s.clk.master != m.master || s.clk.masterE2 != m.e2
      let s := s.when mine (fun s => s.modClk (fun c => { c with master := m.master, masterE2 := m.e2 }))
      let s := s.timeFrom code m.offset m.frac anew
      match m.utcOff with
      | some u => if s.clk.source == code then s.modClk (fun c => { c with utcOff := u, utcValid := true }) else s
      | none => s)

/-- Days from 1 January 1970 to 1 January of a year. -/
def yearDays (y : Nat) : Nat := 365 * (y - 1970) + ((y - 1) / 4 - (y - 1) / 100 + (y - 1) / 400) - 477
/-- Year in which a day counted from 1 January 1970 lies. -/
def yearOf (d : Nat) : Nat := let y := 1970 + d / 365; if d < yearDays y then y - 1 else y

/-- TAI second, in ns, that an IRIG-B frame names for its on-time marker: UTC with the year of the extension or of the AO count, and
TIM.031, raised by 1 s after a leap second that TIM.031 does not hold yet (R437). -/
def State.irigTai (s : State) (m : IrigCode) : Int :=
  let y := m.year.getD (yearOf (s.now / 86400000000000))
  (((yearDays y + m.day - 1) * 86400 + m.hour * 3600 + m.min * 60 + m.sec : Nat) + s.pi gTIM 31 +
    (if s.clk.leapPending then 1 else 0)) * 1000000000

/-- Offset of station time to an IRIG-B frame: what the marker names less the instant of its arrival, corrected for TIM.032 (R437). -/
def State.irigOff (s : State) (m : IrigCode) : Int := s.irigTai m - m.rx + s.pn gTIM 32

/-- IRIGB_FRAME (R4, R428, R437): DC level shift codes B000 to B007. The phase comes from the on-time marker unless `PPS_IN` edges come
with it. -/
def execIrigbFrame (m : IrigCode) (withPps : Bool) (s : State) : Host.Outcome State Fault Refusal :=
  .next (
    let code := if withPps then 3 else 4
    if !(s.up && (s.raw gTIM 20).getLsbD (code - 1)) || m.am || 7 < m.code then s
    else
      let off := s.irigOff m
      let s := if withPps then s.modClk (fun c => { c with srcSeen := c.srcSeen.set 2 (some c.tai), irigOff := off })
        else s.timeFrom 4 off 0 false
      s.modClk (fun c =>
        let mine := c.source != 1 && c.source != 2
        { c with utcValid := c.utcValid || mine, leapArmed := c.leapArmed || m.leap
                 utcOff := if mine then s.pi gTIM 31 + (if c.leapPending then 1 else 0) else c.utcOff }))

/-- Offset of an edge of `PPS_IN` under source 3: to the whole TAI second nearest to the time of day of IRIG-B (R428, R438,
notes/assumptions/86.md). -/
def State.ppsOff (s : State) (off : Int) : Int := off + (s.clk.irigOff - off + 500000000) / 1000000000 * 1000000000

/-- An edge of `PPS_IN` as source 5: the second of TIM.050, which counts on with every edge (R428, R438). -/
def State.ppsSet (s : State) (off : Int) (frac : Nat) : State :=
  match s.clk.setTai with
  | some t =>
    let near : Int := (((s.now + 500000000) / 1000000000 * 1000000000 : Nat) : Int)
    (s.modClk (fun c => { c with setTai := some (t + 1000000000) })).timeFrom 5 (off + t - near) frac false
  | none => s

/-- PPS_IN_EDGE (R428, R438): the nearest whole TAI second under source 3, the second of TIM.050 under source 5. -/
def execPpsInEdge (m : TimeMeas) (s : State) : Host.Outcome State Fault Refusal :=
  .next (
    let off := m.offset + s.pn gTIM 33
    if !s.up then s
    else
      let s := s.ppsSet off m.frac
      if s.srcOk 3 && s.bestSrc == 3 then s.measureTime 3 (s.ppsOff off) m.frac false else s)

/-- TIME_SOURCE_LOST (R428, R429): 3 s have passed without a valid time of source `src`. The next available source is taken; without
one LOCKED becomes HOLDOVER at the mean rate of the last 64 s. -/
def execTimeSourceLost (src : Nat) (s : State) : Host.Outcome State Fault Refusal :=
  .next (
    if s.up && decide (1 ≤ src ∧ src ≤ 6) && (s.clk.srcSeen.getD (src - 1) none).isSome && !s.srcOk src then
      let s := s.modClk (fun c => { c with srcSeen := c.srcSeen.set (src - 1) none })
      if s.clk.source != src then s
      else if s.bestSrc != 0 then
        let b := s.bestSrc
        s.modClk (fun c => { (c.setState .acquiring) with source := b })
      else if s.clk.tstate == .locked then
        s.modClk (fun c => { ((c.setRho c.rhoMean).setState .holdover) with source := 0, rateLimited := false })
      else s.modClk (fun c => { c with source := 0 })
    else s)

/-- TIME_LOCKED (R429). -/
def execTimeLocked (s : State) : Host.Outcome State Fault Refusal :=
  .next (if s.up && s.clk.tstate == .acquiring && decide (16 ≤ s.clk.good) then s.modClk (fun c => c.setState .locked) else s)

/-- HOLDOVER_EXPIRED (R434). -/
def execHoldoverExpired (s : State) : Host.Outcome State Fault Refusal :=
  .next (if s.up && s.clk.tstate == .holdover && decide (s.clk.stateSince + s.pn gTIM 26 ≤ s.now) then
      (s.modClk (fun c => c.setState .free)).rcSet 201 0 10
    else s)

/-- LEAP_SECOND (R437): the end of an announced leap second. -/
def execLeapSecond (s : State) : Host.Outcome State Fault Refusal :=
  .next (if s.up && s.clk.leapArmed then
      (s.audit 0x51 {} 1 s.clk.utcOff (s.clk.utcOff + 1)).modClk (fun c =>
        { c with leapArmed := false, leapPending := true, utcOff := c.utcOff + 1 })
    else s)

/-- PPS_OUT (R439): `rise` at a whole TAI second, else the end of the pulse of TIM.030. -/
def execPpsOut (rise : Bool) (s : State) : Host.Outcome State Fault Refusal :=
  .next (
    let sec := s.now / 1000000000 * 1000000000
    if !s.up then s
    else if rise then
      if (s.clk.tstate == .locked || s.clk.tstate == .holdover) && s.clk.ppsRise != sec then
        s.modClk (fun c => { c with ppsHigh := true, ppsRise := sec })
      else s
    else if s.clk.ppsHigh && decide (s.clk.ppsRise + s.pn gTIM 30 ≤ s.now) then s.modClk (fun c => { c with ppsHigh := false })
    else s)

/-! ### Reference and PLLs -/

/-- Index of a PLL in C, L, H. -/
def Pll.ix : Pll → Nat
  | .c => 0 | .l => 1 | .h => 2

/-- A PLL is powered (R414). -/
def Clk.pow (c : Clk) : Pll → Bool
  | .c => c.powC | .l => c.powL | .h => c.powH
/-- A PLL has declared lock (R421). -/
def Clk.lock (c : Clk) : Pll → Bool
  | .c => c.lockC | .l => c.lockL | .h => c.lockH
/-- The domains of a PLL run on their backup (R424). -/
def Clk.back (c : Clk) : Pll → Bool
  | .c => c.backC | .l => c.backL | .h => c.backH

/-- Power, lock and backup of a PLL. -/
def Clk.setPll (c : Clk) (p : Pll) (pow lock back : Bool) : Clk :=
  match p with
  | .c => { c with powC := pow, lockC := lock, backC := back }
  | .l => { c with powL := pow, lockL := lock, backL := back }
  | .h => { c with powH := pow, lockH := lock, backH := back }

/-- CORE runs at 400 MHz (TIM.010). -/
def State.coreSlow (s : State) : Bool := s.pn gTIM 10 == 1

/-- PLL_LOCK (R420, R421): lock after a power-up or a commit; the domains are released. -/
def execPllLock (p : Pll) (s : State) : Host.Outcome State Fault Refusal :=
  .next (if s.clk.pow p && !s.clk.lock p && !s.clk.back p then s.modClk (fun c => c.setPll p true true false) else s)

/-- PLL_RELOCK (R426): the domains return to the PLL, BACKUP and PLL_LOSS clear. -/
def execPllRelock (p : Pll) (s : State) : Host.Outcome State Fault Refusal :=
  .next (if s.clk.pow p && s.clk.back p then
      s.modClk (fun c => { (c.setPll p true true false) with pllStand := c.pllStand.set p.ix false })
    else s)

/-- REF_FALLBACK (R417): the count of an AO period left 604 to 617. -/
def execRefFallback (count : Nat) (s : State) : Host.Outcome State Fault Refusal :=
  .next (if s.up && (decide (count < 604) || decide (617 < count)) then s.modClk (fun c => { c with refFallback := true }) else s)

/-- REFIN_LOST (R416). -/
def execRefinLost (s : State) : Host.Outcome State Fault Refusal :=
  .next (if s.up && s.pn gTIM 1 == 1 then (s.modClk (fun c => { c with refinLocked := false, tuneHeld := true })).rcSet 200 0 20 else s)

/-- REFIN_RESUME (R415, R416). -/
def execRefinResume (s : State) : Host.Outcome State Fault Refusal :=
  .next (if s.up && s.pn gTIM 1 == 1 then s.modClk (fun c => { c with refinLocked := true, tuneHeld := false }) else s)

/-- Clock outputs at a supervisory boundary (R427). -/
def State.clockOutputs (s : State) : State :=
  s.modClk (fun c => { c with cko := [s.pn gTIM 40 0, s.pn gTIM 40 1], ckoFmt := [s.pn gTIM 41 0, s.pn gTIM 41 1] })

/-- What a clock output delivers: the source code, or 0 where its domain is gated, unpowered or stopped (R414, R427). -/
def State.ckoOut (s : State) (k : Nat) : Nat :=
  match s.clk.cko.getD k 0 with
  | 1 => if s.up then 1 else 0
  | 2 => if s.up then 2 else 0
  | 3 => if s.clk.lockH || s.clk.backH then 3 else 0
  | 4 => if s.awake then 4 else 0
  | _ => 0

end Sys2Proof.Machine
end

