-- ==== Sys2Proof/Machine/Ledger.lean ====
section
/-!
DEFINITION. The Fen charge ledger (chapter 07, R281 to R288): booking of charge, digest, drift.
-/
namespace Sys2Proof.Machine
open Sys2Proof

/-- One microcoulomb in units of mA × u × T_f in ns (R283). -/
def perUC : Int := 2048000000000

/-- An arm-current sample in mA, halves to even, and whether it was saturated (R281). -/
def milliAmps (x : F32) : Int × Bool :=
  let n : Int := if fFinite x then divEven (fNum149 x * 1000) (1 <<< 149) else if fSign x then -200000001 else 200000001
  (max (-200000000) (min 200000000 n), decide (n > 200000000 ∨ n < -200000000))

/-- The samples of every owned arm's current input that completed in the frame that ends here join the arm's list, newest first
(R281). -/
def State.ledgerTake (s : State) : State :=
  forAll (List.range s.nArms) (fun s a =>
    let k := s.pn gARM 13 a
    let acc := (s.meas.ai.getD k AIn.reset).acc
    let smp := acc.map (fun p => (p.1, milliAmps (s.aiScale (if p.2.1 then k + 1 else k) p.2.2)))
    let s := s.when (smp.any (fun p => p.2.2)) (fun s => s.rcSet 145 a 3)
    s.updArm a (fun x => { x with smp := smp.map (fun p => (p.1, p.2.1)) ++ x.smp })) s

/-- Apply instant of frame `m` in u (R237, R592). -/
def State.applyU (s : State) (m : Nat) : Nat := 2048000 * m + 500 * s.tOff

/-- The interval from `t0` to `t1` cut at the sampling instants: start, end, current in mA. `smp` is newest first; before the first
sample the current is 0 (R281). -/
def pieces (t0 t1 : Nat) (smp : List (Nat × Int)) : List (Nat × Nat × Int) :=
  let i0 := ((smp.find? (fun p => p.1 ≤ t0)).map (·.2)).getD 0
  let mid := (smp.filter (fun p => t0 < p.1 && p.1 < t1)).reverse
  let r := mid.foldl (fun (r : List (Nat × Nat × Int) × Nat × Int) p => (r.1 ++ [(r.2.1, p.1, r.2.2)], p.1, p.2)) ([], t0, i0)
  r.1 ++ [(r.2.1, t1, r.2.2)]

/-- Pieces cut once more at `t`. -/
def cutAt (t : Nat) (l : List (Nat × Nat × Int)) : List (Nat × Nat × Int) :=
  l.flatMap (fun p => if p.1 < t && t < p.2.1 then [(p.1, t, p.2.2), (t, p.2.1, p.2.2)] else [p])

/-- Charge factor of R282. -/
def chargeFactor (st : CellCmd) (fb : Bool) (i : Int) : Int :=
  match st with
  | .insertPos => 1
  | .insertNeg => -1
  | .bypass => 0
  | .block => if i > 0 then 1 else if fb then -1 else 0

/-- N_c of R282: the state before `te` is `st0`, from `te` on it is `st1`, and from `tb` on BLOCK. -/
def chargeOf (fb : Bool) (st0 st1 : CellCmd) (te tb : Nat) (l : List (Nat × Nat × Int)) : Int :=
  ((cutAt tb (cutAt te l)).map (fun p =>
    let st := if tb ≤ p.1 then CellCmd.block else if p.1 < te then st0 else st1
    chargeFactor st fb p.2.2 * p.2.2 * ((p.2.1 - p.1 : Nat) : Int))).sum

/-- A 48-bit account, saturated (R283). -/
def sat48 (x : Int) : Int := max (-140737488355328) (min 140737488355327 x)

/-- Books `n` into a cell for frame `m` (R283): the account, the remainder, and whether the account saturated. -/
def Cell.book (tf m : Nat) (n : Int) (c : Cell) : Cell × Bool :=
  let x : Int := (c.rem : Int) + n * (tf : Int)
  let d := x / perUC
  let a := c.acct + d
  ({ c with acct := sat48 a, rem := (x % perUC).toNat, accH := ((m, sat48 a) :: c.accH).take 6 }, decide (sat48 a ≠ a))

/-- Instant in u from which BLOCK stands at a cell because of BLOCK_ALL, and beyond any frame where none stands (R248, R599). -/
def State.blockFrom (s : State) (c m : Nat) : Nat :=
  let p := s.port (s.cell c).port
  match p.baAt, p.relF with
  | some t, none => t
  | some t, some f => if m < f + 3 then t else 2048000 * (m + 8)
  | none, _ => 2048000 * (m + 8)

/-- Books the charge of one cell for apply frame `m` (R282, R283, R599). -/
def State.bookCell (s : State) (m : Nat) (pcs : List (Nat × Nat × Int)) (c : Nat) : State :=
  let y := s.cell c
  let h := y.hist.find? (fun x => x.1 == m)
  let te := match h with
    | some (_, q, _) => (match q.edge with | some o => s.applyU m + 500 * o | none => 0)
    | none => 0
  let st1 := match h with
    | some (_, q, _) => q.st
    | none => if y.hold < y.noCmd + 1 then .block else y.booked
  let n := if y.byp then 0 else chargeOf y.fb y.booked st1 te (s.blockFrom c m) pcs
  let r := (if y.acctOk then y.book s.tf m n else (y, false))
  let s := s.updCell c (fun _ => { r.1 with booked := st1, noCmd := if h.isSome then 0 else y.noCmd + 1 })
  s.when r.2 (fun s => s.rcSet 145 y.arm 2)

/-- The booking of boundary `m + 2` for every owned arm, its total (R39, R283, R284). -/
def State.bookFrame (s : State) : State :=
  if s.fr < 2 then s
  else
    let m := s.fr - 2
    forAll (List.range s.nArms) (fun s a =>
      let t0 := s.applyU m
      let t1 := s.applyU (m + 1)
      let smp := (s.armS a).smp
      let pcs := pieces t0 t1 smp
      let s := forAll (s.channels a) (fun s c => s.bookCell m pcs c) s
      let keep := smp.filter (fun p => t1 < p.1)
      let last := (smp.find? (fun p => p.1 ≤ t1)).toList
      s.updArm a (fun x => { x with smp := keep ++ last, total := ((s.channels a).map (fun c => (s.cell c).acct)).sum, booked := m })) s

/-- Bytes of an account, 48-bit two's complement, most significant first (R285). -/
def acctBytes (x : Int) : List Byte :=
  let b := BitVec.ofInt 48 x
  [b.extractLsb' 40 8, b.extractLsb' 32 8, b.extractLsb' 24 8, b.extractLsb' 16 8, b.extractLsb' 8 8, b.extractLsb' 0 8]

/-- LEDGER_DIGEST of owned arm `a` (R285). -/
def State.ledgerDigest (s : State) (a : Nat) : Nat :=
  (crc64 ((s.channels a).flatMap (fun c => acctBytes (s.cell c).acct))).toNat

/-- The account of a cell from its first usable status (R284). -/
def Cell.openAcct (c : Cell) : Cell :=
  if c.acctOk then c else { c with acct := ((c.capUF * c.vcap / 10 : Nat) : Int), rem := 0, acctOk := true }

/-- Drift of a cell in 0.1 µC between its reference pair and its newest pair (R286). -/
def Cell.driftNow (c : Cell) : Int :=
  match c.refPair, c.pair with
  | some (a0, v0), some (a1, v1) => 10 * (a1 - a0) - (c.capUF : Int) * ((v1 : Int) - (v0 : Int))
  | _, _ => c.drift

/-- The drift computation of a supervisory boundary (R286, R288). The levels are in 0.1 V, so |drift| / C compares with C times them. Each
cell whose drift comes to exceed NST.061 has its record. -/
def State.driftCompute (s : State) : State :=
  let past := fun (lev : Nat) (c : Cell) => decide (lev * c.capUF < c.drift.natAbs)
  let old := s.arm.cells
  let s := s.mapCells (fun _ c =>
    let d := c.driftNow
    let z := { c with drift := d, maxDr := max c.maxDr d.natAbs, refPair := c.refPair.or c.pair }
    { z with drOver := past (s.pn gNST 61) z })
  forAll (List.range s.nArms) (fun s a =>
    let l := s.channels a
    let worst := l.foldl (fun w c => if (s.cell w).drift.natAbs < (s.cell c).drift.natAbs then c else w) (l.headD 0)
    let s := s.updArm a (fun x => { x with
      worst := worst, driftAl := l.any (fun c => past (s.pn gNST 60) (s.cell c)), driftFl := l.any (fun c => (s.cell c).drOver) })
    forAll (l.filter (fun c => (s.cell c).drOver && !(old.getD c Cell.reset).drOver)) (fun s c =>
      s.audit 0x32 {} c (s.cell c).drift s.nest.winStart) s) s

/-- A new reference pair; the window's largest drift is recorded first (R287). -/
def Cell.newRef (c : Cell) : Cell := { c with lastDr := c.maxDr, maxDr := 0, refPair := c.pair, drift := 0 }

/-- Reasons of a cell have changed from those of `old`: where none stands any longer the cell re-enters the pool with a new reference
pair, at the next supervisory boundary while RUNNING (`wait`), else at once (R197, R287). -/
def Cell.reenter (old : Cell) (wait : Bool) (f : Nat) (c : Cell) : Cell :=
  if old.excluded && !c.excluded then (if wait then { c with out_ := some f } else c.newRef) else c

/-- Cells whose wait has ended at the present supervisory boundary (R197, R287). -/
def State.poolReentry (s : State) : State :=
  s.mapCells (fun _ c => match c.out_ with
    | some f => if f < s.fr then { c.newRef with out_ := none } else c
    | none => c)

/-- DRIFT_WINDOW_END (R287): NST.062 has passed since the window began. -/
def execDriftWindowEnd (s : State) : Host.Outcome State Fault Refusal :=
  .next (if s.engOn && s.isLeaf && decide (s.nest.winStart + s.pn gNST 62 ≤ s.now) then
      (s.mapCells (fun _ c => c.newRef)).modNest (fun n => { n with winStart := s.now })
    else s)

end Sys2Proof.Machine
end

