-- ==== Sys2Proof/Machine/Sha.lean ====
section
/-!
DEFINITION. The published functions that images and sessions rest on: SHA-256 (FIPS 180-4), HMAC-SHA-256 (FIPS 198-1) and the
verification of an ECDSA P-256 signature over SHA-256 (R456, R457, R480, R481).
-/
namespace Sys2Proof.Machine
open Sys2Proof

/-- A number of `k` bytes, most significant first. -/
def bytesOfNat : Nat → Nat → List Byte
  | 0, _ => []
  | k + 1, n => BitVec.ofNat 8 (n >>> (8 * k)) :: bytesOfNat k n

/-- The number that bytes spell, most significant first. -/
def natOfBytes (l : List Byte) : Nat := l.foldl (fun a b => a * 256 + b.toNat) 0

/-- Round constants of SHA-256. -/
def shaK : List Word :=
  [0x428A2F98, 0x71374491, 0xB5C0FBCF, 0xE9B5DBA5, 0x3956C25B, 0x59F111F1, 0x923F82A4, 0xAB1C5ED5] ++
  [0xD807AA98, 0x12835B01, 0x243185BE, 0x550C7DC3, 0x72BE5D74, 0x80DEB1FE, 0x9BDC06A7, 0xC19BF174] ++
  [0xE49B69C1, 0xEFBE4786, 0x0FC19DC6, 0x240CA1CC, 0x2DE92C6F, 0x4A7484AA, 0x5CB0A9DC, 0x76F988DA] ++
  [0x983E5152, 0xA831C66D, 0xB00327C8, 0xBF597FC7, 0xC6E00BF3, 0xD5A79147, 0x06CA6351, 0x14292967] ++
  [0x27B70A85, 0x2E1B2138, 0x4D2C6DFC, 0x53380D13, 0x650A7354, 0x766A0ABB, 0x81C2C92E, 0x92722C85] ++
  [0xA2BFE8A1, 0xA81A664B, 0xC24B8B70, 0xC76C51A3, 0xD192E819, 0xD6990624, 0xF40E3585, 0x106AA070] ++
  [0x19A4C116, 0x1E376C08, 0x2748774C, 0x34B0BCB5, 0x391C0CB3, 0x4ED8AA4A, 0x5B9CCA4F, 0x682E6FF3] ++
  [0x748F82EE, 0x78A5636F, 0x84C87814, 0x8CC70208, 0x90BEFFFA, 0xA4506CEB, 0xBEF9A3F7, 0xC67178F2]

/-- Initial hash value of SHA-256. -/
def shaH0 : List Word := [0x6A09E667, 0xBB67AE85, 0x3C6EF372, 0xA54FF53A, 0x510E527F, 0x9B05688C, 0x1F83D9AB, 0x5BE0CD19]

/-- Words of a block, most significant byte first. -/
def wordsOf : Nat → List Byte → List Word
  | 0, _ => []
  | k + 1, l => BitVec.ofNat 32 (natOfBytes (l.take 4)) :: wordsOf k (l.drop 4)

/-- Message schedule: the list grows at its front (newest first). -/
def shaSchedule : Nat → List Word → List Word
  | 0, w => w
  | k + 1, w =>
    let a := w.getD 14 0
    let b := w.getD 1 0
    let s0 := a.rotateRight 7 ^^^ a.rotateRight 18 ^^^ (a >>> 3)
    let s1 := b.rotateRight 17 ^^^ b.rotateRight 19 ^^^ (b >>> 10)
    shaSchedule k ((w.getD 15 0 + s0 + w.getD 6 0 + s1) :: w)

/-- The eight working words of a compression. -/
structure ShaSt where
  a : Word
  b : Word
  c : Word
  d : Word
  e : Word
  f : Word
  g : Word
  h : Word
deriving DecidableEq, Repr

/-- One round. -/
def shaRound (x : ShaSt) (kw : Word × Word) : ShaSt :=
  let s1 := x.e.rotateRight 6 ^^^ x.e.rotateRight 11 ^^^ x.e.rotateRight 25
  let ch := (x.e &&& x.f) ^^^ (~~~x.e &&& x.g)
  let t1 := x.h + s1 + ch + kw.1 + kw.2
  let s0 := x.a.rotateRight 2 ^^^ x.a.rotateRight 13 ^^^ x.a.rotateRight 22
  let mj := (x.a &&& x.b) ^^^ (x.a &&& x.c) ^^^ (x.b &&& x.c)
  { a := t1 + s0 + mj, b := x.a, c := x.b, d := x.c, e := x.d + t1, f := x.e, g := x.f, h := x.g }

/-- Compression of one 64-byte block into the hash value. -/
def shaBlock (hv : ShaSt) (blk : List Byte) : ShaSt :=
  let w := (shaSchedule 48 (wordsOf 16 blk).reverse).reverse
  let r := (shaK.zip w).foldl shaRound hv
  { a := hv.a + r.a, b := hv.b + r.b, c := hv.c + r.c, d := hv.d + r.d,
    e := hv.e + r.e, f := hv.f + r.f, g := hv.g + r.g, h := hv.h + r.h }

/-- Compression over `k` blocks. -/
def shaBlocks : Nat → ShaSt → List Byte → ShaSt
  | 0, hv, _ => hv
  | k + 1, hv, l => shaBlocks k (shaBlock hv (l.take 64)) (l.drop 64)

/-- SHA-256 of a message: 32 bytes. -/
def sha256 (m : List Byte) : List Byte :=
  let pad := (119 - m.length % 64) % 64
  let l := m ++ [0x80] ++ List.replicate pad 0 ++ bytesOfNat 8 (8 * m.length)
  let k (i : Nat) : Word := shaH0.getD i 0
  let h0 : ShaSt := ⟨k 0, k 1, k 2, k 3, k 4, k 5, k 6, k 7⟩
  let r := shaBlocks (l.length / 64) h0 l
  [r.a, r.b, r.c, r.d, r.e, r.f, r.g, r.h].flatMap (fun w => bytesOfNat 4 w.toNat)

/-- HMAC-SHA-256 (R456). -/
def hmac (key m : List Byte) : List Byte :=
  let k := if key.length > 64 then sha256 key else key
  let k := k ++ List.replicate (64 - k.length) 0
  sha256 (k.map (· ^^^ 0x5C) ++ sha256 (k.map (· ^^^ 0x36) ++ m))

/-- Prime of the field of P-256. -/
def p256P : Nat := 115792089210356248762697446949407573530086143415290314195533631308867097853951
/-- Order of the group of P-256. -/
def p256N : Nat := 115792089210356248762697446949407573529996955224135760342422259061068512044369
/-- The coefficient b of P-256. -/
def p256B : Nat := 41058363725152142129326129780047268409114441015993725554835256314039467401291
/-- Base point of P-256. -/
def p256G : Nat × Nat := (48439561293906451759052585252797914202762949526041747995844080717082404635286, 36134250956749795798585127919587881956611106672985015071877198253568414405109)

/-- `b ^ e` modulo `m`, the exponent's bits `k - 1` to 0. -/
def powMod (b e m : Nat) : Nat → Nat → Nat
  | 0, acc => acc
  | k + 1, acc =>
    let sq := acc * acc % m
    powMod b e m k (if (e >>> k) % 2 == 1 then sq * b % m else sq)

/-- Inverse modulo a prime of 256 bits. -/
def invMod (a m : Nat) : Nat := powMod (a % m) (m - 2) m 256 1

/-- Sum of two points of P-256; `none` is the point at infinity. -/
def ecAdd : Option (Nat × Nat) → Option (Nat × Nat) → Option (Nat × Nat)
  | none, q => q
  | p, none => p
  | some (x1, y1), some (x2, y2) =>
    if x1 == x2 && (y1 + y2) % p256P == 0 then none
    else
      let l :=
        if x1 == x2 then (3 * x1 * x1 + (p256P - 3)) % p256P * invMod (2 * y1) p256P % p256P
        else (y2 + p256P - y1) % p256P * invMod (x2 + p256P - x1) p256P % p256P
      let x := (l * l + 2 * p256P - x1 - x2) % p256P
      some (x, (l * (x1 + p256P - x) + p256P - y1) % p256P)

/-- Multiple of a point, the scalar's bits `k - 1` to 0. -/
def ecMul (e : Nat) (q : Option (Nat × Nat)) : Nat → Option (Nat × Nat) → Option (Nat × Nat)
  | 0, acc => acc
  | k + 1, acc =>
    let d := ecAdd acc acc
    ecMul e q k (if (e >>> k) % 2 == 1 then ecAdd d q else d)

/-- A public key held as 512 bits, x then y, lies on the curve. -/
def ecOnCurve (key : Nat) : Bool :=
  let x := key >>> 256
  let y := key % (1 <<< 256)
  x < p256P && y < p256P && y * y % p256P == (x * x * x + (p256P - 3) * x + p256B) % p256P

/-- An ECDSA P-256 signature (r then s, 64 bytes) over a SHA-256 digest verifies under a key. -/
def ecdsaOk (key : Nat) (digest sig : List Byte) : Bool :=
  let r := natOfBytes (sig.take 32)
  let s := natOfBytes (sig.drop 32)
  if sig.length != 64 || r == 0 || r ≥ p256N || s == 0 || s ≥ p256N || !ecOnCurve key then false
  else
    let z := natOfBytes digest
    let w := invMod s p256N
    let q := some (key >>> 256, key % (1 <<< 256))
    match ecAdd (ecMul (z * w % p256N) (some p256G) 256 none) (ecMul (r * w % p256N) q 256 none) with
    | none => false
    | some (x, _) => x % p256N == r

end Sys2Proof.Machine
end

