-- ==== Sys2Proof/Machine/Crihel.lean ====
section
/-!
DEFINITION. The Crihel link (chapter 06): downlink frames, returned frames and statuses, BLOCK_ALL and RELEASE, breaks, messages.
-/
namespace Sys2Proof.Machine
open Sys2Proof

/-! ### Bytes -/

/-- Big-endian number of `n` bytes from offset `k` (R231). -/
def beAt (l : List Byte) (k n : Nat) : Nat := ((l.drop k).take n).foldl (fun a b => a * 256 + b.toNat) 0

/-- A frame number from its low 32 bits: the value congruent modulo 2^32 nearest the receiver's own (R28). -/
def extendF (own low : Nat) : Nat :=
  let b := own / 4294967296 * 4294967296 + low % 4294967296
  if b + 2147483648 < own then b + 4294967296
  else if own + 2147483648 < b && 4294967296 ≤ b then b - 4294967296
  else b

/-- An extended frame number differs from the receiver's own by more than 2 (R28). -/
def misaligned (own f : Nat) : Bool := own + 2 < f || f + 2 < own

/-- Codes of R233. -/
def cellCmdOf : Nat → CellCmd
  | 0 => .bypass | 1 => .insertPos | 2 => .insertNeg | _ => .block
/-- Codes of R233. -/
def CellCmd.code : CellCmd → Nat
  | .bypass => 0 | .insertPos => 1 | .insertNeg => 2 | .block => 3

/-- A signed byte. -/
def s8 (n : Nat) : Int := if n ≥ 128 then (n : Int) - 256 else n

/-- The fields of a status slot (R234). -/
def slotOf (w : Nat) : Slot :=
  let b := fun (k : Nat) => w.testBit k
  { vcap := w / 2 ^ 48 % 65536, st := cellCmdOf (w / 2 ^ 46 % 4), filled := b 45, desatH := b 44, desatHB := b 43,
    desatL := b 42, desatLB := b 41, gsOk := b 40, bypClosed := b 39, holding := b 38, blockLatch := b 37, loopback := b 36,
    onward := b 35, cmdErr := b 34, epochRej := b 33, temp := s8 (w / 2 ^ 24 % 256), fseq := w / 256 % 16 }

/-- A status is usable: FILLED, a good SCRC for its position, FSEQ of the carrying frame (R234, R235). -/
def slotUsable (bytes : List Byte) (pos fnum : Nat) : Bool :=
  let s := slotOf (beAt bytes 0 8)
  s.filled && crc8 (bytes.take 7 ++ [BitVec.ofNat 8 pos]) == bytes.getD 7 0 && s.fseq == fnum % 16

/-! ### Chains and positions (R227 to R230) -/

/-- The port serves cells. -/
def State.cellPort (s : State) (p : Nat) : Bool := 1 ≤ s.topoOf p && s.topoOf p ≤ 4
/-- Port under which the cells of the chain at port `p` are listed: the head of a dual-ended chain. -/
def State.headPort (s : State) (p : Nat) : Nat := if s.topoOf p == 3 then p - 1 else p
/-- Cells of the chain at port `p`. -/
def State.chainLen (s : State) (p : Nat) : Nat := (s.portCells (s.headPort p)).length

/-- Position in the topology section of the cell at position `q` counted from the end that sends: the tail of a dual-ended chain and
twin B count from the far end (R228, R230). -/
def State.posFrom (s : State) (p q : Nat) (sideB : Bool) : Nat :=
  let n := s.chainLen p
  if s.topoOf p == 3 || (s.topoOf p == 4 && sideB) then n - 1 - q else q

/-- Channel of the cell at a position of the chain at port `p`. -/
def State.chanAt (s : State) (p pos : Nat) : Option Nat := (s.portCells (s.headPort p)).find? (fun c => (s.cell c).pos == pos)

/-! ### Statuses (R44, R235, R252, R593) -/

/-- Voltage-sensor calibration: V in 0.1 V, exact before the rounding, halves to even, saturated (R593). -/
def calibrate (g o k : F32) (raw : Nat) (temp : Int) : Nat :=
  let two : Int := 1 <<< 149
  let v := (fNum149 g * (raw : Int) + 10 * fNum149 o) * (two + fNum149 k * (temp - 25))
  (max 0 (min 65535 (divEven v (1 <<< 298)))).toNat

/-- Commanded state of a cell at `t` ticks after the apply instant of frame `f`, from the commands sent. -/
def Cell.cmdAt (c : Cell) (f t : Nat) : CellCmd :=
  let get := fun (k : Nat) => ((c.hist.find? (fun h => h.1 == k)).map (fun h => h.2.1)).getD { st := .block }
  let q := get f
  match q.edge with
  | some o => if t < o then (get (f - 1)).st else q.st
  | none => q.st

/-- A usable status of channel `c` is latched at a boundary; `f` is the frame that carried it. It arrived at the cell the cell's offset for
the end that sent it, and the frame's DEP_OFS, after boundary `f` (R236, R239). A late or relayed one is counted in DIA.127 (R245, R252). -/
def State.takeStatus (s : State) (c f : Nat) (sl : Slot) : State :=
  let y := s.cell c
  let v := calibrate y.gain y.off y.tempco sl.vcap sl.temp
  let late := f + 2 < s.fr
  let arr := 4096 * f + (if sl.far then y.arrT else y.arrH) + sl.dep
  let k := (arr - s.tOff) / 4096
  let t := (arr - s.tOff) % 4096
  let outN := (if sl.desatH && !sl.desatHB then 1 else 0) + (if sl.desatL && !sl.desatLB then 1 else 0)
  let inN := (if sl.desatH && sl.desatHB then 1 else 0) + (if sl.desatL && sl.desatLB then 1 else 0)
  let mism := sl.st != y.cmdAt k t
  let good := min 255 (y.goodStat + 1)
  let unstale := y.exStale && decide (16 ≤ good)
  let ungate := y.exGate && y.readmit && sl.gsOk
  let z : Cell := { y with
    vcap := v, seen := true, fresh := true, noStat := 0, goodStat := good
    stRep := sl.st, byp := sl.bypClosed, loopb := sl.loopback, onward := sl.onward, viaT := sl.far
    desat := outN > 0, desatB := inN > 0, desatN := wrap32 (y.desatN + outN), desatBN := wrap32 (y.desatBN + inN)
    gsLow := !sl.gsOk, gsSince := if sl.gsOk then none else y.gsSince.or (some s.fr)
    exStale := y.exStale && !unstale, exGate := y.exGate && !ungate, readmit := y.readmit && !ungate
    exByp := y.exByp || sl.bypClosed
    overdue := y.overdue && !sl.bypClosed
    mism := if mism then wrap32 (y.mism + 1) else y.mism
  }
  let z := z.openAcct
  let z := y.reenter s.running s.fr { z with pair := some (((z.accH.find? (fun a => a.1 + 1 == k)).map (·.2)).getD z.acct, v) }
  let s := s.updCell c (fun _ => z)
  let s := s.when mism (fun s => s.rcSet 145 y.arm 4)
  let s := s.when (late || sl.relayed) (fun s => s.updPort y.port (fun p => { p with cLate := wrap32 (p.cLate + 1) }))
  s.when late (fun s => s.rcSet 120 y.port 7)

/-- No usable status of a cell at a boundary (R196, R202, R260). -/
def Cell.noStatus (c : Cell) : Cell :=
  { c with fresh := false, noStat := min 65535 (c.noStat + 1), goodStat := 0, desat := false, desatB := false }

/-- The statuses of a boundary are latched: those carried by the frame of two boundaries before, or one older that came late (R44,
R252). -/
def State.latchStatuses (s : State) : State :=
  let due := s.link.stq.filter (fun x => x.1 + 2 ≤ s.fr && s.fr ≤ x.1 + 3)
  let s := s.modLink (fun l => { l with stq := l.stq.filter (fun x => s.fr < x.1 + 2) })
  let chans := (s.arm.cells.zipIdx.filter (fun p => p.1.conf)).map (·.2)
  forAll chans (fun s c =>
    let mine := due.filter (fun x => x.2.1 == c)
    match (mine.find? (fun x => x.1 + 2 == s.fr)).or mine.head? with
    | some x => s.takeStatus c x.1 x.2.2
    | none => s.updCell c Cell.noStatus) s

/-- Last position reached from the head and first reached from the tail, from the looped cells that frames of either end have reached; one
end alone tells the other (R251, R252). -/
def breakOf (heads tails : List Nat) : Nat × Nat :=
  match heads, tails with
  | h :: hs, t :: ts => (hs.foldl min h, ts.foldl max t)
  | h :: hs, [] => (hs.foldl min h, hs.foldl min h + 1)
  | [], t :: ts => (ts.foldl max t - 1, ts.foldl max t)
  | [], [] => (0, 0)

/-- A relayed status keeps PROXY standing for so many frames (notes/assumptions/115.md). -/
def proxyFrames : Nat := 3

/-- Port counts of a boundary: cells seen, LINK_LOSS cleared, SPLIT entered and left, PROXY ended (R245, R252, R253, R261). -/
def State.portLatch (s : State) : State :=
  forAll ((List.range 32).filter s.cellPort) (fun s p =>
    let cs := (s.portCells (s.headPort p)).map s.cell
    let loops := cs.filter (fun c => c.loopb && c.seen)
    let brk := breakOf ((loops.filter (fun c => !c.viaT)).map (·.pos)) ((loops.filter (fun c => c.viaT)).map (·.pos))
    s.updPort p (fun x =>
      { x with seenN := (cs.filter (fun c => c.fresh)).length
               loss := x.loss && !cs.all (fun c => decide (16 ≤ c.goodStat))
               split := if s.topoOf p == 1 then false else if loops.isEmpty then false else x.split || x.splitDue
               splitDue := s.topoOf p != 1 && !loops.isEmpty
               breakPos := if loops.isEmpty then x.breakPos else brk.1
               tailPos := if loops.isEmpty then x.tailPos else brk.2
               proxy := x.proxy && (match x.relayF with | some f => decide (s.fr ≤ f + proxyFrames) | none => false)
               got := false
               baAt := (match x.relF with | some f => if f + 6 ≤ s.fr then none else x.baAt | none => x.baAt)
               relF := (match x.relF with | some f => if f + 6 ≤ s.fr then none else x.relF | none => x.relF) })) s

/-! ### Downlink (R229 to R233, R236, R246, R250, R252) -/

/-- SLOT_BASE and SLOT_COUNT of the frames that port `p` sends in one period, with their departure offsets (R229, R252); without a
valid topology section 0 and 16 (R491). -/
def State.spans (s : State) (p : Nat) : List (Nat × Nat × Nat) :=
  let n := s.chainLen p
  let x := s.port p
  let dep := (1112 * 4096 + s.tf - 1) / s.tf
  let far := s.topoOf p == 3 || (s.topoOf p == 4 && s.twin.sideB)
  if s.sys.run.isNone then [(0, 16, 0)]
  else if x.split then
    let r := min n (if far then n - x.tailPos else x.breakPos + 1)
    if r > 16 then [(0, 16, 0), (16, r - 16, dep)] else [(0, r, 0)]
  else if s.topoOf p == 2 then [(0, min n 16, 0)]
  else if s.topoOf p == 3 then [(0, n - 16, 0)]
  else [(0, n, 0)]

/-- Frame type: KEEPALIVE in CONFIG_PENDING and in READY outside test mode, else COMMAND (R220, R246). -/
def State.ftype (s : State) : Nat :=
  if s.sys.st == .configPending || (s.sys.st == .ready && !s.testing) || s.sys.keep > 0 then 2 else 1

/-- Command of a position in a frame of type `ft`: the cell's command in COMMAND, BLOCK in KEEPALIVE and ENUM (R246, R258). -/
def State.wordAt (s : State) (ft p q : Nat) : Cmd :=
  if ft != 1 then { st := .block }
  else match s.chanAt p (s.posFrom p q s.twin.sideB) with
    | some c => (s.cell c).cmd
    | none => { st := .block }

/-- A request may go out: FW_COMMIT only in CONFIG_PENDING or READY, to a cell commanded BLOCK (R257). -/
def State.msgGo (s : State) (p : Nat) (m : Msg) : Bool :=
  m.mtype != 6 || s.sys.st == .configPending ||
    (s.sys.st == .ready && (!s.testing || (match s.chanAt p m.target with
      | some c => (s.cell c).cmd.st == .block
      | none => true)))

/-- The frame of type `ft` on port `p` for SLOT_BASE, SLOT_COUNT and departure offset `sp`, with its message (R229, R232, R236). Twin
fields are 0 outside a pair. -/
def State.downFrame (s : State) (p ft : Nat) (sp : Nat × Nat × Nat) (m : Option Msg) : Downlink :=
  let x := s.port p
  let tw := s.pb gTWN 1
  { port := p, fnum := BitVec.ofNat 32 s.fr, lepoch := if tw then s.twin.epoch else 0, nodeId := s.pn gSYS 2, sideB := tw && s.twin.sideB
    shadow := s.isShadow, ready := s.isShadow && s.twin.ready, ftype := ft, fper := s.pn gSYS 4, applyOfs := s.tOff, slotBase := sp.1
    slotCount := sp.2.1, release := x.release, relink := x.relink, depOfs := sp.2.2
    cmds := (List.range sp.2.1).map (fun q => s.wordAt ft p (sp.1 + q)), msg := m }

/-- Sends the frames of port `p` at a boundary; the first carries the next request where a credit is free and the module may issue
one (R256). A request names its cell by the position counted from the end that sends (R228, message slot table). -/
def State.sendPort (s : State) (p : Nat) : State :=
  let x := s.port p
  let msg := if s.isShadow || x.credits == 0 then none
    else (x.out_.head?.filter (s.msgGo p)).map (fun m => { m with seq := x.seq, target := s.posFrom p m.target s.twin.sideB })
  let fr := match s.spans p with
    | a :: l => s.downFrame p s.ftype a msg :: l.map (fun b => s.downFrame p s.ftype b none)
    | [] => []
  (s.modLink (fun l => { l with tx := l.tx ++ fr })).updPort p (fun y =>
    { y with sent := (s.fr :: y.sent).take 3,
             out_ := if msg.isSome then y.out_.drop 1 else y.out_
             credits := if msg.isSome then y.credits - 1 else y.credits
             seq := if msg.isSome then (y.seq + 1) % 256 else y.seq
             reqs := (match msg with | some m => y.reqs ++ [(m.seq, s.fr, m)] | none => y.reqs) })

/-! ### The bytes of a frame (R231 to R234) -/

/-- A command word for the cell at position `pos` of a frame with number `fnum` (R233). -/
def Cmd.word (q : Cmd) (pos fnum : Nat) : Nat :=
  let w := q.st.code * 2 ^ 30 + (match q.edge with | some o => 2 ^ 29 + (o % 4096) * 2 ^ 17 | none => 0) + (fnum % 16) * 256
  w + (crc8 (bytesOfNat 3 (w / 256) ++ bytesOfNat 1 pos ++ bytesOfNat 2 (fnum % 65536))).toNat

/-- Command words of a frame, position by position from SLOT_BASE (R229, R233). -/
def Downlink.words (d : Downlink) : List Word :=
  d.cmds.zipIdx.map (fun x => BitVec.ofNat 32 (x.1.word (d.slotBase + x.2) d.fnum.toNat))

/-- The four header words; HOP leaves as 0 (R228, R232). -/
def Downlink.header (d : Downlink) : List Byte :=
  let w1 := (d.lepoch % 65536) * 65536 + (d.nodeId % 256) * 256 + d.sideB.toNat * 128 + d.shadow.toNat * 64 + d.ready.toNat * 32 + d.port % 32
  let w2 := d.ftype * 2 ^ 28 + d.fper * 2 ^ 26 + (d.applyOfs % 4096) * 2 ^ 12 + (d.slotBase % 32) * 128 + (d.slotCount % 32) * 4
  let w3 := d.release.toNat * 2 ^ 23 + d.relink.toNat * 2 ^ 22 + (d.depOfs % 4096) * 2 ^ 10
  bytesOfNat 4 d.fnum.toNat ++ bytesOfNat 4 w1 ++ bytesOfNat 4 w2 ++ bytesOfNat 4 w3

/-- The message slot of 64 bytes, zeros where it is empty (message slot table). -/
def Msg.bytes (m : Option Msg) : List Byte :=
  match m with
  | some m => ((bytesOfNat 1 m.mtype ++ bytesOfNat 1 m.target ++ bytesOfNat 1 m.seq ++ bytesOfNat 1 m.len ++ bytesOfNat 4 m.addr ++ m.payload) ++
      List.replicate 64 0).take 64
  | none => List.replicate 64 0

/-- Bytes 0 to 275 of a frame: header, 16 command words, zero beyond SLOT_COUNT, message slot, CRC-32 and 16 empty status slots. -/
def Downlink.bytes (d : Downlink) : List Byte :=
  let words := (d.words.flatMap (fun (w : Word) => bytesOfNat 4 w.toNat) ++ List.replicate 64 0).take 64
  let body := d.header ++ words ++ Msg.bytes d.msg
  body ++ bytesOfNat 4 (crc32 body).toNat ++ List.replicate 128 0

/-- Frames that left whole at the latest boundary: port, DEP_OFS in ticks and bytes (R231, R236, R247). -/
def State.crihelOut (s : State) : List (Nat × Nat × List Byte) :=
  (s.link.tx.filter (fun d => !d.cut)).map (fun d => (d.port, d.depOfs, d.bytes))

/-- The downlink of a boundary on every cell port (R236), on every P port where no valid topology section exists (R491). -/
def State.sendDownlink (s : State) : State :=
  let s := s.modLink (fun l => { l with tx := [] })
  if s.txGo then forAll ((List.range 32).filter (fun p => s.sys.run.isNone || s.cellPort p)) State.sendPort s else s

/-- At a supervisory boundary the sample of RELEASE or RELINK that runs ends (R250, R253). -/
def State.endSample (s : State) : State :=
  s.modLink (fun l => { l with ports := l.ports.map (fun p => { p with release := false, relink := false }) })

/-- The frames of this boundary carry the flags that its supervisory work has set (R250, R253). -/
def State.flagFrames (s : State) : State :=
  s.modLink (fun l => { l with tx := l.tx.map (fun d =>
    { d with release := (l.ports.getD d.port Port.reset).release, relink := (l.ports.getD d.port Port.reset).relink }) })

/-! ### BLOCK_ALL and RELEASE (R247 to R250) -/

/-- Frames of port `p` in progress at time `t` in u are abandoned: one leaves at its departure offset and lasts 1,112 ns (R231, R236,
R247). -/
def State.cutFrames (s : State) (p t : Nat) : State :=
  s.modLink (fun l => { l with tx := l.tx.map (fun d =>
    let t0 := 2048000 * s.fr + 500 * d.depOfs
    if d.port == p && decide (t0 ≤ t) && decide (t < t0 + 1112 * 2048000 / s.tf) then { d with cut := true } else d) })

/-- BLOCK_ALL on port `p`, requested at time `t` in u (R247). -/
def State.sendBlockAll (t : Nat) (s : State) (p : Nat) : State :=
  if s.txGo && s.cellPort p then
    ((s.cutFrames p t).updPort p (fun x => { x with
      baSent := true, baAt := if x.relF.isSome then some t else x.baAt.or (some t), relF := none, cBa := wrap32 (x.cBa + 1) })).rcSet 120 p 3
  else s

/-- A port that starts anew; it keeps that it has sent BLOCK_ALL and no RELEASE since: the cells' latches stand (R248, R250,
notes/assumptions/116.md). -/
def Port.kept (p : Port) : Port := { Port.reset with baSent := p.baSent, baAt := p.baAt, relF := p.relF }

/-- RELEASE starts on port `p` where BLOCK_ALL has been sent since the last RELEASE (R250). -/
def State.startRelease (s : State) (p : Nat) : State :=
  s.updPort p (fun x => if x.baSent then { x with release := true, baSent := false, relF := some s.fr } else x)

/-- RELEASE on every port that sent BLOCK_ALL. -/
def State.releaseAll (s : State) : State := forAll (List.range 32) State.startRelease s

/-! ### Supervisory work of the ports (R40, R240, R253, R256) -/

/-- Message credits are reconciled to 8 (R40, R256). -/
def State.creditsReconcile (s : State) : State :=
  forAll (List.range 32) (fun s p =>
    let x := s.port p
    if x.credits + x.reqs.length == 8 then s
    else (s.updPort p (fun y => { y with credits := 8 - y.reqs.length, cCorr := wrap32 (y.cCorr + 1) })).rcSet 120 p 5) s

/-- RELINK is due on the chain at port `h`: both cells of the broken segment report ONWARD_SYNC, and rejoining is allowed (R253). -/
def State.relinkDue (s : State) (h : Nat) : Bool :=
  let x := s.port h
  let seg := fun (q : Nat) => match s.chanAt h q with
    | some c => (s.cell c).loopb && (s.cell c).onward
    | none => false
  x.split && seg x.breakPos && seg x.tailPos && (s.pb gLNK 22 || (s.chainPorts h).any (fun p => (s.port p).rejoin))

/-- RELINK starts on every port of the chains for which it is due (R253). -/
def State.startRelink (s : State) : State :=
  let ps := (List.range 32).filter (fun p => s.cellPort p && s.relinkDue (s.headPort p))
  forAll ps (fun s p => s.updPort p (fun y => { y with relink := true, rejoin := false })) s

/-- Declared fibre of a ring or chain in 0.1 m (LNK.010: 33 segments per port). -/
def State.fibre (s : State) (p : Nat) : Nat := ((List.range 33).map (fun k => s.pn gLNK 10 (33 * p + k))).sum

/-- Predicted loop time of a ring in ns (R240): fibre and one hop per cell. -/
def State.loopPred (s : State) (p : Nat) : F32 :=
  fAdd (fMul (s.pf gLNK 11) (fOfQ (s.fibre p) 10)) (fOfInt (40 * s.chainLen p))

/-- The declared fibre misses the measured loop by more than LNK.012 (R240): |k - 1| × d × Σs is the difference of the two loop
times. -/
def State.rangingBad (s : State) (p loopNs : Nat) : Bool :=
  fGt (fAbs (fSub (fOfInt loopNs) (s.loopPred p))) (fOfInt (s.pn gLNK 12))

/-- Declared fibre in 0.1 m from the head up to the cell at position `q`. -/
def State.fibreTo (s : State) (p q : Nat) : Nat := ((List.range (q + 1)).map (fun k => s.pn gLNK 10 (33 * p + k))).sum

/-- Whole ticks of T_f / 4,096, halves to even, of `num / den` ns. -/
def State.ticksOf (s : State) (num : Int) (den : Nat) : Nat := (divEven (num * 4096) (den * s.tf)).toNat

/-- Offsets for head and tail frames of the cell at position `i` of port `p` (R239, R240). -/
def State.arrivals (s : State) (p i loopNs : Nat) (delta : Int) : Nat × Nat :=
  if s.topoOf p == 1 then
    let all := s.fibre p
    let part := s.fibreTo p i
    let a := if all == 0 then s.ticksOf (40 * (i : Int)) 1
      else s.ticksOf (((loopNs : Int) - 40 * (s.chainLen p : Int)) * (part : Int) + 40 * (i : Int) * (all : Int)) all
    (a, a)
  else
    let r : Int := (loopNs : Int) - 40
    -- A_h = (T_trav - 40 ns - Δ) / 2, A_t = T_trav - 40 ns - A_h = (T_trav - 40 ns + Δ) / 2
    (s.ticksOf (r - delta) 2, s.ticksOf (r + delta) 2)

/-- Requests that write the offsets of the cell at position `pos` and read them back: a ring has the one for head frames (R241). -/
def offsetMsgs (ring : Bool) (pos : Nat) (a : Nat × Nat) : List Msg :=
  let rw := fun (adr v : Nat) =>
    [({ mtype := 4, target := pos, seq := 0, addr := adr, payload := bytesOfNat 4 v } : Msg), { mtype := 3, target := pos, seq := 0, addr := adr, payload := [] }]
  rw 0 a.1 ++ (if ring then [] else rw 4 a.2)

/-- The module is a member of an enabled twin pair and link T runs (TWN.001, R324, R331). -/
def State.twinOn (s : State) : Bool := s.pb gTWN 1 && s.lanesOn

/-- A block goes out on link T with the present frame number (R331). -/
def State.tSend (s : State) (b : TBody) : State :=
  if s.twinOn && s.link.txOn then s.modTwin (fun t => { t with txT := t.txT ++ [(s.fr, b)] }) else s

/-- A measured T_trav of the twin chain at port `p`: every cell's offsets follow it, and a LEAD writes those that have changed (R239,
R241, R256). -/
def State.setTrav (s : State) (p t : Nat) : State :=
  let s := s.updPort p (fun x => { x with ttrav := t, loopNs := t })
  forAll (s.portCells p) (fun s c =>
    let y := s.cell c
    let a := s.arrivals p y.pos t y.delta
    if a == (y.arrH, y.arrT) then s
    else (s.updCell c (fun z => { z with arrH := a.1, arrT := a.2 })).when (!s.isShadow) (fun s =>
      s.updPort p (fun x => { x with out_ := x.out_ ++ offsetMsgs false y.pos a }))) s

/-- The ranging check of a supervisory boundary, with the measured loop and traversal times. Of a twin chain twin B, which has the tail
port, measures T_trav, and passes a change of it over link T (R239, R240). -/
def State.rangingCheck (s : State) (loops : List (Nat × Nat)) : State :=
  forAll loops (fun s x =>
    if x.1 < 32 && s.cellPort x.1 then
      if s.topoOf x.1 == 4 then
        if s.twin.sideB && (s.port x.1).ttrav != x.2 then (s.setTrav x.1 x.2).tSend (.relay x.1 (some x.2) []) else s
      else
        let s := forAll (s.chainPorts x.1) (fun s p => s.updPort p (fun y => { y with loopNs := x.2, ttrav := x.2 })) s
        s.when (s.running && s.topoOf x.1 == 1 && s.rangingBad x.1 x.2) (fun s => s.rcSet 120 x.1 6)
    else s) s

/-! ### Meanings of the link's rows -/

/-- The 8 bytes of status slot `i` of a frame. -/
def slotAt (bytes : List Byte) (i : Nat) : List Byte := (bytes.drop (148 + 8 * i)).take 8

/-- A frame that port `q` sent from the tail of its chain: a tail port, or twin B (R239). -/
def State.sentFar (s : State) (q : Nat) (sideB : Bool) : Bool := if s.topoOf q == 4 then sideB else s.topoOf q == 3

/-- The usable statuses of a frame `f` that port `q` sent, with their channels and how they came (R229, R235). -/
def State.usableIn (s : State) (q f : Nat) (sideB : Bool) (base count dep : Nat) (bytes : List Byte) : List (Nat × Slot) :=
  (List.range count).filterMap (fun i =>
    if slotUsable (slotAt bytes i) (base + i) f then
      (s.chanAt q (s.posFrom q (base + i) sideB)).map (fun c =>
        (c, { slotOf (beAt (slotAt bytes i) 0 8) with far := s.sentFar q sideB, dep := dep }))
    else none)

/-- Filled status slots of a frame that fail a check (R235). -/
def rejectedIn (f base count : Nat) (bytes : List Byte) : Nat :=
  ((List.range count).filter (fun i => (slotOf (beAt (slotAt bytes i) 0 8)).filled && !slotUsable (slotAt bytes i) (base + i) f)).length

/-- The status slots of a frame that port `q` sent, by position from the head, empty where the frame has none: what both members of a pair
compare (R334, notes/assumptions/117.md). -/
def State.headSlots (s : State) (q : Nat) (sideB : Bool) (base count : Nat) (bytes : List Byte) : List (List Byte) :=
  (List.range (s.chainLen q)).map (fun h =>
    let i := s.posFrom q h sideB
    if base ≤ i && i < base + count then slotAt bytes (i - base) else [])

/-- The port has sent frame `f` lately: in the last two frames, in SPLIT in the last three, for a looped path can be late by one frame
(R252, R260). -/
def State.sentLately (s : State) (p f : Nat) : Bool := ((s.port p).sent.take (if (s.port p).split then 3 else 2)).contains f

/-- A frame number joins the latest ones. -/
def recentF (f : Nat) (l : List Nat) : List Nat := (f :: l.filter (· != f)).take 8

/-- A returned frame on port `p` (R231 to R235, R245, R260, R334, R341, R351). -/
def State.crihelFrame (s : State) (p : Nat) (bytes : List Byte) : State :=
  if !s.lanesOn || !(p < 32 && s.cellPort p) || bytes.length != 276 then s
  else
    let s := s.updPort p (fun x => { x with linkUp := true })
    let f := extendF s.fr (beAt bytes 0 4)
    if misaligned s.fr f || !s.sentLately p f then
      s.updPort p (fun x => { x with cMis := wrap32 (x.cMis + 1) })
    else
      let crcOk := crc32 (bytes.take 144) == BitVec.ofNat 32 (beAt bytes 144 4)
      let w1 := beAt bytes 4 4
      let w2 := beAt bytes 8 4
      let sideB := w1.testBit 7
      let lead := !w1.testBit 6
      let q := if s.topoOf p == 4 then p else w1 % 32
      let base := w2 / 128 % 32
      let count := min 16 (w2 / 4 % 32)
      let sl := s.headSlots q sideB base count bytes
      let d := (crc32 (sl.flatMap (fun b => (b ++ List.replicate 8 0).take 7))).toNat
      let ok := s.usableIn q f sideB base count (beAt bytes 12 4 / 1024 % 4096) bytes
      let partner := s.pb gTWN 1 && sideB != s.twin.sideB
      let s := s.updPort p (fun x => { x with
        got := true, cCrc := if crcOk then x.cCrc else wrap32 (x.cCrc + 1), cRej := wrap32 (x.cRej + rejectedIn f base count bytes)
        dig := some d, slots := sl.map (fun b => slotOf (beAt b 0 8)) })
      let s := s.when (!crcOk) (fun s => s.rcSet 120 p 2)
      let s := s.when (partner && crcOk) (fun s =>
        let inTime := decide (s.fr * s.tf < f * s.tf + 6000)
        s.modTwin (fun t => { t with
          gotC := if inTime then recentF f t.gotC else t.gotC, lostC := t.lostC && !inTime, hbF := max t.hbF f, leadF := if lead then max t.leadF f else t.leadF
          seenLead := if lead then t.seenLead ++ [w1 / 65536] else t.seenLead }))
      let s := s.when s.isShadow (fun s => s.tSend (.digests [(p, d)]))
      -- own frames that a shadow gets back come from cells beyond a break: their statuses go to the lead
      let s := s.when (s.isShadow && s.topoOf p == 4 && !partner && !ok.isEmpty) (fun s => s.tSend (.relay p none ok))
      s.modLink (fun l => { l with stq := l.stq ++ ok.map (fun x => (f, x)) })

/-- CRIHEL_RETURN_FRAME (R234, R235, R255, R260). -/
def execCrihelReturnFrame (p : Nat) (bytes : List Byte) (s : State) : Host.Outcome State Fault Refusal := .next (s.crihelFrame p bytes)

/-- RETURN_FRAME_MISSING (R260): no returned frame of the port has completed by its deadline. -/
def execReturnFrameMissing (p : Nat) (s : State) : Host.Outcome State Fault Refusal :=
  .next (if s.awake && p < 32 && s.cellPort p && !(s.port p).got && !(s.port p).sent.isEmpty then
      s.updPort p (fun x => { x with cMiss := wrap32 (x.cMiss + 1), got := true, linkUp := false })
    else s)

/-- LINK_LOSS (R261): a cell of the port has returned no usable status for LNK.020 consecutive frames. -/
def execLinkLoss (p : Nat) (s : State) : Host.Outcome State Fault Refusal :=
  .next (if p < 32 && (s.portCells p).any (fun c => decide (s.pn gLNK 20 ≤ (s.cell c).noStat)) then
      s.updPort p (fun x => { x with loss := true })
    else s)

/-- A read-back of an offset that is refused, or differs from what was written, is an identity failure of the cell (R241). -/
def State.readBack (s : State) (p : Nat) (req m : Msg) : State :=
  if req.mtype != 3 || !(req.addr == 0 || req.addr == 4) then s
  else match s.chanAt p (s.posFrom p req.target s.twin.sideB) with
    | some c =>
      let own := if req.addr == 0 then (s.cell c).arrH else (s.cell c).arrT
      if m.addr == 0 && beAt m.payload 0 4 == own then s else s.updCell c (fun y => y.exclude (fun z => { z with exIdent := true }))
    | none => s

/-- MESSAGE_REPLY (R241, R254, R256): the reply restores the credit of its request; a reply to a written-off request is discarded. -/
def execMessageReply (p : Nat) (m : Msg) (s : State) : Host.Outcome State Fault Refusal :=
  .next (match (s.port p).reqs.find? (fun r => r.1 == m.seq && m.mtype == r.2.2.mtype + 0x80) with
    | some r => (s.updPort p (fun x => { x with credits := min 8 (x.credits + 1), reqs := x.reqs.filter (fun r => r.1 != m.seq) })).readBack p r.2.2 m
    | none => s)

/-- MSG_TIMEOUT (R256): at a supervisory boundary a request unanswered for LNK.021 frames is written off. -/
def execMsgTimeout (p seq : Nat) (s : State) : Host.Outcome State Fault Refusal :=
  .next (if s.isSup s.fr && (s.port p).reqs.any (fun r => r.1 == seq && decide (r.2.1 + s.pn gLNK 21 ≤ s.fr)) then
      (s.updPort p (fun x => { x with credits := min 8 (x.credits + 1), reqs := x.reqs.filter (fun r => r.1 != seq),
                                      cOff := wrap32 (x.cOff + 1) })).rcSet 120 p 4
    else s)

end Sys2Proof.Machine
end

