-- ==== Sys2Proof/Machine/Nest.lean ====
section
/-!
DEFINITION. Nest links, division of a grant and the credit books (chapter 07, R265 to R280, R289).
-/
namespace Sys2Proof.Machine
open Sys2Proof

/-! ### Reading nest frames (R269) -/

/-- Signed number of `bits` bits. -/
def sgn (bits n : Nat) : Int := if n ≥ 2 ^ (bits - 1) then (n : Int) - (2 : Int) ^ bits else n

/-- Header of a nest frame (R232, R269). -/
def nestHdr (b : List Byte) : NestHdr :=
  let w1 := beAt b 4 4
  let w2 := beAt b 8 4
  { fnum := beAt b 0 4, lepoch := w1 / 65536, nodeId := w1 / 256 % 256, sideB := w1.testBit 7, shadow := w1.testBit 6,
    ready := w1.testBit 5, port := w1 % 32 + (if w2.testBit 7 then 32 else 0), ftype := w2 / 2 ^ 28, fper := w2 / 2 ^ 26 % 4, childIdx := w2 / 65536 % 256, dsub := w2 / 256 % 256, digest := beAt b 12 4 }

/-- The last four bytes are the CRC-32 of the rest. -/
def crcTail (b : List Byte) : Bool := crc32 (b.take (b.length - 4)) == BitVec.ofNat 32 (beAt b (b.length - 4) 4)

/-- NEST_DOWN, 44 bytes. -/
def downOf (own : Nat) (b : List Byte) : DownRep :=
  let c := beAt b 20 4
  { applyF := extendF own (beAt b 16 4), valid := c.testBit 31, demand := c.testBit 30, two := c.testBit 29, ack := c / 2 ^ 25 % 16,
    xtrig := c % 65536, grant0 := sgn 32 (beAt b 24 4), vref0 := sgn 32 (beAt b 28 4), grant1 := sgn 32 (beAt b 32 4),
    vref1 := sgn 32 (beAt b 36 4) }

/-- Arm section of NEST_UP, 52 bytes from offset `k`. -/
def secOf (b : List Byte) (k : Nat) : ArmSec :=
  let f := beAt b (k + 12) 2
  { nLo := sgn 16 (beAt b k 2), nHi := sgn 16 (beAt b (k + 2) 2), inserted := sgn 32 (beAt b (k + 4) 4),
    returned := sgn 32 (beAt b (k + 8) 4), dirPos := f.testBit 0, blocked := f.testBit 1, healthy := beAt b (k + 14) 2,
    vavg := beAt b (k + 16) 2, energy := BitVec.ofNat 32 (beAt b (k + 20) 4), fault := BitVec.ofNat 32 (beAt b (k + 24) 4),
    digest := beAt b (k + 28) 8, total := sgn 64 (beAt b (k + 36) 8), cum := sgn 64 (beAt b (k + 44) 8) }

/-- NEST_UP, 168 bytes. -/
def upOf (own : Nat) (b : List Byte) : UpRep :=
  let c := beAt b 24 4
  { epoch := extendF own (beAt b 16 4), creditF := extendF own (beAt b 20 4), incomplete := c.testBit 31, lost := c.testBit 30,
    two := c.testBit 29, cumReset := c.testBit 28, resetCount := c / 2 ^ 24 % 16, xtrig := c % 65536, arm0 := secOf b 28,
    arm1 := if c.testBit 29 then secOf b 80 else {}
    missing := (List.range 256).filter (fun k => (beAt b 132 32).testBit k) }

/-! ### Writing nest frames (R232, R269) -/

/-- A signed number as its low `bits` bits. -/
def uns (bits : Nat) (n : Int) : Nat := (n % (2 : Int) ^ bits).toNat

/-- The 256 bits of a set of node identifiers, bit 255 first (R269). -/
def nodeBits (l : List Nat) : List Byte := bytesOfNat 32 ((l.eraseDups.filter (fun n => n < 256)).map (fun n => 2 ^ n)).sum

/-- The four header words of a nest frame. -/
def NestHdr.bytes (h : NestHdr) : List Byte :=
  let w1 := (h.lepoch % 65536) * 65536 + (h.nodeId % 256) * 256 + h.sideB.toNat * 128 + h.shadow.toNat * 64 + h.ready.toNat * 32 + h.port % 32
  let w2 := h.ftype * 2 ^ 28 + h.fper * 2 ^ 26 + h.childIdx * 65536 + h.dsub * 256 + (decide (32 ≤ h.port)).toNat * 128
  bytesOfNat 4 (h.fnum % 2 ^ 32) ++ bytesOfNat 4 w1 ++ bytesOfNat 4 w2 ++ bytesOfNat 4 h.digest

/-- A frame with its CRC-32 at the end. -/
def withCrc (b : List Byte) : List Byte := b ++ bytesOfNat 4 (crc32 b).toNat

/-- NEST_DOWN, 44 bytes. -/
def downBytes (h : NestHdr) (d : DownRep) : List Byte :=
  let c := d.valid.toNat * 2 ^ 31 + d.demand.toNat * 2 ^ 30 + d.two.toNat * 2 ^ 29 + (d.ack % 16) * 2 ^ 25 + d.xtrig % 65536
  withCrc (h.bytes ++ bytesOfNat 4 (d.applyF % 2 ^ 32) ++ bytesOfNat 4 c ++ bytesOfNat 4 (uns 32 d.grant0) ++ bytesOfNat 4 (uns 32 d.vref0) ++
    bytesOfNat 4 (uns 32 d.grant1) ++ bytesOfNat 4 (uns 32 d.vref1))

/-- Arm section of NEST_UP, 52 bytes. -/
def ArmSec.bytes (x : ArmSec) : List Byte :=
  bytesOfNat 2 (uns 16 x.nLo) ++ bytesOfNat 2 (uns 16 x.nHi) ++ bytesOfNat 4 (uns 32 x.inserted) ++ bytesOfNat 4 (uns 32 x.returned) ++
    bytesOfNat 2 (x.dirPos.toNat + x.blocked.toNat * 2) ++ bytesOfNat 2 x.healthy ++ bytesOfNat 2 x.vavg ++ bytesOfNat 2 0 ++ bytesOfNat 4 x.energy.toNat ++
    bytesOfNat 4 x.fault.toNat ++ bytesOfNat 8 x.digest ++ bytesOfNat 8 (uns 64 x.total) ++ bytesOfNat 8 (uns 64 x.cum)

/-- NEST_UP, 168 bytes. -/
def upBytes (h : NestHdr) (r : UpRep) : List Byte :=
  let c := r.incomplete.toNat * 2 ^ 31 + r.lost.toNat * 2 ^ 30 + r.two.toNat * 2 ^ 29 + r.cumReset.toNat * 2 ^ 28 + (r.resetCount % 16) * 2 ^ 24 + r.xtrig % 65536
  withCrc (h.bytes ++ bytesOfNat 4 (r.epoch % 2 ^ 32) ++ bytesOfNat 4 (r.creditF % 2 ^ 32) ++ bytesOfNat 4 c ++ r.arm0.bytes ++
    (if r.two then r.arm1.bytes else List.replicate 52 0) ++
    nodeBits r.missing)

/-- Rank of a port for R267: N0 to N3, then P00 to P31. Ports are numbered 0 to 31 P, 32 to 35 N. -/
def portRank (p : Nat) : Nat := if p ≥ 32 then p - 32 else p + 4

/-- Digest of this module's topology section (R594). -/
def State.topoDigest (s : State) : Nat := (s.sys.slots.getD (if s.sys.runB then 1 else 0) Slot_.reset).topo

/-- Epoch `a` is newer than epoch `b` (R32). -/
def newerEp (a b : Nat) : Bool := let d := (a + 65536 - b % 65536) % 65536; 1 ≤ d && d ≤ 32767

/-- The copy of a frame is of the member that R243 and R245 would obey (R268). -/
def Nst.obeys (n : Nst) (h : NestHdr) (f : Nat) : Bool :=
  let old := match n.leadEp with
    | some e => newerEp e h.lepoch
    | none => false
  if !h.shadow then
    !old && (match n.gotNow, n.leadEp with
      | some _, some e => newerEp h.lepoch e || !h.sideB || n.side == h.sideB || n.leadF != f
      | _, _ => true)
  else h.ready && n.leadEp == some h.lepoch && n.leadF + 3 ≤ f

/-- What the link record notes of a copy that is taken (R21, R28, R268, DIA.140). -/
def Nst.taken (n : Nst) (h : NestHdr) (f rank : Nat) (second : Bool) : Nst :=
  { n with gotNow := some rank
           second := second
           leadEp := if h.shadow then n.leadEp else some h.lepoch
           leadF := if h.shadow then n.leadF else f
           side := h.sideB, topoBad := false, dsub := h.dsub }

/-- A new copy is the one to take: none was taken in this frame, it comes from another member, or its port ranks before that of the copy
taken (R21, R267, R268). -/
def Nst.fresh (n : Nst) (h : NestHdr) (rank : Nat) : Bool :=
  (match n.gotNow with | some r => decide (rank < r) | none => true) || n.side != h.sideB

/-! ### Elements and credits (R271 to R273, R276 to R278, R595) -/

/-- Height of a node's subtree: 0 for ARM, one more than its highest child for any other (R269). -/
def heightOf (nodes : List TopoNode) : Nat → Nat → Nat
  | 0, _ => 0
  | k + 1, id => ((nodes.filter (fun n => n.parent == id && n.id != id)).map (fun n => heightOf nodes k n.id + 1)).foldl max 0

/-- Height of this module's subtree. -/
def State.height (s : State) : Nat := heightOf s.nodes 16 (s.pn gSYS 2)

/-- A cell reports a voltage above PRT.025 of its rating while not excluded (source 5). -/
def State.ovCell (s : State) (c : Cell) : Bool := c.fresh && !c.excluded && decide (s.pn gPRT 25 * c.ratedV < 100 * c.vcap)
/-- A cell reports a voltage below PRT.026 of its rating while not excluded (source 6). -/
def State.uvCell (s : State) (c : Cell) : Bool := c.fresh && !c.excluded && decide (100 * c.vcap < s.pn gPRT 26 * c.ratedV)

/-- Bramble source `k` is raised. -/
def State.srcUp (s : State) (k : Nat) : Bool := s.prot.raised.getD k false

/-- Fault summary of owned arm `a` (fault summary table, R318). -/
def State.faultSum (s : State) (a : Nat) : Word :=
  let cs := (s.channels a).map s.cell
  let ports := (List.range 32).filter s.cellPort
  bitAt (cs.any (fun c => c.cmd.st == .block)) 0 ||| bitAt (cs.any Cell.excluded) 1 ||| bitAt (cs.any (fun c => c.desat)) 2 |||
  bitAt ((s.srcUp 5 && cs.any s.ovCell) || (s.srcUp 6 && cs.any s.uvCell)) 3 ||| bitAt (ports.any (fun p => s.srcUp (32 + p))) 4 |||
  bitAt (ports.any (fun p => (s.port p).split)) 5 ||| bitAt (s.srcUp 12) 7 ||| bitAt (s.srcUp 14) 8 |||
  bitAt (s.pb gTWN 1 && !(if s.twin.shadow then s.twin.ready else s.twin.pReady)) 9 |||
  bitAt ((s.armS a).driftAl || s.srcUp 18) 10 ||| bitAt (s.armS a).lostRec 11 ||| bitAt (s.srcUp 7 || s.srcUp 8) 12 |||
  bitAt (s.srcUp 17) 13

/-- The arm section of a leaf at a boundary (R198, R276, R284, R285, R595). -/
def State.leafSec (s : State) (a : Nat) : ArmSec :=
  let x := s.armS a
  let b := x.books.headD (0, 0, 0, true)
  { s.armSec a with
    inserted := b.2.1, returned := b.2.2.1, dirPos := x.dirPos, blocked := x.blkPrev, vavg := s.leafVavg a
    fault := s.faultSum a, digest := s.ledgerDigest a, total := x.total, cum := x.cum }

/-- Children whose report for the tag is held, with the report (R273). -/
def State.tagged (s : State) (tag : Nat) : List (Nat × UpRep) := s.kidIdx.filterMap (fun i => (s.kidRep i tag).map (fun r => (i, r)))

/-- Accounted total of arm section `j` of child `i` in a report (R280). -/
def State.accounted (s : State) (i j : Nat) (r : UpRep) : Int := (s.kid i).ofs.getD j 0 + (r.sec j).cum

/-- The element that an AGGREGATOR forms for a tag (R273). -/
def State.aggRep (s : State) (tag : Nat) : UpRep :=
  let l := s.tagged tag
  let secs := l.map (fun p => p.2.arm0)
  let absent := s.kidIdx.filter (fun i => !l.any (fun p => p.1 == i))
  let hl := (secs.map (·.healthy)).sum
  let own := s.nest.ownCred.find? (fun o => o.1 == tag + 2)
  let sec : ArmSec :=
    { nLo := (secs.map (·.nLo)).sum, nHi := (secs.map (·.nHi)).sum, inserted := (secs.map (·.inserted)).sum
      returned := (secs.map (·.returned)).sum + ((own.map (·.2.1)).getD 0)
      dirPos := (secs.head?.map (·.dirPos)).getD false, blocked := secs.any (·.blocked), healthy := hl
      vavg := if hl == 0 then 0 else (divEven ((secs.map (fun x => x.vavg * x.healthy)).sum : Nat) hl).toNat
      energy := (secs.map (·.energy)).foldl fAdd 0
      fault := secs.foldl (fun w x => w ||| x.fault) (bitAt (s.kidIdx.any (fun i => (s.kid i).loss)) 6)
      digest := (crc64 (secs.flatMap (fun x => bytesOfNat 8 x.digest))).toNat
      total := (secs.map (·.total)).sum
      cum := (l.map (fun p => s.accounted p.1 0 p.2 - (s.kid p.1).base.getD 0)).sum }
  { epoch := tag, creditF := tag + 2, incomplete := !absent.isEmpty
    lost := ((own.map (·.2.2)).getD true) || l.any (fun p => p.2.lost) || !absent.isEmpty
    arm0 := sec, missing := absent.map (fun i => s.pn gNST 3 i) ++ l.flatMap (fun p => p.2.missing) }

/-- ARM of the newest NEST_UP of every child is set (DIA.190 [10], XTRIG). -/
def State.kidsArmed (s : State) : Bool :=
  s.kidIdx.all (fun i => match (s.kid i).reps.head? with | some r => r.xtrig.testBit 14 | none => false)
/-- TREE_ARMED: there is a child, and every child's ARM is set. -/
def State.treeArmed (s : State) : Bool := !s.kidIdx.isEmpty && s.kidsArmed

/-- XTRIG of the frames of this boundary on a link: 0 to 31 a child, 32 the parent (chapter 11). -/
def State.xtrig (s : State) (link : Nat) : Nat :=
  let armed := s.acq.st != .disarmed
  let up := armed && s.kidsArmed
  (if (if link == 32 then up else armed) then 2 ^ 14 else 0) +
  (match s.nest.fire with
   | some (h, o, l) => if l == link then 0 else 2 ^ 15 + h * 256 + o
   | none => 0)

/-- The report sent to the parent at the present boundary (R271 to R273, R276, R277, R280). -/
def State.upRep (s : State) : UpRep :=
  let base : UpRep :=
    if s.role == .aggregator then s.aggRep (s.fr - s.height)
    else { epoch := s.fr, creditF := s.fr + 2,
           lost := (List.range s.nArms).any (fun a => match (s.armS a).books.head? with | some b => b.2.2.2 | none => true)
           two := s.nArms == 2, arm0 := s.leafSec 0, arm1 := if s.nArms == 2 then s.leafSec 1 else {} }
  { base with cumReset := s.nest.resetCount != s.nest.parentAck, resetCount := s.nest.resetCount, xtrig := s.xtrig 32 }

/-! ### Division of a grant (R275) -/

/-- One eligible child in the division. -/
structure Share where
  i    : Nat
  cap  : Nat
  vavg : Nat
  n    : Nat
deriving DecidableEq, Repr

/-- Order of R275: by VAVG, ascending when charging, ties to the lower index. -/
def shareOrder (charging : Bool) (l : List Share) : List Share :=
  l.mergeSort (fun a b => if a.vavg == b.vavg then a.i ≤ b.i else if charging then a.vavg < b.vavg else b.vavg < a.vavg)

/-- Changes the share of child `i`. -/
def shareAdd (l : List Share) (i : Nat) (f : Nat → Nat) : List Share := l.map (fun x => if x.i == i then { x with n := f x.n } else x)

/-- The moves of R275. -/
def shareMoves (charging : Bool) (band : Nat) : Nat → List Share → List Share
  | 0, l => l
  | k + 1, l =>
    let o := shareOrder charging l
    match o.find? (fun x => x.n < x.cap), o.reverse.find? (fun x => 0 < x.n) with
    | some b, some w =>
      if b.i == w.i || (max w.vavg b.vavg - min w.vavg b.vavg) ≤ band then l
      else shareMoves charging band k (shareAdd (shareAdd l b.i (· + 1)) w.i (· - 1))
    | _, _ => l

/-- Shares of `k` levels and what stays unassigned (R275). -/
def divide (charging : Bool) (band budget k : Nat) (l : List Share) : List Share × Nat :=
  let t := (l.map (·.cap)).sum
  if k ≥ t then (l.map (fun x => { x with n := x.cap }), k - t)
  else
    let l1 := l.map (fun x => { x with n := k * x.cap / t })
    let rem := k - (l1.map (·.n)).sum
    let first := ((shareOrder charging (l1.filter (fun x => x.n < x.cap))).take rem).map (·.i)
    let l2 := l1.map (fun x => if first.contains x.i then { x with n := x.n + 1 } else x)
    (shareMoves charging band budget l2, 0)

/-- Children of an AGGREGATOR that are eligible at the present boundary, with their newest section (chapter 07, division). -/
def State.eligible (s : State) : List (Nat × ArmSec) :=
  s.kidIdx.filterMap (fun i =>
    match (s.kid i).reps.head? with
    | some r => if s.fr ≤ r.epoch + 1 + (s.kid i).dsub + s.pn gNST 12 then some (i, r.arm0) else none
    | none => none)

/-- Grants of an AGGREGATOR's children for a grant `n`, and its own returned credits (R275). -/
def State.division (s : State) (n : Int) : List (Nat × Int) × Int :=
  let el := s.eligible
  let dir := (el.head?.map (fun p => p.2.dirPos)).getD false
  let charging := if n ≥ 0 then dir else !dir
  let l := el.map (fun p => ({ i := p.1, cap := (if n ≥ 0 then p.2.nHi else -p.2.nLo).toNat, vavg := p.2.vavg, n := 0 } : Share))
  let r := divide charging (s.pn gNST 30) (s.pn gNST 31) n.natAbs l
  let sg : Int := if n ≥ 0 then 1 else -1
  (s.kidIdx.map (fun i => (i, sg * ((((r.1.find? (fun x => x.i == i)).map (·.n)).getD 0 : Nat) : Int))), sg * (r.2 : Int))

/-! ### The nest work of a frame boundary -/

/-- Links are judged at a boundary: a frame taken in the frame that ended, or a loss (R21, R289, DIA.140, DIA.143). -/
def Nst.boundary (child : Bool) (n : Nst) : Nst :=
  if n.gotNow.isSome then
    { n with okNow := true, gotNow := none, miss := 0, okRun := min 255 (n.okRun + 1), loss := n.loss && n.okRun + 1 < 16 }
  else { n with okNow := false, miss := min 255 (n.miss + 1), okRun := 0, lostUp := if child then wrap32 (n.lostUp + 1) else n.lostUp }

/-- What the parent's frame of this boundary gives: a leaf keeps the grant for its apply frame, an AGGREGATOR holds it for division
(R42, R274, R277). -/
def State.nestHold (s : State) : State :=
  if !s.awake then s
  else
    let got := s.hasParent && s.nest.par.gotNow.isSome
    let s := s.modNest (fun n => { n with
      kids := n.kids.mapIdx (fun i k => if s.pn gNST 3 i != 0 then k.boundary true else k)
      par := if s.hasParent then n.par.boundary false else n.par
      held := if got then n.down else none })
    match s.nest.held with
    | some d =>
      if s.role == .arm && d.valid then
        (s.updArm 0 (fun x => { x with grants := x.grants ++ [(d.applyF, d.grant0, d.vref0)] })).updArm 1
          (fun x => if d.two then { x with grants := x.grants ++ [(d.applyF, d.grant1, d.vref1)] } else x)
      else s
    | none => s

/-- The root's level commands of this boundary; those of a COMPACT module go to its own selection (R177 to R179, R279). -/
def State.levelIssue (s : State) : State :=
  if !(s.isRoot && s.engOn) then s
  else
    let m := s.fr + s.hmax + 3
    forAll s.convArms (fun s a =>
      let r := s.refA a
      let v := r.v s.nc m
      let s := s.when (s.role == .compact && s.pn gARM 1 a == 2) (fun s => s.pscModulate a m v)
      let l := s.levelCmd a v (s.pscCount a m)
      let s := s.when l.2.1 (fun s => s.rcSet 100 a 12)
      let s := s.when l.2.2 (fun s => s.rcSet 100 a 13)
      let s := s.updRef a (fun r => { r with issued := (m, l.1, v) :: r.issued, cum := r.cum + l.1 })
      s.when (s.role == .compact) (fun s => s.updArm a (fun x => { x with grants := x.grants ++ [(m, l.1, v)] }))) s

/-- Level that the root issued to arm `a` for frame `m`, 0 where it issued none. -/
def RefA.levelAt (r : RefA) (m : Nat) : Int := ((r.issued.find? (fun x => x.1 == m)).map (fun x => x.2.1)).getD 0

/-- Arm currents and average voltages of the owned arms are latched (R181, R182). -/
def State.armLatches (s : State) : State := if s.isLeaf && s.engOn then forAll (List.range s.nArms) State.armLatch s else s

/-- Selection of every owned arm for apply frame `m = X + 3` (R192, R598). -/
def State.selectAll (s : State) : State :=
  if !(s.isLeaf && s.engOn) then s
  else
    let m := s.fr + 3
    forAll (List.range s.nArms) (fun s a =>
      let g := ((s.armS a).grants.find? (fun x => x.1 == m)).map (·.2)
      let s := s.selectArm a m g (s.armS a).blkPrev
      s.updArm a (fun x => { x with grants := x.grants.filter (fun y => m < y.1) })) s

/-- Commands of every owned arm for apply frame `m = X + 2` (R210 to R216, R276). -/
def State.formAll (s : State) : State :=
  if !(s.isLeaf && s.engOn) then s else forAll (List.range s.nArms) (fun s a => s.formArm a (s.fr + 2)) s

/-- Sum of the levels issued after frame `m` since the entry into READY (R279). -/
def RefA.after (r : RefA) (m : Nat) : Int := ((r.issued.filter (fun x => m < x.1 && r.since ≤ x.1)).map (fun x => x.2.1)).sum

/-- Newest accounted total of arm `a` at the root, its apply frame and whether that report is LOST; none where nothing is held. -/
def State.armAcc (s : State) (a : Nat) : Option (Int × Nat × Bool × Int) :=
  if s.role == .compact then
    (s.armS a).books.head?.map (fun b => ((s.armS a).cum, b.1, b.2.2.2, b.2.1 + b.2.2.1))
  else match s.kidOf a with
    | some (i, j) => (s.kid i).reps.head?.map (fun r =>
        (s.accounted i j r, r.creditF, r.lost, (r.sec j).inserted + (r.sec j).returned))
    | none => none

/-- The credit check of a boundary (R278), and what it notes for the reconciliation (R279). -/
def State.creditCheck (s : State) : State :=
  if !(s.isRoot && s.engOn) then s
  else
    forAll s.convArms (fun s a =>
      let now := s.role == .compact || (match s.kidOf a with | some (i, _) => (s.kid i).okNow | none => false)
      match s.armAcc a with
      | some (acc, m, lost, sum) =>
        let r := s.refA a
        let n := r.levelAt m
        let bad := now && !lost && n != sum
        let s := s.updRef a (fun x =>
          { x with mis := bad, acc := acc, accF := m
                   lostN := if now && lost then wrap32 (x.lostN + 1) else x.lostN
                   lostNow := if now && lost then x.lostNow + 1 else x.lostNow
                   lostA := if now && lost && x.lostNow == 0 then m else x.lostA
                   lostB := if now && lost then m else x.lostB
                   issued := x.issued.filter (fun y => decide (m ≤ y.1) || decide (s.fr < y.1 + 64)) })
        if bad then
          let s := s.audit 0x31 {} a n sum m
          match s.kidOf a with
          | some (i, _) => s.when (s.role == .pole) (fun s => s.rcSet 140 i 3)
          | none => s
        else s
      | none => s) s

/-- The reconciliation of a supervisory boundary (R279). -/
def State.reconcile (s : State) : State :=
  if !(s.isRoot && s.engOn) then s
  else
    forAll s.convArms (fun s a =>
      match s.armAcc a with
      | some (acc, m, _, _) =>
        let r := s.refA a
        let d := r.cum - r.after m - acc
        if d != 0 || r.lostNow != 0 then
          (s.audit 0x31 {} a m d r.lostNow 0 [] [[(r.lostA : Int), (r.lostB : Int)]]).updRef a (fun x =>
            { x with recon := x.recon + d, reconN := wrap32 (x.reconN + 1), cum := x.cum - d, lostNow := 0 })
        else s
      | none => s) s

/-- Header of a nest frame of this boundary on port `p` (R232, R269, R594). -/
def State.nestHeader (s : State) (p ftype childIdx dsub : Nat) : NestHdr :=
  let tw := s.pb gTWN 1
  { fnum := s.fr % 2 ^ 32, lepoch := if tw then s.twin.epoch else 0, nodeId := s.pn gSYS 2, sideB := tw && s.twin.sideB, shadow := s.isShadow
    ready := s.isShadow && s.twin.ready, port := p, ftype := ftype, fper := s.pn gSYS 4, childIdx := childIdx, dsub := dsub, digest := s.topoDigest }

/-- This module's index in its parent's table, as the topology section gives it (CHILD_IDX). -/
def State.childIdx (s : State) : Nat := ((s.nodes.find? (fun n => n.id == s.pn gSYS 2)).map (·.childIdx)).getD 0

/-- Bytes of the nest frames sent at the latest boundary, by port (R269, R337). -/
def State.nestOut (s : State) : List (Nat × List Byte) :=
  s.nest.txNest.filterMap (fun x =>
    if x.2.ftype == 4 then (s.nest.txDown.find? (fun d => d.1 == x.2.childIdx)).map (fun d => (x.1, downBytes x.2 d.2))
    else s.nest.txUp.map (fun r => (x.1, upBytes x.2 r)))

/-- The NEST_DOWN frames of this boundary (R270, R274, R275, R277, R280, R309). -/
def State.sendDown (s : State) : State :=
  let s := s.modNest (fun n => { n with txNest := [], txDown := [] })
  if !s.awake || s.kidIdx.isEmpty then s
  else
    let demandIn := s.role == .aggregator && (match s.nest.held with | some d => d.demand | none => s.nest.par.demand)
    let frame := fun (i : Nat) (d : DownRep) => (i, { d with
      ack := (s.kid i).ack, xtrig := s.xtrig i, demand := !s.running || s.kidBlocked i || demandIn })
    let none0 : DownRep := { applyF := s.fr + s.hmax + 3 - s.depth, valid := false, demand := false, two := false, ack := 0, xtrig := 0,
                             grant0 := 0, vref0 := 0, grant1 := 0, vref1 := 0 }
    let plan : List (Nat × DownRep) × Option (Nat × Int × Bool) :=
      if s.role == .pole then
        if !s.engOn then (s.kidIdx.map (fun i => (i, none0)), none)
        else
          let m := s.fr + s.hmax + 3
          let gv := fun (a : Nat) => (((s.refA a).issued.find? (fun x => x.1 == m)).map (·.2)).getD (0, 0)
          (s.kidIdx.map (fun i =>
            let a0 := gv (s.pn gNST 4 (2 * i))
            let two := s.kidArms i == 2
            let a1 := if two then gv (s.pn gNST 4 (2 * i + 1)) else (0, 0)
            (i, { none0 with applyF := m, valid := true, two := two, grant0 := a0.1, vref0 := a0.2, grant1 := a1.1, vref1 := a1.2 })), none)
      else match s.nest.held with
        | some d =>
          if d.valid && s.engOn then
            let q := s.division d.grant0
            (q.1.map (fun g => (g.1, { none0 with applyF := d.applyF, valid := true, grant0 := g.2, vref0 := d.vref0 })),
              some (d.applyF, q.2, false))
          else (s.kidIdx.map (fun i => (i, none0)), some (none0.applyF, 0, true))
        | none => (s.kidIdx.map (fun i => (i, none0)), some (none0.applyF, 0, true))
    let tx := if s.txGo then plan.1.map (fun p => frame p.1 p.2) else []
    let s := s.modNest (fun n => { n with
      txDown := tx
      txNest := tx.flatMap (fun d => (s.kidPorts d.1).map (fun p => (p, s.nestHeader p 4 d.1 0)))
      kids := n.kids.mapIdx (fun i k => match tx.find? (fun p => p.1 == i) with | some p => { k with demand := p.2.demand } | none => k)
      ownCred := match plan.2 with
        | some c => (c :: n.ownCred).take 64
        | none => n.ownCred })
    let s := match plan.2 with
      | some (_, _, true) => s.updRef 0 (fun r => { r with lostN := wrap32 (r.lostN + 1) })
      | _ => s
    forAll (plan.1.filter (fun p => !p.2.valid)) (fun s p => s.rcSet 140 p.1 5) s

/-- The NEST_UP frame of this boundary (R271); none without a valid topology section (R491). -/
def State.sendUp (s : State) : State :=
  if s.awake && s.hasParent && s.sys.run.isSome then
    s.modNest (fun n => { n with
      txUp := if s.txGo then some s.upRep else none
      txNest := n.txNest ++ (if s.txGo then s.parPorts.map (fun p => (p, s.nestHeader p 5 s.childIdx s.height)) else []) })
  else s

/-- Accounted total that an AGGREGATOR's own CUM_ACCOUNTED leaves out of a child: what the newest report held says; where none is held, the
next report tells it (R280). -/
def Nst.opened (k : Nst) : Nst := { k with base := k.reps.head?.map (fun r => k.ofs.getD 0 0 + r.arm0.cum) }

/-- An entry into READY: books are opened anew, the direction of arm current is negative (R182, R279, R280). -/
def State.openBooks (s : State) : State :=
  (s.modNest (fun n => { n with resetCount := (n.resetCount + 1) % 16, kids := n.kids.map Nst.opened })).modArm
    (fun a => { a with
      arms := a.arms.map (fun x => { x with cum := 0, dirPos := false })
      refs := a.refs.map (fun r => { r with cum := 0, since := s.fr + s.hmax + 4, lostNow := 0 }) })

/-! ### Taking nest frames -/

/-- The shadow sends the digest `d` of the frame accepted on a link as it arrives: 64 + i for child i, 96 for the parent (R334). -/
def State.twinDigest (s : State) (item d : Nat) : State := if s.isShadow then s.tSend (.digests [(item, d)]) else s

/-- A frame on a nest port shows 8b/10b sync (DIA.120 LINK_UP). -/
def State.nestSync (s : State) (port : Nat) : State := if port < 32 then s.updPort port (fun x => { x with linkUp := true }) else s

/-- The link to child `i` of a nest port. -/
def State.kidOfPort (s : State) (port : Nat) : Option Nat := s.kidIdx.find? (fun i => (s.kidPorts i).contains port)

/-- A NEST_DOWN frame arrives from the parent (R21, R23, R28, R267, R268, R270). -/
def State.nestDownTake (s : State) (port : Nat) (b : List Byte) : State × Bool :=
  if !(s.lanesOn && s.hasParent && s.parPorts.contains port && b.length == 44 && crcTail b) then (s, false)
  else
    let s := s.nestSync port
    let h := nestHdr b
    let f := extendF s.fr h.fnum
    let par := s.nest.par
    if h.ftype != 4 then (s, false)
    else if misaligned s.fr f then (s.modNest (fun n => { n with par := { n.par with cMis := wrap32 (n.par.cMis + 1) } }), false)
    else if h.digest != s.topoDigest then (s.modNest (fun n => { n with par := { n.par with topoBad := true } }), false)
    else if !(par.obeys h f && par.fresh h (portRank port)) then (s, false)
    else
      let new := par.gotNow.isNone
      let second := s.parPorts.any (fun p => portRank p < portRank port)
      let d := downOf s.fr b
      let s := s.modNest (fun n => { n with
        par := { n.par.taken h f (portRank port) second with demand := d.demand, dsub := 0, dig := some (crc32 b).toNat, bytes := b }
        down := some d, parentAck := d.ack })
      ((s.twinDigest 96 (crc32 b).toNat).when (!d.valid) (fun s => s.rcSet 140 32 5), new)

/-- A child's reset report is acted on once (R280). The span not reported counts as lost at the root. -/
def State.resetAck (s : State) (i : Nat) (r : UpRep) : State :=
  let k := s.kid i
  if r.cumReset && r.resetCount != k.ack then
    let prev := k.reps.head?
    let s := s.updKid i (fun k => { k with
      ack := r.resetCount
      ofs := [k.ofs.getD 0 0 + k.lastCum.getD 0 0, k.ofs.getD 1 0 + k.lastCum.getD 1 0] })
    match prev with
    | some p =>
      let n := r.creditF - p.creditF - 1
      if s.role == .pole && n > 0 then
        forAll (List.range (s.kidArms i)) (fun s j => s.updRef (s.pn gNST 4 (2 * i + j)) (fun x =>
          { x with lostNow := x.lostNow + n, lostN := wrap32 (x.lostN + n), lostB := r.creditF - 1
                   lostA := if x.lostNow == 0 then p.creditF + 1 else x.lostA })) s
      else s
    | none => s
  else s

/-- A NEST_UP frame arrives from a child (R19, R21, R23, R28, R267, R268, R272, R280). -/
def State.nestUpTake (s : State) (port : Nat) (b : List Byte) : State × Option Nat :=
  match s.kidOfPort port with
  | none => (s, none)
  | some i =>
    if !(s.lanesOn && b.length == 168 && crcTail b) then (s, none)
    else
      let s := s.nestSync port
      let h := nestHdr b
      let f := extendF s.fr h.fnum
      let k := s.kid i
      if h.ftype != 5 then (s, none)
      else if misaligned s.fr f then (s.updKid i (fun k => { k with cMis := wrap32 (k.cMis + 1) }), none)
      else if h.digest != s.topoDigest then (s.updKid i (fun k => { k with topoBad := true }), none)
      else if !(k.obeys h f && k.fresh h (portRank port)) then (s, none)
      else
        let second := (s.kidPorts i).any (fun p => portRank p < portRank port)
        let r := upOf s.fr b
        let s := s.resetAck i r
        let s := s.updKid i (fun k =>
          { k.taken h f (portRank port) second with
            dig := some (crc32 b).toNat, bytes := b
            base := k.base.or (some (k.ofs.getD 0 0 + r.arm0.cum - r.arm0.inserted - r.arm0.returned))
            reps := (r :: k.reps.filter (fun x => x.epoch != r.epoch)).take 64, lastCum := [r.arm0.cum, r.arm1.cum]
            repBy := ((r.epoch, h.sideB, h.lepoch) :: k.repBy.filter (fun x => x.1 != r.epoch)).take 64 })
        let s := s.when r.cumReset (fun s => s.rcSet 140 i 8)
        let s := s.when r.incomplete (fun s => s.rcSet 140 i 7)
        ((s.twinDigest (64 + i) (crc32 b).toNat).when r.lost (fun s => s.rcSet 140 i 6), some i)

/-- P ports of a lost nest link show no sync any longer (DIA.120 LINK_UP). -/
def State.nestDead (s : State) (ports : List Nat) : State :=
  forAll (ports.filter (fun p => p < 32)) (fun s p => s.updPort p (fun x => { x with linkUp := false })) s

/-- NEST_LOSS (R289): no valid frame on the link for NST.010 consecutive frames. `link` is 0 to 31 for a child, 32 for the parent. -/
def execNestLoss (link : Nat) (s : State) : Host.Outcome State Fault Refusal :=
  .next (
    let lim := s.pn gNST 10
    if link == 32 then
      if s.hasParent && decide (lim ≤ s.nest.par.miss) then
        (s.modNest (fun n => { n with par := { n.par with loss := true } })).nestDead s.parPorts
      else s
    else if s.kidIdx.contains link && decide (lim ≤ (s.kid link).miss) then
      (s.updKid link (fun k => { k with loss := true })).nestDead (s.kidPorts link)
    else s)

end Sys2Proof.Machine
end

