-- ==== Sys2Proof/Machine/Bramble.lean ====
section
/-!
DEFINITION. Protection and the Bramble trip matrix (chapter 08): conditions at their rates, sources, actions, latches, reset.
-/
namespace Sys2Proof.Machine
open Sys2Proof

/-- Actions by the codes of R296. -/
def actionOf : Nat → Action
  | 1 => .record | 2 => .block | 3 => .bypass | 4 => .breaker | 5 => .selfFail | _ => .none

/-- Codes of R296. -/
def Action.code : Action → Nat
  | .none => 0 | .record => 1 | .block => 2 | .bypass => 3 | .breaker => 4 | .selfFail => 5

/-- The action latches (R301). -/
def Action.latching : Action → Bool
  | .block | .bypass | .breaker | .selfFail => true
  | _ => false

/-- Action of source `k` on group `g` (PRT.001; the row of DESAT_MULTI is fixed, R294). -/
def State.matrix (s : State) (k g : Nat) : Action :=
  if k == 4 then (if g == 15 then .block else .none) else actionOf (s.pn gPRT 1 (16 * k + g))

/-- Filter F of source `k` (PRT.002; 0 for DESAT_MULTI, R294). -/
def State.filterOf (s : State) (k : Nat) : Nat := if k == 4 then 0 else s.pn gPRT 2 k

/-- Source `k` has a latching action anywhere in its row (R303). -/
def State.rowLatches (s : State) (k : Nat) : Bool := (List.range 16).any (fun g => (s.matrix k g).latching)

/-- The condition of source `k` has held in F + 1 consecutive samples and the source is not yet raised (R292). -/
def State.raiseDue (s : State) (k : Nat) : Bool := decide (s.filterOf k + 1 ≤ s.prot.onN.getD k 0) && !s.srcUp k
/-- The condition of source `k` has been absent in F + 1 consecutive samples and the source is raised (R292). -/
def State.clearDue (s : State) (k : Nat) : Bool := decide (s.filterOf k + 1 ≤ s.prot.offN.getD k 0) && s.srcUp k

/-! ### Conditions at their rates -/

/-- DESAT_MULTI of this boundary: both owned arms at a leaf (R317), two converter arms of one epoch at the root (R319). -/
def State.desatMulti (s : State) : Bool :=
  let arm := fun (a : Nat) => ((s.channels a).map s.cell).any (fun c => c.desat)
  if s.isLeaf && s.nArms == 2 && arm 0 && arm 1 then true
  else if s.role == .pole then
    let flags := s.kidIdx.flatMap (fun i => ((s.kid i).reps.take 16).flatMap (fun r => (List.range (s.kidArms i)).filterMap (fun j =>
      if (r.sec j).fault.getLsbD 2 then some (s.pn gNST 4 (2 * i + j), r.epoch) else none)))
    let news := s.kidIdx.filterMap (fun i => if (s.kid i).okNow then (s.kid i).reps.head?.map (·.epoch) else none)
    flags.any (fun p => news.contains p.2 && flags.any (fun q => q.2 == p.2 && q.1 != p.1))
  else false

/-- Condition of TWIN_FAULT (R344, R346, R355): one heartbeat path is lost, or the partner has been declared failed. -/
def State.twinFault (s : State) : Bool := s.pb gTWN 1 && (s.twin.lostT || s.twin.lostC || s.twin.partFailed)

/-- Conditions of the sources at rate F (source table). -/
def State.condsF (s : State) : List (Nat × Bool) :=
  let cs := (s.arm.cells.filter (fun c => c.conf))
  let arm := fun (a : Nat) => cs.any (fun c => c.arm == a && c.desat)
  let dc := s.srcVal (.ai (s.pn gPRT 20))
  let t := s.tracker (s.pn gPRT 23 - 1)
  [ (2, arm 0), (3, arm 1), (4, s.desatMulti), (5, cs.any s.ovCell), (6, s.running && cs.any s.uvCell),
    (7, cs.any (fun c => c.overdue)), (8, cs.any (fun c => c.exGate)),
    (9, dc.2 && fGt dc.1 (s.pf gPRT 21)), (10, s.running && dc.2 && fLt dc.1 (s.pf gPRT 22)),
    (11, s.trkOn (s.pn gPRT 23 - 1) && fGt t.set.mag (s.pf gPRT 24)),
    (12, s.eng.loopF || s.eng.loopC), (13, s.eng.badGrp.any id), (14, s.clk.pllStand.any id),
    (15, (s.hasParent && s.nest.par.loss) || s.kidIdx.any (fun i => (s.kid i).loss)),
    (16, s.hasParent && s.nest.par.demand), (17, s.arm.refs.any (fun r => r.mis)), (19, s.twinFault),
    (30, cs.any (fun c => c.desatB)) ] ++ (List.range 32).map (fun p => (32 + p, (s.port p).loss))

/-- Conditions at rate C. -/
def State.condsC (s : State) : List (Nat × Bool) :=
  [(29, match s.expVal .progTrip with | some w => wB w | none => false), (31, match s.expVal .progRecord with | some w => wB w | none => false)]

/-- Conditions at rate M; `hdg` is the demand of either Hedgerow channel. -/
def State.condsM (s : State) (hdg : Bool) : List (Nat × Bool) :=
  (18, s.arm.arms.any (fun a => a.driftFl)) :: (28, hdg) ::
  (List.range 8).map (fun k =>
    let c := s.pn gPRT 30 k
    (20 + k, c != 0 && ((s.fieldLevel c != (s.pn gPRT 31 k == 1)) || s.fio.brk.getLsbD (c - 1))))

/-- One sample of each listed condition. -/
def State.sampleConds (s : State) (l : List (Nat × Bool)) : State := forAll l (fun s p => s.condSample p.1 p.2) s

/-! ### Actions (R296 to R302) -/

/-- The partner of a twin pair is in step: the shadow with READY for a lead, this member's own READY for a shadow (R297); for a member that
has declared itself failed the partner that carries on. -/
def State.inStep (s : State) : Bool :=
  s.pb gTWN 1 && !s.twin.partFailed && (s.twin.selfFailed || (if s.twin.shadow then s.twin.ready else s.twin.pReady))

/-- Leaving READY ends test mode (R221). -/
def State.endTest (s : State) : State :=
  if s.arm.test then (s.modArm (fun a => { a with test := false })).setRaw ⟨gPWM, 30⟩ 0 0 else s

/-- Entry into FAULTED (R302, R345, R347). -/
def State.toFaulted (s : State) (w : Who := {}) : State :=
  if s.sys.st == .running || s.sys.st == .ready then (s.endTest).enter .faulted w else s

/-- The module enters FAULTED where a latched BLOCK covers an arm or a child port (R302). -/
def State.faultCheck (s : State) : State := if s.mustFault then s.toFaulted else s

/-- The member declares itself failed for source `src` (R345): FAIL goes out while link T can carry it, the role becomes SHADOW with READY 0,
the module FAULTED. A member that has done so already does no more. -/
def State.selfFail (s : State) (src : Nat) : State :=
  if s.twin.selfFailed then s
  else ((s.tSend (.fail src)).modTwin (fun t => { t with selfFailed := true, shadow := true, ready := false })).toFaulted

/-- Excludes with reason PROTECTION the channels that group `g` covers (R296). -/
def State.excludeProt (s : State) (g : Nat) : State :=
  { s with arm := { s.arm with cells := s.arm.cells.mapIdx (fun c y =>
      if y.conf && (s.grpChan g c || s.grpChain g y.port) then y.exclude (fun z => { z with exProt := true }) else y) } }

/-- BLOCK_ALL on every P port that group `g` names, and from both ports of a dual-ended chain, at time `t` in u (R247, R249, R296, R308). -/
def State.blockPorts (s : State) (g t : Nat) : State := forAll ((List.range 32).filter (s.grpChain g)) (State.sendBlockAll t) s

/-- Time of an action in u: 400 ns after the boundary (R307). -/
def State.actU (s : State) : Nat := 2048000 * s.fr + 400 * 2048000 / s.tf

/-- The module itself requests SO1 and SO2 to be de-energised: in STANDBY and CONFIG_PENDING (R491). -/
def State.modReq (s : State) : Bool := s.sys.st == .standby || s.sys.st == .configPending || s.sys.st == .dormant
/-- A request on SO1 stands (R379). -/
def State.so1Req (s : State) : Bool := s.reqSO1 || s.modReq
/-- A request on SO2 stands: from Bramble, from the module in STANDBY or CONFIG_PENDING, or for a loss of PLL-L (R379, R425, R491). -/
def State.so2Req (s : State) : Bool := s.reqSO2 || s.modReq || s.clk.pllStand.getD 1 false || s.prot.pllBlk

/-- A standing request opens both switches of its output (R300, R308, R379). -/
def State.openReq (s : State) : State :=
  let opened := fun (b : Bool) (o : HOut) => if b then { o with hs := false, ls := false } else o
  s.modHdg (fun h => { h with outs := [opened s.so1Req (h.outs.getD 0 HOut.reset), opened s.so2Req (h.outs.getD 1 HOut.reset)] })

/-- Takes action `a` of source `k` on group `g`, with its audit record and Reedbed's trigger source (R296 to R302). `ba` says that BLOCK_ALL
goes out with it, `step` that the partner was in step at the evaluation (R297). -/
def State.takeAction (s : State) (step : Bool) (k g : Nat) (a : Action) (ba : Bool) : State :=
  match a with
  | .none => s
  | _ =>
    let s := ((s.audit 0x30 {} k g a.code s.fr).rcSet 164 g 0).modProt (fun p => { p with acted := p.acted.set k true })
    if !a.latching then s
    else
      let ix := match a with | .block => 0 | .bypass => 1 | .breaker => 2 | _ => 3
      let s := (s.irqSet 4).modProt (fun p => { p with
        latch := p.latch.modify g (fun l => l.set ix true), holder := p.holder.set k true
        firstG := p.firstG.modify g (fun f => f.or (some k)), firstM := p.firstM.or (some (k, s.fr)), latchF := some s.fr })
      match a with
      | .bypass => s.excludeProt g
      | .breaker => s
      | .selfFail =>
        if step then s.selfFail k
        else
          let s := s.modProt (fun p => { p with asBlock := p.asBlock.set g true })
          (s.when ba (fun s => s.blockPorts g s.actU)).faultCheck
      | _ => (s.when ba (fun s => s.blockPorts g s.actU)).faultCheck

/-- The raising of source `k`: counted, and the row's actions taken (R291, R292, R296). BLOCK_ALL goes out with them where the fast path has
not sent it already (R310). -/
def State.raise (s : State) (k : Nat) : State :=
  let ba := decide (2 ≤ k) || !s.prot.ocSent.getD k false
  let step := s.inStep
  let s := s.modProt (fun p => { p with
    raised := p.raised.set k true, raisedN := p.raisedN.modify k (fun n => wrap32 (n + 1)), ocSent := p.ocSent.set k false })
  let s := forAll (List.range 16) (fun s g => s.takeAction step k g (s.matrix k g) ba) s
  (s.when (k == 14 && s.clk.pllStand.getD 1 false) (fun s => s.modProt (fun p => { p with pllBlk := (List.range 16).any (fun g =>
    (s.matrix 14 g == .block || s.matrix 14 g == .selfFail) && p.blocks g) }))).openReq

/-- SOURCE_RAISED (R292, R296). -/
def execSourceRaised (k : Nat) (s : State) : Host.Outcome State Fault Refusal :=
  .next (if k < 64 && s.raiseDue k then s.raise k else s)

/-- SOURCE_CLEARED (R292); latches stay (R301). -/
def execSourceCleared (k : Nat) (s : State) : Host.Outcome State Fault Refusal :=
  .next (if k < 64 && s.clearDue k then s.modProt (fun p => { p with raised := p.raised.set k false, acted := p.acted.set k false }) else s)

/-! ### The fast arm-overcurrent path (R310 to R315) -/

/-- Ports on which the row of source `k` blocks. -/
def State.rowPorts (s : State) (k : Nat) : List Nat :=
  (List.range 32).filter (fun p => (List.range 16).any (fun g =>
    ((s.matrix k g) == .block || ((s.matrix k g) == .selfFail && !s.inStep)) && s.grpChain g p))

/-- Nanoseconds in u. -/
def State.uOf (s : State) (ns : Nat) : Nat := ns * 2048000 / s.tf

/-- The conversion and what its fast comparators request: BLOCK_ALL 40 ns after the sample that meets the filter, once for a raising (R307,
R310, R312). -/
def State.convertFast (s : State) (k : Nat) (smp : Sample) : State :=
  let s1 := s.convert k smp
  let t := smp.at_ + s.uOf 540
  forAll (s.ocArms (s.aiOf k)) (fun s a =>
    let s1 := s.modProt (fun p => { p with ocSent := p.ocSent.set a (s.raiseDue a) })
    if s.raiseDue a && !s.prot.ocSent.getD a false then forAll (s.rowPorts a) (State.sendBlockAll t) s1 else s1) s1

/-- Input `i` has a trigger at instant `e` in u (R47): a frame boundary, a CONTINUOUS instant, or the named event of its PWM channel. -/
def State.trigAt (s : State) (i e : Nat) : Bool :=
  match s.pn gMEA 2 i with
  | 0 => e % 2048000 == 0
  | 1 => s.isLeaf && s.carrierAt (s.pn gMEA 4 i) (s.pn gMEA 5 i == 1) e
  | _ => e % s.uOf 500 == 0

/-- A conversion of converter `k` with this sampling instant completes in the present frame, after the one before, on its input's trigger:
the trigger plus the delay in force when it started, and 250 ns more for the odd converter of a pair (R47, R48, R51, R57). -/
def State.convDue (s : State) (k : Nat) (smp : Sample) : Bool :=
  let i := s.aiOf k
  let a := s.meas.ai.getD i AIn.reset
  let done_ := smp.at_ + s.uOf 500
  let ofs := fun (dly : Nat) => s.uOf (10 * dly + (if s.pairOdd k then 250 else 0))
  let old := ofs a.dlyOld
  let new := ofs (s.pn gMEA 3 i)
  decide (2048000 * s.fr < done_ && done_ ≤ 2048000 * (s.fr + 1)) && a.acc.all (fun p => p.2.1 != s.pairOdd k || decide (p.1 < smp.at_)) &&
    ((decide (new + 2048000 * a.dlyF ≤ smp.at_) && s.trigAt i (smp.at_ - new)) ||
      (decide (old ≤ smp.at_ && smp.at_ - old < 2048000 * a.dlyF) && s.trigAt i (smp.at_ - old)))

/-- ANALOG_CONVERSION_COMPLETE (R47, R48, R310). -/
def execAnalogConversionComplete (k : Nat) (smp : Sample) (s : State) : Host.Outcome State Fault Refusal :=
  .next (if s.awake && s.aiOn k && s.convDue k smp then s.convertFast k smp else s)

/-- Fast thresholds of the owned arms as they take effect, with gain and offset of both converters (R310). -/
def State.ocRefresh (s : State) : State :=
  s.modProt (fun p => { p with oc := (List.range 4).map (fun x =>
    let a := x / 2
    let k := s.pn gPRT 10 a + x % 2
    (s.pf gPRT 11 a, s.pf gPRT 12 a, s.pf gMEA 7 k, s.pf gMEA 8 k)) })

/-- A resynchronisation starts: READY 0, and the state image is captured at the next control boundary (R338). -/
def State.startResync (s : State) : State :=
  s.modTwin (fun t => { t with phase := 1, ready := false, rsStart := s.now, imgBuf := [], vecs := [], nSync := wrap32 (t.nSync + 1) })

/-! ### Reset (R303, R305) -/

/-- A latching action is taken at this boundary, or is about to be (R305). -/
def State.latchNow (s : State) : Bool :=
  s.prot.latchF == some s.fr || (List.range 64).any (fun k => s.raiseDue k && s.rowLatches k)

/-- The reset is refused: a raised source has a latching action, or one latches in this tick (R303, R305). -/
def State.resetRefused (s : State) : Bool := s.latchNow || (List.range 64).any (fun k => s.srcUp k && s.rowLatches k)

/-- Books, a step still due, and the FAULTED check at an entry into READY (R279, R280, R302, R431). -/
def State.toReady (s : State) (w : Who := {}) : State := ((s.openBooks.takeStep).enter .ready w).faultCheck

/-- Bramble reset at a supervisory boundary (R250, R303). -/
def State.brambleReset (s : State) (w : Who) : State :=
  let ports := (List.range 32).filter s.blkPort
  let s := s.audit 0x30 w 64 0 0 s.fr
  let s := s.modProt (fun p => { p with
    latch := p.latch.map (fun _ => [false, false, false, false]), asBlock := p.asBlock.map (fun _ => false)
    holder := p.holder.map (fun _ => false), firstG := p.firstG.map (fun _ => none), firstM := none, pllBlk := false })
  let s := s.mapCells (fun _ c => c.reenter s.running s.fr { c with exProt := false })
  -- a member that had declared itself failed rejoins through a resynchronisation (R349)
  let s := if s.twin.selfFailed then (s.modTwin (fun t => { t with selfFailed := false })).startResync else s
  if s.sys.st == .faulted then s.toReady w
  else s.when s.running (fun s => forAll ports State.startRelease s)

end Sys2Proof.Machine
end

