-- ==== Sys2Proof/Machine/Hedgerow.lean ====
section
/-!
DEFINITION. The Hedgerow safety supervisor (chapter 10): safety cycles, functions, input pairs, resets, output pairs.
-/
namespace Sys2Proof.Machine
open Sys2Proof

/-- Channel SA (false) or SB (true). -/
def Hdg.ch (h : Hdg) (b : Bool) : HCh := if b then h.sb else h.sa
/-- Changes one channel. -/
def State.updCh (s : State) (b : Bool) (f : HCh → HCh) : State :=
  s.modHdg (fun h => if b then { h with sb := f h.sb } else { h with sa := f h.sa })
/-- Output pair SO1 (0) or SO2 (1). -/
def Hdg.out (h : Hdg) (k : Nat) : HOut := h.outs.getD k HOut.reset
/-- Changes one output pair. -/
def State.updSo (s : State) (k : Nat) (f : HOut → HOut) : State := s.modHdg (fun h => { h with outs := h.outs.modify k f })

/-- Function of input pair `k` (HDG.050): 0 UNUSED, 1 SAFE_STOP, 2 SO1_OFF, 3 SO2_OFF, 4 LOCK, 5 RESET. -/
def State.pairFn (s : State) (k : Nat) : Nat := s.pn gHDG 50 k

/-- The input of channel `b` of pair `k` is in its demand state (R373). -/
def State.inDemand (s : State) (b : Bool) (k : Nat) : Bool :=
  let c := s.hdg.ch b
  let high := c.lev.getD k false
  c.brk.getD k false || (if s.pn gHDG 51 k == 1 && b then high else !high)
/-- The pair takes its demand as soon as either channel is in its demand state (R373). -/
def State.pairDemand (s : State) (k : Nat) : Bool := s.pairFn k != 0 && (s.inDemand false k || s.inDemand true k)

/-- The power lock is engaged (R367). -/
def State.lockOn (s : State) : Bool :=
  s.pn gHDG 33 != 0 &&
    (match (List.range 8).find? (fun k => s.pairFn k == 4) with
     | none => true
     | some k => s.pairDemand k)

/-! ### Quantities and functions (R363 to R365) -/

/-- Space vector of two line-to-line voltages: α and β (R363). -/
def lineAB (ab bc : F32) : F32 × F32 := (fDiv (fAdd (fMul 0x40000000 ab) bc) 0x40400000, fDiv bc fSqrt3)
/-- Magnitude in per unit of the AC base (R363). -/
def lineMag (ab bc base : F32) : F32 :=
  let v := lineAB ab bc
  fDiv (fHypot v.1 v.2) (fMul (fSqrt (fDiv 0x40000000 0x40400000)) base)
/-- Angle (R363). -/
def lineAng (ab bc : F32) : Angle := let v := lineAB ab bc; atan2A v.2 v.1

/-- Frequency of SLS from the angles of T_w + 1 cycles, newest first: their advance over T_w (R364). -/
def slsFreq (tw : Nat) (l : List Angle) : F32 :=
  let adv := (((l.take (tw + 1)).zip ((l.take (tw + 1)).drop 1)).map (fun p => angDiff p.1 p.2)).sum
  fOfQ (adv * 1000) (4294967296 * tw)

/-- Quantities of channel `b`: the samples of the inputs that HDG.001 or HDG.002 names, scaled by HDG.003 (R357, R363). -/
def State.hdgQ (s : State) (b : Bool) (obs : HdgObs) : List F32 :=
  (List.range 6).map (fun k => fMul (s.pf gHDG 3 (if b then 6 + k else k)) (obs.ins.getD (s.pn gHDG (if b then 2 else 1) k) 0))

/-- Verdict of each function on the newest samples of channel `b`: evaluated, and its condition (R364). -/
def State.hdgFns (s : State) (b : Bool) : List (Bool × Bool) :=
  let c := s.hdg.ch b
  let q := fun (k : Nat) => c.q.getD k 0
  let mT := lineMag (q 0) (q 1) (s.pf gHDG 6)
  let mR := lineMag (q 2) (q 3) (s.pf gHDG 6)
  let lo := s.pf gHDG 14
  let tw := s.pn gHDG 13
  let f := slsFreq tw (c.angT.map (·.1))
  let d := angDiff (lineAng (q 0) (q 1)) (lineAng (q 2) (q 3))
  let v := fDiv (q 4) (s.pf gHDG 7)
  let p := fDiv (fMul (q 4) (q 5)) (fMul (s.pf gHDG 7) (s.pf gHDG 8))
  let sv := if s.pn gHDG 31 == 1 then fNeg v else v
  [ (decide (tw + 1 ≤ c.angT.length) && (c.angT.take (tw + 1)).all (·.2), fLt f (s.pf gHDG 11) || fGt f (s.pf gHDG 12)),
    (fGe mT lo && fGe mR lo, decide ((s.pn gHDG 21 : Int) < d.natAbs)),
    (true, fLt sv (fNeg (s.pf gHDG 32))),
    (s.lockOn, if s.pn gHDG 33 == 1 then fLt p (fNeg (s.pf gHDG 34)) else fGt p (s.pf gHDG 34)) ]

/-- Counts, activity and raised state of one function after an evaluation (R364, R365): the count of consecutive evaluations with the
condition, FUNC_ACTIVE, raised. -/
def State.fnStep (s : State) (f n : Nat) (v : Bool × Bool) : Nat × Bool × Bool :=
  if !s.pb gHDG 10 f then (0, false, false)
  else if !v.1 then (0, false, f < 2 && s.pn gHDG 15 == 1)
  else
    let k := if v.2 then min 7 (n + 1) else 0
    (k, true, decide (s.pn gHDG 40 f ≤ k))

/-! ### Demands on the outputs (R362, R366, R368, R374, R378, R379, R383) -/

/-- Outputs that a reaction de-energises: 0 SO2, 1 SO1, 2 safe stop (R366, R368). -/
def State.reacts (s : State) (r so : Nat) : Bool :=
  match r with
  | 0 => so == 1
  | 1 => so == 0
  | _ => so == 1 || s.hdg.so1Off

/-- Reaction of a pair function: SAFE_STOP, SO1_OFF, SO2_OFF; none for the others. -/
def pairReact : Nat → Option Nat
  | 1 => some 2 | 2 => some 1 | 3 => some 0 | _ => none

/-- Channel `b` demands output `so` off: latched functions and pairs, DISC_FAULTs. -/
def State.chDemand (s : State) (b : Bool) (so : Nat) : Bool :=
  let c := s.hdg.ch b
  (List.range 4).any (fun f => c.fnLat.getD f false && s.reacts (s.pn gHDG 41 f) so) ||
  (List.range 8).any (fun k =>
    match pairReact (s.pairFn k) with
    | some r => (c.prLat.getD k false || s.hdg.dsF.getD k false) && s.reacts r so
    | none => s.hdg.dsF.getD k false && s.pairFn k != 0)

/-- Output `so` must be off for channel `b`. -/
def State.chOff (s : State) (b : Bool) (so : Nat) : Bool :=
  let h := s.hdg
  let o := h.out so
  !h.sa.valid || !h.sb.valid || h.sa.crc != h.sb.crc || !h.given ||
  h.sa.xcmp || h.sa.clkf || h.sa.self_ || h.sb.xcmp || h.sb.clkf || h.sb.self_ ||
  o.stuck || o.cross || o.extHi || o.gnd || (if so == 0 then s.so1Req else s.so2Req) || s.chDemand b so

/-- Channel `b` drives its switch of both outputs: SA the high side, SB the low side (R357, R371, R385). -/
def State.drive (s : State) (b : Bool) : State :=
  forAll [0, 1] (fun s k =>
    let off := s.chOff b k
    s.updSo k (fun o => if b then { o with ls := !off } else { o with hs := !off })) s

/-- Any latched or standing demand of either channel (R380, DIA.180 DEMAND). -/
def State.hdgDemand (s : State) : Bool :=
  let h := s.hdg
  h.sa.fnLat.any id || h.sb.fnLat.any id || h.sa.prLat.any id || h.sb.prLat.any id || h.sa.cond.any id || h.sb.cond.any id ||
  h.dsF.any id || (List.range 8).any (fun k => (pairReact (s.pairFn k)).isSome && s.pairDemand k) ||
  h.sa.xcmp || h.sa.clkf || h.sa.self_ || h.sb.xcmp || h.sb.clkf || h.sb.self_

/-- A safe stop starts with the first SAFE_STOP demand; its delay runs in whole milliseconds (R368). -/
def State.startStop (s : State) : State :=
  s.modHdg (fun h => { h with stop := if h.stop.isNone && !h.so1Off then some ((s.pn gHDG 42 + 999999) / 1000000) else h.stop })

/-- Channel `b` latches the demand of function `f` (R366, R369). -/
def State.latchFn (s : State) (b : Bool) (f : Nat) : State :=
  if (s.hdg.ch b).fnLat.getD f false then s
  else
    let first := !(s.hdg.ch (!b)).fnLat.getD f false
    let s := s.updCh b (fun c => { c with fnLat := c.fnLat.set f true })
    let s := s.when first (fun s => s.modHdg (fun h => { h with dem := h.dem.modify f (fun n => wrap32 (n + 1)) }))
    s.when (s.pn gHDG 41 f == 2) State.startStop

/-- Channel `b` latches the demand of pair `k` (R369, R373). -/
def State.latchPair (s : State) (b : Bool) (k : Nat) : State :=
  if (pairReact (s.pairFn k)).isNone || (s.hdg.ch b).prLat.getD k false then s
  else
    let first := !(s.hdg.ch (!b)).prLat.getD k false
    let s := s.updCh b (fun c => { c with prLat := c.prLat.set k true })
    let s := s.when first (fun s => s.modHdg (fun h => { h with dem := h.dem.modify (4 + k) (fun n => wrap32 (n + 1)) }))
    s.when (s.pairFn k == 1) State.startStop

/-! ### Reset (R376 to R378) -/

/-- A latching fault condition stands now (R377). -/
def State.faultStands (s : State) : Bool :=
  let h := s.hdg
  ((h.sa.xcmp || h.sa.clkf || h.sa.self_) && h.sa.okSince == 0) || ((h.sb.xcmp || h.sb.clkf || h.sb.self_) && h.sb.okSince == 0) ||
  h.outs.any (fun o => o.stuck || ((o.cross || o.extHi || o.gnd) && o.okN == 0))

/-- A reset taken in this cycle is refused (R377). A RESET pair is inactive in its low state, which is no demand. -/
def State.rstRefused (s : State) : Bool :=
  s.hdg.sa.cond.any id || s.hdg.sb.cond.any id || (List.range 8).any (fun k => s.pairFn k != 5 && s.pairDemand k) || s.faultStands

/-- A Hedgerow reset (R362, R376, R377, R378, R383). -/
def State.hdgReset (s : State) : State :=
  if s.rstRefused then (s.rcSet 180 0 25).audit 0x41 Who.hedgerow 0
  else
    let clr := fun (c : HCh) => { c with fnLat := c.fnLat.map (fun _ => false), prLat := c.prLat.map (fun _ => false), msg := none,
                                         xcmp := c.xcmp && c.okSince < 1000, clkf := c.clkf && c.okSince < 1000 }
    let disagree := fun (k : Nat) => s.inDemand false k != s.inDemand true k
    s.modHdg (fun h => { h with
      sa := clr h.sa, sb := clr h.sb, dsF := h.dsF.mapIdx (fun k b => b && disagree k), given := true
      stop := none, so1Off := false
      outs := h.outs.map (fun o => { o with cross := o.cross && o.okN < 1000, extHi := o.extHi && o.okN < 1000,
                                            gnd := o.gnd && o.okN < 1000 }) })

/-- The RESET pair over one cycle of SA (R376): active together for 50 ms to 3 s, then both inactive. -/
def State.resetPair (s : State) : State :=
  match (List.range 8).find? (fun k => s.pairFn k == 5) with
  | none => s
  | some k =>
    let a := !s.inDemand false k
    let b := !s.inDemand true k
    if a && b then s.modHdg (fun h => { h with rstOn := if h.rstEnd then 1 else h.rstOn + 1, rstEnd := false })
    else if !a && !b then
      let n := s.hdg.rstOn
      let s := s.modHdg (fun h => { h with rstOn := 0, rstEnd := false })
      s.when (decide (50 ≤ n ∧ n ≤ 3000)) State.hdgReset
    else s.modHdg (fun h => { h with rstEnd := true })

/-! ### The safety cycle (R359, R362, R371, R374, R376, R383) -/

/-- Disagreement of the pairs over one cycle of SA (R374, R375). -/
def State.discCycle (s : State) : State :=
  forAll (List.range 8) (fun s k =>
    if s.pairFn k == 0 then s
    else if s.inDemand false k != s.inDemand true k then s.modHdg (fun h => { h with dsN := h.dsN.modify k (fun n => min 1000 (n + 1)) })
    else
      let n := s.hdg.dsN.getD k 0
      let s := s.modHdg (fun h => { h with dsN := h.dsN.set k 0 })
      s.when (0 < n && !s.hdg.dsF.getD k false) (fun s => s.rcSet 181 k 5)) s

/-- Output faults that a cycle of SA sees (R383, R388). -/
def State.soFaults (s : State) (obs : HdgObs) : State :=
  let par := s.pb gHDG 72
  forAll [0, 1] (fun s k =>
    let o := s.hdg.out k
    let high := obs.hsHigh.getD k false
    let off := if s.chOff false k && s.chOff true k then min 1000 (o.offN + 1) else 0
    let ext := high && (if par then decide (20 ≤ off) else !o.hs)
    let gnd := obs.hsTrip.getD k false || (!par && !high && o.hs && !o.ls)
    s.updSo k (fun o => { o with offN := off, extHi := o.extHi || ext, gnd := o.gnd || gnd,
                                 okN := if ext || gnd then 0 else min 1000 (o.okN + 1) })) s

/-- The cross-link message of channel `b` at the end of a cycle (R360). -/
def State.xmsg (s : State) (b : Bool) (obs : HdgObs) : XMsg :=
  let c := s.hdg.ch b
  { q := c.q, levels := c.lev, breaks := c.brk, fnDem := c.fnLat, pairDem := c.prLat, crc := c.crc, reads := obs.hsHigh ++ obs.lsHigh }

/-- One cycle of channel `b` (R359): a received message acts once, and a message of its own goes out. -/
def State.safetyCycle (s : State) (b : Bool) (obs : HdgObs) : State :=
  let now := s.hdgQ b obs
  let base := fun (k : Nat) => now.getD k 0
  let ang := lineAng (base 0) (base 1)
  let mag := lineMag (base 0) (base 1) (s.pf gHDG 6)
  let bad := !obs.selfOk || (b && obs.constSd)
  let c0 := s.hdg.ch b
  let quiet := decide (c0.noMsg < 3) && (List.range 6).all (fun i => decide (c0.xErr.getD i 0 ≤ s.pn gHDG 81)) && decide (c0.crcBad ≤ 2)
  let s := s.updCh b (fun c => { c with
    q := now, lev := obs.levels, brk := obs.breaks, msg := none, cycles := c.cycles + 1, noMsg := min 255 (c.noMsg + 1)
    angT := ((ang, fGe mag (s.pf gHDG 14)) :: c.angT).take 9, self_ := c.self_ || bad
    okSince := if quiet then min 60000 (c.okSince + 1) else 0
    crc := Config.hdgCrc (s.par.vals.filter (fun v => v.id.g == gHDG)) })
  let v := s.hdgFns b
  let st := (List.range 4).map (fun f => s.fnStep f (c0.cnt.getD f 0) (v.getD f (false, false)))
  let q := fun (k : Nat) => (s.hdg.ch b).q.getD k 0
  let s := s.updCh b (fun c => { c with
    cnt := st.map (·.1), act := st.map (·.2.1), cond := st.map (·.2.2)
    freq := slsFreq (s.pn gHDG 13) (c.angT.map (·.1))
    sla := BitVec.ofInt 32 (angDiff (lineAng (q 0) (q 1)) (lineAng (q 2) (q 3))) })
  -- demands of the pairs, and those the other channel has sent
  let s := forAll (List.range 8) (fun s k => s.when (s.pairFn k != 0 && s.inDemand b k) (fun s => s.latchPair b k)) s
  let s := match c0.msg with
    | some m =>
      let s := forAll (List.range 4) (fun s f => s.when (m.fnDem.getD f false) (fun s => s.latchFn b f)) s
      forAll (List.range 8) (fun s k => s.when (m.pairDem.getD k false) (fun s => s.latchPair b k)) s
    | none => s
  let s := if b then s else
    let s := (s.discCycle).soFaults obs
    let s := s.modHdg (fun h => { h with stop := h.stop.map (fun n => n - 1) })
    let host := s.hdg.hostRst
    let s := s.modHdg (fun h => { h with hostRst := false })
    (s.when (host && s.pn gHDG 60 == 1) State.hdgReset).resetPair
  (s.updCh b (fun c => { c with sent := some (s.xmsg b obs) })).drive b

/-- Hedgerow runs: its domains are on in every state but DORMANT (chapter 12, domain table). -/
def State.hdgOn (s : State) : Bool := s.sys.st != .dormant

/-- SAFETY_CYCLE (R359 to R376). -/
def execSafetyCycle (b : Bool) (obs : HdgObs) (s : State) : Host.Outcome State Fault Refusal :=
  .next (if s.hdgOn then s.safetyCycle b obs else s)

/-- CROSS_LINK_MESSAGE (R360, R371): `none` is a cycle without a valid message. Quantities are compared with the channel's own. -/
def execCrossLinkMessage (b : Bool) (m : Option XMsg) (s : State) : Host.Outcome State Fault Refusal :=
  .next (
    if !s.hdgOn then s
    else match m with
    | none => s.updCh b (fun c => { c with msg := none })
    | some x =>
      let base := fun (i : Nat) => if i < 4 then s.pf gHDG 6 else if i == 4 then s.pf gHDG 7 else s.pf gHDG 8
      s.updCh b (fun c => { c with
        msg := some x, noMsg := 0, crcBad := if x.crc == c.crc then 0 else min 255 (c.crcBad + 1)
        xErr := c.xErr.mapIdx (fun i n =>
          let tol := fMul (base i) (fOfQ (s.pn gHDG 80 i) 100)
          if fGt (fAbs (fSub (x.q.getD i 0) (c.q.getD i 0))) tol then min 255 (n + 1) else 0) }))

/-- XCMP_FAULT (R360, R362). -/
def execXcmpFault (b : Bool) (s : State) : Host.Outcome State Fault Refusal :=
  .next (
    let c := s.hdg.ch b
    if s.hdgOn && (decide (3 ≤ c.noMsg) || (List.range 6).any (fun i => decide (s.pn gHDG 81 < c.xErr.getD i 0)) || decide (2 < c.crcBad)) then
      ((s.updCh b (fun c => { c with xcmp := true, okSince := 0 })).drive b).drive (!b)
    else s)

/-- CLOCK_FAULT (R361, R362): `dev` is the counted deviation in 0.01 %. -/
def execClockFault (b : Bool) (dev : Int) (s : State) : Host.Outcome State Fault Refusal :=
  .next (if s.hdgOn && decide (200 < dev.natAbs) then
      ((s.updCh b (fun c => { c with clkf := true, okSince := 0 })).drive b).drive (!b)
    else s)

/-- FUNCTION_RAISED (R364, R366, R369, R371). -/
def execFunctionRaised (b : Bool) (f : Nat) (s : State) : Host.Outcome State Fault Refusal :=
  .next (if s.hdgOn && (s.hdg.ch b).cond.getD f false && f < 4 then (s.latchFn b f).drive b else s)

/-- SAFE_STOP_DELAY_END (R368). -/
def execSafeStopDelayEnd (s : State) : Host.Outcome State Fault Refusal :=
  .next (if s.hdg.stop == some 0 then
      ((s.modHdg (fun h => { h with stop := none, so1Off := true })).drive false).drive true
    else s)

/-- DISC_FAULT (R374): the channels of pair `k` have disagreed for HDG.052 in whole cycles. -/
def execDiscFault (k : Nat) (s : State) : Host.Outcome State Fault Refusal :=
  .next (if k < 8 && s.pairFn k != 0 && decide (s.pn gHDG 52 k ≤ s.hdg.dsN.getD k 0) then
      let s := s.modHdg (fun h => { h with dsF := h.dsF.set k true })
      let s := s.when (s.pairFn k == 1) State.startStop
      (s.drive false).drive true
    else s)

/-- A test slot of output `so`: every HDG.070, that of SO2 half a period after that of SO1, no two tests at a time and none during a test pulse of a
field output (R382). -/
def State.testSlot (s : State) (so : Nat) : Bool :=
  decide ((s.hdg.out so).lastT + s.pn gHDG 70 so ≤ s.now) &&
    decide ((s.hdg.out (1 - so)).lastT + (if so == 1 then s.pn gHDG 70 0 / 2 else 6000000) ≤ s.now) &&
    decide (s.fio.lastPulse + s.pn gFIO 25 ≤ s.now)

/-- OUTPUT_PAIR_TEST (R382 to R384, R388): a test of output `so` in a test slot; one that is off waits for its next slot. -/
def execOutputPairTest (so : Nat) (obs : PairObs) (s : State) : Host.Outcome State Fault Refusal :=
  .next (
    let o := s.hdg.out so
    if !(s.hdgOn && so < 2 && s.testSlot so) then s
    else if s.chOff false so || s.chOff true so || obs.cut then
      if o.hs || o.ls then
        ((s.updSo so (fun o => { o with pend := true, disc := wrap32 (o.disc + 1), lastT := s.now })).rcSet 180 0 24).drive false |>.drive true
      else s.updSo so (fun o => { o with pend := true, lastT := s.now })
    else
      let par := s.pb gHDG 72
      let stuck := !obs.hsFollows || !obs.lsFollows
      let cross := obs.crossSeen && !par
      let s := s.updSo so (fun o => { o with
        runs := wrap32 (o.runs + 1), pend := false, lastT := s.now, stuck := o.stuck || stuck, cross := o.cross || cross
        okN := if cross then 0 else o.okN })
      (s.drive false).drive true)

end Sys2Proof.Machine
end

