-- ==== Sys2Proof/Machine/Reedbed.lean ====
section
/-!
DEFINITION. The Reedbed disturbance recorder (chapter 11): samples, conditions, records, hold-off, cross-triggers.
-/
namespace Sys2Proof.Machine
open Sys2Proof

/-! ### Geometry (R392, R394, R395) -/

/-- Sample interval k in frames (ACQ.002). -/
def State.acqK (s : State) : Nat := max 1 (s.pn gACQ 2)
/-- T_ch in ns. -/
def State.tch (s : State) : Nat := s.acqK * s.tf
/-- n_pre. -/
def State.nPre (s : State) : Nat := s.pn gACQ 3 / s.tch
/-- n_full. -/
def State.nFull (s : State) : Nat := s.pn gACQ 4 / s.tch
/-- n_red. -/
def State.nRed (s : State) : Nat := let d := s.pn gACQ 6 * s.tch; (s.pn gACQ 5 + d - 1) / d
/-- Input of raw channel `r`, where one is named (ACQ.030). -/
def State.rawIn (s : State) (r : Nat) : Option Nat := if s.pn gACQ 30 r < 24 then some (s.pn gACQ 30 r) else none
/-- Time between codes of an input on CONTINUOUS trigger in ns (R394). -/
def State.rawNs (s : State) (i : Nat) : Nat := if s.pairEven i then 250 else 500
/-- Codes of raw channel `r` before the trigger sample. -/
def State.rawPre (s : State) (r : Nat) : Nat := match s.rawIn r with | some i => s.pn gACQ 31 / s.rawNs i | none => 0
/-- Codes of raw channel `r` from the trigger sample on. -/
def State.rawPost (s : State) (r : Nat) : Nat := match s.rawIn r with | some i => s.pn gACQ 32 / s.rawNs i | none => 0
/-- Enabled main channels N_ch. -/
def State.nCh (s : State) : Nat := ((List.range 64).filter (fun c => s.pn gACQ 20 c != 0)).length
/-- S_rec in bytes (R395). -/
def State.sRec (s : State) : Nat :=
  4 * s.nCh * (s.nPre + s.nFull + 2 * s.nRed) + 2 * ((List.range 4).map (fun r => s.rawPre r + s.rawPost r)).sum + 65536
/-- Free recorder memory of its 512 MiB (DIA.193). -/
def State.acqFree (s : State) : Nat := 536870912 - s.sRec * (s.acq.done_.length + (if s.acq.held then 1 else 0))

/-! ### Samples (R392, R393) -/

/-- A Boolean source by the model's own number: 0 to 63 the trigger sources that Bramble's actions raise (R296), 64 to 95 field inputs, 96 on the status bits of the trackers
(32 each), 224 GFM_JUMP, 225 Hedgerow DEMAND, 226 FIRE, from 256 on Boolean engine exports (R393, notes/assumptions/14.md). -/
def State.boolSrc (s : State) (n : Nat) : Bool :=
  if n < 64 then s.prot.acted.getD n false
  else if n < 96 then s.fio.lat.getLsbD (n - 64)
  else if n < 224 then
    let t := (n - 96) / 32
    ((s.tracker t).set.word ||| evGet s.pub.ev 44 t).getLsbD ((n - 96) % 32)
  else if n == 224 then s.kern.jump
  else if n == 225 then s.hdgDemand
  else if n == 226 then s.nest.fire.isSome
  else match s.expVal (.reedbed (n - 256)) with
    | some w => wB w
    | none => false

/-- Stored word of main channel `c` (R393). -/
def State.acqWord (s : State) (c : Nat) : Word :=
  match Config.acqSource (s.pn gACQ 20 c) with
  | .exported k => (s.expVal (.reedbed k)).getD 0
  | .digital l => (l.zipIdx).foldl (fun w p => w ||| bitAt (s.boolSrc p.1) p.2) 0
  | x => (s.srcVal x).1

/-- The instant that a source describes less the stamp, in 2^-16 ns (R393, R412). -/
def State.srcSkew (s : State) : Src → Int
  | .ai k => ((s.meas.ai.getD k AIn.reset).dStamp : Int) * (s.tf : Int) * 65536 / 2048000 - (s.clk.tai : Int) * 65536
  | .sd k => -((s.meas.sd.getD k SdIn.reset).dAge : Int) * 65536
  | .sv i _ => -(s.pn gMEA 86 i : Int) * 65536
  | _ => 0

/-- The sample of the present boundary. -/
def State.acqSample (s : State) : Samp :=
  { f := s.fr, tai := s.now, ws := (List.range 64).map (fun c => if s.pn gACQ 20 c == 0 then 0 else s.acqWord c) }

/-! ### Conditions (R396 to R399) -/

/-- Operand of condition `i` in a sample: its channel's word. -/
def State.condWord (s : State) (i : Nat) (x : Samp) : Word := x.ws.getD (s.pn gACQ 41 i / 256 % 64) 0
/-- The selected bit of condition `i` in a sample. -/
def State.condBit (s : State) (i : Nat) (x : Samp) : Bool := (s.condWord i x).getLsbD (s.pn gACQ 41 i % 32)

/-- q of R398 for an interpolated time. -/
def trigQ (thr x0 x1 : F32) : Nat :=
  let a := fNum149 thr - fNum149 x0
  let d := fNum149 x1 - fNum149 x0
  if d == 0 then 256
  else
    let q := if d > 0 then (512 * a + d) / (2 * d) else (512 * (-a) + (-d)) / (2 * (-d))
    (max 1 (min 256 q)).toNat

/-- State and trigger time of condition `i` at a new sample: `done` are those of the lower conditions (R396 to R398). The time is TAI
ns, and the number q. -/
def State.condEval (s : State) (x : Samp) (i : Nat) (done : List (Bool × Nat × Nat)) : Bool × Nat × Nat :=
  let thr := s.pf gACQ 42 i
  let hy := s.pf gACQ 43 i
  let w := s.pn gACQ 44 i
  let v := s.condWord i x
  let prev := s.acq.prev.getD i false
  let old := s.acq.hist.head?
  let now : Nat × Nat := (x.tai, 256)
  let interp := fun (o : Samp) => let q := trigQ thr (s.condWord i o) v; ((o.tai + q * s.tch / 256, q) : Nat × Nat)
  let from_ := fun (below : Bool) => match old with
    | some o => if (if below then fLt (s.condWord i o) thr else fGt (s.condWord i o) thr) then interp o else now
    | none => now
  let rate := fun (_ : Unit) => (s.acq.hist[w - 1]?).map (fun o =>
    fDiv (fSub v (s.condWord i o)) (fMul (fOfInt w) (fSec s.tch)))
  let ops := (List.range i).filter (fun j => (s.raw gACQ 45 i).getLsbD j)
  let comb := fun (b : Bool) =>
    let t := (ops.filterMap (fun j => match done[j]? with
      | some (true, t, q) => if s.acq.prev.getD j false then none else some (t, q)
      | _ => none))
    (b, t.foldl (fun m y => if m.1 ≤ y.1 then y else m) (t.headD now))
  match s.pn gACQ 40 i with
  | 1 => (if prev then !fLt v (fSub thr hy) else fGe v thr, from_ true)
  | 2 => (if prev then !fGt v (fAdd thr hy) else fLe v thr, from_ false)
  | 3 => (match old with | some o => fLt (s.condWord i o) thr && fLe thr v | none => false, from_ true)
  | 4 => (match old with | some o => fGt (s.condWord i o) thr && fGe thr v | none => false, from_ false)
  | 5 => (match rate () with | some r => fGe r thr | none => false, now)
  | 6 => (match rate () with | some r => fLe r thr | none => false, now)
  | 7 => (s.condBit i x, now)
  | 8 => (match old with | some o => s.condBit i x && !s.condBit i o | none => false, now)
  | 9 => (match old with | some o => !s.condBit i x && s.condBit i o | none => false, now)
  | 10 => comb (ops.all (fun j => (done[j]?.map (·.1)).getD false))
  | 11 => comb (ops.any (fun j => (done[j]?.map (·.1)).getD false))
  | _ => (false, now)

/-- States of all conditions at a sample. -/
def State.condAll (s : State) (x : Samp) : List (Bool × Nat × Nat) :=
  (List.range 16).foldl (fun l i => l ++ [s.condEval x i l]) []

/-! ### Records (R399 to R403, R410) -/

/-- Number of the samples of a record that are not pre-trigger. -/
def Rec.post (r : Rec) : Nat := (r.data.filter (fun x => r.trigF ≤ x.f)).length

/-- One interval of the reduced section: two words per channel (R396). `digital` names the channels that hold digital words. -/
def reduceInterval (digital : Nat → Bool) (l : List Samp) : List (Word × Word) :=
  (List.range 64).map (fun c =>
    let v := l.map (fun x => x.ws.getD c 0)
    if digital c then (v.foldl (· ||| ·) 0, v.getLastD 0)
    else
      let lo := v.foldl (fun m x => if fLt x m then x else m) (v.headD 0)
      let hi := v.foldl (fun m x => if fGt x m then x else m) (v.headD 0)
      if v.findIdx (fun x => x == hi) < v.findIdx (fun x => x == lo) then (hi, lo) else (lo, hi))

/-- A sample joins the record that is being made: full-rate section, then reduced intervals (R395, R396). -/
def State.recordSample (s : State) (x : Samp) (r : Rec) : Rec :=
  if r.post < s.nFull then { r with data := x :: r.data }
  else if r.redu.length < s.nRed then
    let l := r.red ++ [x]
    if l.length ≥ s.pn gACQ 6 then
      { r with red := [], redu := r.redu ++ [reduceInterval (fun c => match Config.acqSource (s.pn gACQ 20 c) with
          | .digital _ => true | _ => false) l] }
    else { r with red := l }
  else r

/-- The last sample of a record has been taken: full-rate and reduced sections and raw codes are complete. -/
def State.recordFull (s : State) (r : Rec) : Bool :=
  decide (s.nFull ≤ r.post) && decide (s.nRed ≤ r.redu.length) &&
  (List.range 4).all (fun k => decide (r.rawAt.getD k 0 + s.rawPost k ≤ s.acq.rawN.getD k 0) || (s.rawIn k).isNone)

/-- What the export of a record needs of the module at its trigger (R411, R412): sources and skews of the main channels; a = g × LSB and
b = o of the raw channels; the UTC offset. -/
def State.recScale (s : State) (r : Rec) : Rec :=
  { r with
    srcs := (List.range 64).map (fun c => s.pn gACQ 20 c)
    skew := (List.range 64).map (fun c => s.srcSkew (Config.acqSource (s.pn gACQ 20 c)))
    tch := s.tch, rInt := s.pn gACQ 6, utc := s.clk.utcOff
    rawSc := (List.range 4).filterMap (fun k => (s.rawIn k).map (fun i =>
      (i, fMul (s.pf gMEA 7 i) (fOfQ 20 65536), s.pf gMEA 8 i, s.pn gMEA 6 i, s.rawNs i))) }

/-- A trigger: `mets` are the indexes met with their times and q, `f0` the stamp of the trigger sample; a cross-trigger brings the node and stamp of its
origin (R399, R401, R403, R407, R408). -/
def State.acqTrigger (s : State) (mets : List (Nat × Nat × Nat)) (f0 : Nat) (origin originF : Nat) : State :=
  match mets with
  | [] => s
  | (c, t, q) :: _ =>
    match s.acq.st with
    | .filling | .armed =>
      let pre := (s.acq.ring.filter (fun x => x.f < f0)).take s.nPre
      let post := s.acq.ring.filter (fun x => f0 ≤ x.f)
      let back := fun (k : Nat) => match s.rawIn k with | some i => (s.fr - f0) * s.tf / s.rawNs i | none => 0
      let r : Rec := { s.recScale Rec.reset with
        num := s.acq.num + 1, trigF := f0, trigTai := t, q := q, mask := (mets.map (fun m => 2 ^ m.1)).sum,
        times := mets.map (fun m => (m.1, m.2.1)), cause := c, preN := pre.length, preShort := decide (pre.length < s.nPre),
        unlocked := s.clk.tstate != .locked, reduced := decide (0 < s.nRed), sideB := s.twin.sideB, origin := origin,
        originF := originF, data := pre
        rawAt := (List.range 4).map (fun k => s.acq.rawN.getD k 0 - back k) }
      let r := post.reverse.foldl (fun r x => s.recordSample x r) r
      let s := s.modAcq (fun q => { q with st := .recording, cur := some r, num := r.num, nRec := wrap32 (q.nRec + 1) })
      let s := s.when r.preShort (fun s => s.rcSet 190 0 7)
      if c != 16 && s.pb gACQ 10 then
        s.modNest (fun n => { n with fire := some (0, s.pn gSYS 2, 33), xSeen := ((s.pn gSYS 2, f0) :: n.xSeen).take 64 })
      else s
    | .recording =>
      s.modAcq (fun a => { a with cur := a.cur.map (fun r =>
        { r with events := (r.events ++ mets.map (fun m => (m.1, m.2.1))).take 32 }) })
    | .holdoff =>
      (s.modAcq (fun a => { a with nSup := wrap32 (a.nSup + 1), hoCnt := a.hoCnt - 1, lastS := some (t, c) })).rcSet 190 0 8
    | .waitMemory => (s.modAcq (fun a => { a with nOvf := wrap32 (a.nOvf + 1), lastS := some (t, c) })).rcSet 190 0 9
    | .disarmed => s

/-- The recorder's work at a frame boundary (R392, R397, R399). -/
def State.reedbed (s : State) : State :=
  if !s.engOn || s.acq.st == .disarmed then s.modAcq (fun a => { a with manual := false })
  else if s.fr % s.acqK != 0 then s
  else
    let x := s.acqSample
    let ev := s.condAll x
    let mets := (ev.zipIdx.filter (fun p => p.1.1 && !(s.acq.prev.getD p.2 false) && s.pb gACQ 46 p.2)).map (fun p => (p.2, p.1.2.1, p.1.2.2))
    let mets := if s.acq.manual then mets ++ [(17, x.tai, 256)] else mets
    let s := s.modAcq (fun a => { a with
      hist := (x :: a.hist).take 257, prev := ev.map (·.1), manual := false
      ring := if a.st == .filling || a.st == .armed then (x :: a.ring).take (s.nPre + 32) else a.ring
      cur := if a.st == .recording then a.cur.map (fun r => s.recordSample x r) else a.cur })
    s.acqTrigger mets s.fr 0 0

/-- A reservation of S_rec: FILLING where it succeeds, WAIT_MEMORY where it fails; the ring restarts empty (R400). -/
def State.reserve (s : State) : State :=
  let ok := decide (s.sRec ≤ s.acqFree)
  s.modAcq (fun a => { a with st := if ok then .filling else .waitMemory, held := ok, ring := [], rawRing := Acq.reset.rawRing, cur := none })

/-- Arming (R400, ACQ.012). -/
def State.acqArm (s : State) : State :=
  if s.acq.st == .disarmed then
    (s.modAcq (fun a => { a with prev := List.replicate 16 false, hist := [], stopDis := false })).reserve
  else s.modAcq (fun a => { a with stopDis := false })

/-- Disarming (R404). -/
def State.acqDisarm (s : State) : State :=
  match s.acq.st with
  | .recording => s.modAcq (fun a => { a with stopDis := true })
  | _ => s.modAcq (fun a => { a with st := .disarmed, held := false, ring := [], cur := none })

/-- A parameter of condition `i` has changed: its state starts as false (R405). -/
def State.condRestart (s : State) (i : Nat) : State := s.modAcq (fun a => { a with prev := a.prev.set i false })

/-! ### Cross-triggers (R406 to R408) -/

/-- XTRIG of a frame taken from a link (0 to 31 a child, 32 the parent), held at the next boundary. -/
def State.xtrigTake (s : State) (link x : Nat) : State :=
  let s :=
    if link == 32 then
      let arm := x.testBit 14
      let was := s.acq.parArm
      let s := s.modAcq (fun a => { a with parArm := arm })
      if s.pb gACQ 11 && arm != was then (if arm then s.acqArm else s.acqDisarm) else s
    else s
  let hops := x / 256 % 16
  let o := x % 256
  if !x.testBit 15 || hops == 15 then s
  else
    let a := s.fr + 1
    let lim := a - 2 - hops
    if s.nest.xSeen.any (fun y => y.1 == o && y.2 == lim) then s
    else
      let s := s.modNest (fun n => { n with
        xSeen := ((o, lim) :: n.xSeen).take 64, fire := n.fire.or (some (hops + 1, o, link)) })
      if !s.pb gACQ 11 then s
      else
        let smp := s.acq.hist.find? (fun y => y.f ≤ lim)
        let f0 := (smp.map (·.f)).getD lim
        let t := (smp.map (·.tai)).getD (s.now - (s.fr - lim) * s.tf)
        let s := s.when (s.acq.st == .filling || s.acq.st == .armed) (fun s => s.rcSet 190 0 6)
        s.acqTrigger [(16, t, 256)] f0 o lim

/-- NEST_DOWN (R21, R28, R270, R280, R406, R408). The parent is a source of time (R29, R428). -/
def execNestDown (port : Nat) (bytes : List Byte) (off : Int) (s : State) : Host.Outcome State Fault Refusal :=
  .next (
    let r := s.nestDownTake port bytes
    if r.2 then
      let s := r.1.timeNest port off
      match s.nest.down with
      | some d => s.xtrigTake 32 d.xtrig
      | none => s
    else r.1)

/-- NEST_UP (R19, R21, R28, R272, R280, R408). -/
def execNestUp (port : Nat) (bytes : List Byte) (s : State) : Host.Outcome State Fault Refusal :=
  .next (
    let r := s.nestUpTake port bytes
    match r.2 with
    | some i =>
      match (r.1.kid i).reps.head? with
      | some u => r.1.xtrigTake i u.xtrig
      | none => r.1
    | none => r.1)

/-! ### Meanings of the recorder's rows -/

/-- PRE_TRIGGER_FILLED (recorder state table). -/
def execPreTriggerFilled (s : State) : Host.Outcome State Fault Refusal :=
  .next (if s.acq.st == .filling && decide (s.nPre ≤ s.acq.ring.length) then s.modAcq (fun a => { a with st := .armed }) else s)

/-- What follows a hold-off that has passed: disarmed where asked, else a new reservation (R400, R404). -/
def State.afterHoldoff (s : State) : State :=
  if s.acq.stopDis then s.modAcq (fun a => { a with st := .disarmed, held := false, stopDis := false, ring := [] }) else s.reserve

/-- RECORD_COMPLETE (R402, R410): the record waits for Peat, the hold-off starts. -/
def execRecordComplete (s : State) : Host.Outcome State Fault Refusal :=
  .next (match s.acq.cur with
    | some r =>
      if s.acq.st == .recording && s.recordFull r then
        let raw := (List.range 4).map (fun k =>
          (((s.acq.rawRing.getD k []).drop (s.acq.rawN.getD k 0 - (r.rawAt.getD k 0 + s.rawPost k))).take (s.rawPost k + s.rawPre k)).reverse)
        let r := { r with raw := raw, size := s.sRec }
        let cnt := s.pn gACQ 7 == 1
        let s := s.modAcq (fun a => { a with cur := none, done_ := a.done_ ++ [r], held := false, st := .holdoff
                                             hoEnd := s.now + s.pn gACQ 8, hoCnt := s.pn gACQ 9 })
        let s := s.rcSet 190 0 4
        if s.acq.stopDis || (if cnt then s.pn gACQ 9 == 0 else s.pn gACQ 8 == 0) then s.afterHoldoff else s
      else s
    | none => s)

/-- HOLDOFF_END (R402): the time has passed, or the count is used up. -/
def execHoldoffEnd (s : State) : Host.Outcome State Fault Refusal :=
  .next (if s.acq.st == .holdoff && (if s.pn gACQ 7 == 1 then s.acq.hoCnt == 0 else decide (s.acq.hoEnd ≤ s.now)) then s.afterHoldoff else s)

/-- MEMORY_RESERVED (R400): S_rec is free again in WAIT_MEMORY. -/
def execMemoryReserved (s : State) : Host.Outcome State Fault Refusal :=
  .next (if s.acq.st == .waitMemory && decide (s.sRec ≤ s.acqFree) then s.reserve else s)

end Sys2Proof.Machine
end

