-- ==== Sys2Proof/Machine/Twin.lean ====
section
/-!
DEFINITION. Twin operation (chapter 09): pair formation, heartbeats, the vector, output digests, resynchronisation, switch-over and
role swaps. What the shadow does with a vector is in TwinRows.lean, after the work of a boundary.
-/
namespace Sys2Proof.Machine
open Sys2Proof

/-- The envelope of a received block: a bad CRC-32 and a number off by more than 2 discard it (R28, R331). -/
def State.tTake (s : State) (b : TBlk) : State × Option Nat :=
  if !s.twinOn then (s, none)
  else if !b.crcOk then (s.modTwin (fun t => { t with nCrc := wrap32 (t.nCrc + 1) }), none)
  else
    let f := extendF s.fr b.fnum
    if misaligned s.fr f then (s.modTwin (fun t => { t with nMis := wrap32 (t.nMis + 1) }), none) else (s, some f)

/-- The newer of two lead epochs (R32, R329). -/
def maxEp (a b : Nat) : Nat := if newerEp b a then b else a

/-- A change of lead is noted with its cause, the frame of the last heartbeat and the new epoch (DIA.171, DIA.175, R33, R346). -/
def State.leadChange (s : State) (w : Who) (forced : Bool) (cause : Nat) : State :=
  (s.audit 0x40 w cause s.twin.hbF s.twin.epoch s.fr).modTwin (fun t =>
    { t with chgF := s.fr, lastChg := s.now, nForced := if forced then wrap32 (t.nForced + 1) else t.nForced
             nPlan := if forced then t.nPlan else wrap32 (t.nPlan + 1) })

/-! ### Formation (R325, R329) -/

/-- This module's formation time has run out (R329). -/
def State.formLate (s : State) : Bool := match s.twin.formTai with
  | some t => decide (t + s.pn gTWN 4 ≤ s.now)
  | none => false

/-- Digest of the configuration image in use, first 8 bytes (R325). -/
def State.imageDigest (s : State) : Nat := (s.sys.slots.getD (if s.sys.runB then 1 else 0) Slot_.reset).sha8

/-- PAIR_FORMATION (R325, R329): both members in READY, or the first alone once TWN.004 has passed. -/
def execPairFormation (partner : Option PairInfo) (s : State) : Host.Outcome State Fault Refusal :=
  .next (
    if !(s.twinOn && s.twin.formTai.isSome && (s.sys.st == .ready || s.sys.st == .faulted)) then s
    else match partner with
      | some p =>
        if p.sideB == s.twin.sideB || p.digest != s.imageDigest then s
        else
          let s := s.modTwin (fun t => { t with paired := true, pairF := s.fr, partner := some p, pReady := p.ready, formTai := none })
          if p.leading then (s.modTwin (fun t => { t with shadow := true, epoch := maxEp t.epoch p.epoch })).startResync
          else
            let s := s.modTwin (fun t =>
              { t with shadow := t.sideB, epoch := (maxEp t.epoch p.epoch + 1) % 65536, phase := if t.sideB then 4 else 0 })
            (s.audit 0x40 {} 0 0 s.twin.epoch s.fr).modTwin (fun t => { t with chgF := s.fr, lastChg := s.now })
      | none =>
        if s.formLate then
          let e := match s.twin.partner with
            | some p => maxEp s.twin.epoch p.epoch
            | none => s.twin.epoch
          let s := s.modTwin (fun t => { t with shadow := false, formTai := none, epoch := (e + 1) % 65536, phase := 0 })
          (s.audit 0x40 {} 0 0 s.twin.epoch s.fr).modTwin (fun t => { t with chgF := s.fr, lastChg := s.now })
        else s)

/-! ### Heartbeats (R341 to R344) -/

/-- What a frame boundary does for the pair: heartbeats of the frame before, stepping down, the count of dual leads, and the end
of READY where the lead's chain heartbeat came without its vector (R342 to R344, R351, R352, R354). -/
def State.twinFrame (s : State) : State :=
  if !(s.pb gTWN 1 && s.awake) then s
  else
    let t := s.twin
    let seen := t.seenLead
    let rdy := if t.shadow then t.ready else t.pReady
    let s1 := s.modTwin (fun t => { t with
      nDual := if !t.shadow && !seen.isEmpty then wrap32 (t.nDual + 1) else t.nDual
      seenLead := [], txT := [], excN := 0, readyN := if rdy then t.readyN + 1 else 0
      vecs := if t.phase == 0 || t.phase == 4 then t.vecs.filter (fun v => s.fr ≤ v.1 + 2) else t.vecs })
    match (seen.filter (fun e => newerEp e t.epoch || (e == t.epoch && t.sideB))).head? with
    | some e =>
      if t.shadow then s1
      else
        let s2 := s1.modTwin (fun t => { t with
          shadow := true, epoch := e, partFailed := false, chgF := s.fr, lastChg := s.now, nForced := wrap32 (t.nForced + 1) })
        (s2.audit 0x40 {} 3 t.epoch e s.fr).startResync
    | none => s1.when (t.shadow && t.ownFs.any (fun f => t.gotC.contains f) && (t.ready || t.phase == 4)) State.startResync

/-- The partner's SEAL or HB of frame `f` (R341): one that comes after its deadline is no heartbeat. -/
def State.heartbeatT (s : State) (f : Nat) : State :=
  s.modTwin (fun t =>
    let t := { t with paired := true, pairF := if t.paired then t.pairF else s.fr }
    if s.fr ≤ f && !t.ownFs.contains f then { t with gotT := recentF f t.gotT, hbF := max t.hbF f, lostT := false } else t)

/-- Newest frame number X whose chain deadline, X + 6 µs, passes before the next boundary (R341, R342). -/
def State.hbDue (s : State) : Nat := ((s.fr + 1) * s.tf - 6001) / s.tf

/-- A path has brought no heartbeat of the four frame numbers up to `g`. -/
def Twin.missing4 (t : Twin) (l : List Nat) (g : Nat) : Bool := (List.range 4).all (fun k => decide (t.pairF + k < g) && !l.contains (g - k))

/-- Neither heartbeat has come for four consecutive frame numbers by its deadline (R342). -/
def State.partnerDead (s : State) : Bool :=
  s.twin.paired && !s.twin.partFailed && s.twin.missing4 s.twin.gotT s.hbDue && s.twin.missing4 s.twin.gotC s.hbDue

/-- HEARTBEAT_PATH_LOST (R344): one path only has been missing for four frames. -/
def execHeartbeatPathLost (chain : Bool) (s : State) : Host.Outcome State Fault Refusal :=
  .next (
    let t := s.twin
    if !(s.pb gTWN 1 && t.paired) then s
    else if chain && t.missing4 t.gotC s.hbDue && !t.missing4 t.gotT s.hbDue && !t.lostC then s.modTwin (fun t => { t with lostC := true })
    else if !chain && t.missing4 t.gotT s.fr && !t.missing4 t.gotC s.hbDue && !t.lostT then s.modTwin (fun t => { t with lostT := true })
    else s)

/-! ### Switch-over (R346, R347) -/

/-- Apply frames for which the cells held the command of apply frame `h`, for want of a LEAD frame: those of the two frames after it, as far
as their commands have been formed (R245, R348). -/
def State.gapOf (s : State) (h : Nat) : List Nat := [h + 1, h + 2].filter (fun m => decide (m ≤ s.fr + 2))

/-- The cells held the command of apply frame `h` through the gap of a switch-over: the commands that the ledger books and the credit books
of every owned arm say so; INSERTED is the count of the held command, and what it misses of the grant is RETURNED (R37, R276, R282). -/
def State.holdGap (s : State) (h : Nat) : State :=
  let gap := s.gapOf h
  let s := s.mapCells (fun _ c => match c.hist.find? (fun x => x.1 == h) with
    | some x => { c with hist := c.hist.map (fun y => if gap.contains y.1 then (y.1, { st := x.2.1.st }, x.2.2) else y) }
    | none => c)
  forAll (List.range s.nArms) (fun s a =>
    match (s.armS a).books.find? (fun b => b.1 == h) with
    | some b =>
      let pos := fun (c : Nat) => ((s.cell c).hist.find? (fun x => x.1 == h)).map (·.2.1.st) == some .insertPos
      let k : Int := if s.pn gARM 1 a == 2 then (((s.channels a).filter pos).length : Nat) else b.2.1
      let mine := fun (y : Nat × Int × Int × Bool) => gap.contains y.1 && !y.2.2.2
      s.updArm a (fun x => { x with
        retSum := x.retSum + ((x.books.filter mine).map (fun y => y.2.1 - k)).sum
        books := x.books.map (fun y => if mine y then (y.1, k, y.2.1 + y.2.2.1 - k, false) else y) })
    | none => s) s

/-- The partner is declared failed (R342, R346, R347, R355): a shadow takes the lead under a raised epoch; not ready, it leads with
every channel BLOCK and enters FAULTED. `cause` 1 is missing heartbeats, 2 FAIL. After a silence the cells have held their last command over
the gap (R276). -/
def State.declareFailed (s : State) (cause : Nat) : State :=
  let was := s.twin
  let s := s.modTwin (fun t => { t with
    partFailed := true, plan := none, pReady := false, lostT := t.lostT || cause == 1, lostC := t.lostC || cause == 1 })
  let s := s.when was.plan.isSome (fun s => s.audit 0x40 {} 5 was.epoch was.epoch s.fr)
  if was.shadow && !was.selfFailed then
    let s := s.modTwin (fun t => { t with shadow := false, ready := false, phase := 0, epoch := (t.epoch + 1) % 65536 })
    let s := s.leadChange {} true cause
    if was.ready then s.when (cause == 1) (fun s => s.holdGap (was.leadF + 2)) else s.toFaulted
  else s

/-! ### The vector (R333) -/

/-- Raw samples of the arm-current inputs in the frame that ends here. -/
def State.armSamples (s : State) : List (List (Nat × Bool × Int)) :=
  (List.range s.nArms).map (fun a => (s.meas.ai.getD (s.pn gARM 13 a) AIn.reset).acc)

/-- The lead's vector after its own delivery. -/
def State.vecOf (s : State) (arms : List (List (Nat × Bool × Int))) : Vec :=
  { ai := s.meas.ai.map (fun a => (a.dMean, a.dLatest, a.dValid, a.dOvr)), sd := s.meas.sd.map (fun x => (x.dX, x.dValid, x.dAge))
    sv := s.meas.sv.map (fun v => v.dVal.zip v.dOk), arms := arms, field := s.fio.lat, wire := s.fio.brk, acts := s.twin.acts }

/-- The raw arm-current samples of a vector stand for the member's own (R333). -/
def State.vecSamples (s : State) (v : Vec) : State :=
  forAll (List.range s.nArms) (fun s a =>
    s.modMeas (fun m => { m with ai := m.ai.modify (s.pn gARM 13 a) (fun x => { x with acc := v.arms.getD a [] }) })) s

/-- Values of a vector as delivered values (R333, R335). -/
def State.vecDeliver (s : State) (v : Vec) : State :=
  let s := s.modMeas (fun m => { m with
    ai := m.ai.mapIdx (fun i a => match v.ai[i]? with
      | some x => { a with dMean := x.1, dLatest := x.2.1, dValid := x.2.2.1, dOvr := x.2.2.2 }
      | none => a)
    sd := m.sd.mapIdx (fun i a => match v.sd[i]? with
      | some x => { a with dX := x.1, dValid := x.2.1, dAge := x.2.2 }
      | none => a)
    sv := m.sv.mapIdx (fun i a => match v.sv[i]? with
      | some l => { a with dVal := l.map (·.1), dOk := l.map (·.2) }
      | none => a) })
  s.modFio (fun f => { f with lat := v.field, brk := v.wire })

/-! ### Output digests (R337) -/

/-- What the boundary has published and sent joins the control sample: publications, commands by position from the head, and nest payloads
without their CRC-32 (R337, notes/assumptions/117.md). -/
def State.digestTake (s : State) : State :=
  if !s.pb gTWN 1 then s
  else
    let pubs := (s.prog.zipIdx.filter (fun p => p.1.grp == .frame || p.1.grp == .control)).map (fun p => s.eng.outs.getD p.2 [])
    let d : DigFrame := {
      pubs := pubs, cmds := s.link.tx.map (fun x => (x.port, if s.topoOf x.port == 4 && x.sideB then x.cmds.reverse else x.cmds))
      nest := s.nestOut.map (fun x => (x.1, (x.2.drop 16).take (x.2.length - 20))) }
    s.modTwin (fun t => { t with digAcc := (t.digAcc ++ [d]).drop (t.digAcc.length + 1 - s.nc) })

/-- The output digest of the control sample that ends at this boundary, sent to the partner. -/
def State.digestForm (s : State) : State :=
  if !(s.pb gTWN 1 && s.engOn) then s
  else
    let d := Config.outDigest s.twin.digAcc ((List.range s.nArms).map s.ledgerDigest)
    (s.modTwin (fun t => { t with ownDig := some (s.fr, d) })).tSend (.outDigest d)

/-- OUT_DIGEST (R337, R340, R355): the shadow compares; the lead is taken as right. -/
def execOutDigest (b : TBlk) (dig : Nat) (s : State) : Host.Outcome State Fault Refusal :=
  .next (
    let r := s.tTake b
    match r.2, r.1.twin.ownDig with
    | some f, some (g, own) =>
      if f != g || dig == own then r.1
      else if !r.1.isShadow then r.1.modTwin (fun t => { t with plan := none, phase := 1 })
      else if !(r.1.twin.ready || r.1.twin.phase == 4) then r.1
      else
        let s := r.1
        let near := decide (s.now ≤ s.twin.joinTai + 1000000000) && s.twin.joinTai != 0
        let s := (s.modTwin (fun t => { t with ready := false, plan := none, joinBad := if near then min 255 (t.joinBad + 1) else 0 })).rcSet 170 0 9
        let s := s.audit 0x40 {} 6 own dig f
        if s.pb gTWN 7 && !s.twin.giveup && s.twin.joinBad < s.pn gTWN 8 then s.startResync
        else s.modTwin (fun t => { t with phase := 0 })
    | _, _ => r.1)

/-- RESYNC_GIVEUP (R340). -/
def execResyncGiveup (s : State) : Host.Outcome State Fault Refusal :=
  .next (if s.isShadow && decide (s.pn gTWN 8 ≤ s.twin.joinBad) && !s.twin.giveup then
      (s.audit 0x40 {} 7 s.twin.joinBad 0 s.fr).modTwin (fun t => { t with giveup := true, ready := false, phase := 0 })
    else s)

/-- RESYNC_COMPLETE (R338): the shadow's digest of the first sample after it joined matches the lead's. -/
def execResyncComplete (dig : Nat) (s : State) : Host.Outcome State Fault Refusal :=
  .next (if s.isShadow && s.twin.phase == 4 && s.twin.ownDig == some (s.fr, dig) && !s.twin.giveup then
      (s.audit 0x40 {} 8 s.twin.epoch s.twin.epoch s.fr).modTwin (fun t =>
        { t with ready := true, phase := 0, durSync := wrap32 ((s.now - t.rsStart) / 1000) })
    else s)

/-- Words as bytes, most significant first. -/
def wordBytes (l : List Word) : List Byte := l.flatMap (fun w => bytesOfNat 4 w.toNat)

/-- What the lead captures and sends in STATE blocks: both banks where their CRCs differ from the shadow's, and its state image (R338). -/
def State.imageOut (s : State) : TBody :=
  let e := s.eng
  .state (if Config.banksDiffer s.fr then wordBytes e.bankA ++ wordBytes e.bankB else [])
    (Config.stateBytes { outs := e.outs, sts := e.sts, swap := e.swapAt, banks := none, arm := s.arm, kern := s.kern, prot := s.prot
                         kids := s.nest.kids, frame := s.fr })

/-- The step of a control boundary in a resynchronisation (R338): capture, then joining on live vectors. -/
def State.resyncControl (s : State) : State :=
  if !s.pb gTWN 1 then s
  else if s.isShadow then
    if s.twin.phase == 1 then s.modTwin (fun t => { t with phase := 2, imgBuf := [], vecs := [] })
    else if s.twin.phase == 3 then s.modTwin (fun t => { t with phase := 4, joinTai := s.now, ownDig := none })
    else s
  else if s.twin.phase == 1 then (s.modTwin (fun t => { t with phase := 2 })).tSend s.imageOut
  else s

/-! ### Role swaps (R353 to R355) -/

/-- A swap is planned for the first supervisory boundary at least one supervisory sample ahead; SWAP goes out (R353). -/
def State.planSwap (s : State) : State :=
  if s.pb gTWN 1 && !s.twin.shadow && s.twin.paired && s.twin.plan.isNone then
    (s.modTwin (fun t => { t with plan := some (s.nextSup s.fr + s.fpms), replied := false })).tSend (.swap (s.nextSup s.fr + s.fpms))
  else s

/-- SWAP_PERIOD_ELAPSED (R353). -/
def execSwapPeriodElapsed (s : State) : Host.Outcome State Fault Refusal :=
  .next (if s.pn gTWN 2 == 1 && decide (s.twin.lastChg + s.pn gTWN 3 ≤ s.now) then s.planSwap else s)

/-- SWAP (R353, R354): the shadow takes the plan and echoes it; at the lead it is the reply. -/
def execSwap (b : TBlk) (atF : Nat) (s : State) : Host.Outcome State Fault Refusal :=
  .next (
    let r := s.tTake b
    match r.2 with
    | some _ =>
      if r.1.isShadow then (r.1.modTwin (fun t => { t with plan := some atF, replied := true })).tSend (.swap atF)
      else if r.1.twin.plan == some atF then r.1.modTwin (fun t => { t with replied := true })
      else r.1
    | none => r.1)

/-- A planned swap at a supervisory boundary takes place or moves (R354). -/
def State.plannedSwap (s : State) : State :=
  match s.twin.plan with
  | some f =>
    if !s.pb gTWN 1 || s.fr < f then s
    else if s.twin.replied && decide (s.nc ≤ s.twin.readyN) then
      let s := s.modTwin (fun t =>
        { t with plan := none, replied := false, shadow := !t.shadow, ready := !t.shadow, pReady := t.shadow, epoch := (t.epoch + 1) % 65536 })
      s.leadChange {} false 4
    else
      let s := s.modTwin (fun t => { t with plan := some (s.fr + s.fpms), replied := false })
      let s := (s.audit 0x40 {} 9 f (s.fr + s.fpms) s.fr).rcSet 170 0 12
      if s.twin.shadow then s else s.tSend (.swap (s.fr + s.fpms))
  | none => s

/-! ### Blocks that the pair's members take without a latch -/

/-- VECTOR (R333, R335): kept until its frame is latched, or buffered through a resynchronisation (R338). -/
def execVector (b : TBlk) (v : Vec) (s : State) : Host.Outcome State Fault Refusal :=
  .next (
    let r := s.tTake b
    match r.2 with
    | some f => if r.1.isShadow then r.1.modTwin (fun t => { t with vecs := t.vecs ++ [(f, v)] }) else r.1
    | none => r.1)

/-- Digest that the module has formed of an item in this frame: ports 0 to 31 are Crihel ports, 64 to 95 the links to children, 96 the
parent's (R334). -/
def State.itemDig (s : State) (i : Nat) : Option Nat :=
  if i < 32 then (s.port i).dig else if i == 96 then s.nest.par.dig else (s.kid (i - 64)).dig

/-- The lead sends its own content of an item (R334). -/
def State.sendException (s : State) (i : Nat) : State :=
  s.tSend (if i < 32 then .exception i (s.port i).slots []
    else .exception i [] (if i == 96 then s.nest.par.bytes else (s.kid (i - 64)).bytes))

/-- The partner's digest of an item has come. -/
def State.itemCame (s : State) (i : Nat) : State :=
  if i < 32 then s.updPort i (fun x => { x with digGot := true })
  else if i == 96 then s.modNest (fun n => { n with par := { n.par with digGot := true } })
  else s.updKid (i - 64) (fun k => { k with digGot := true })

/-- Items whose content the module holds and whose digest has not come from its partner in the frame that ends: they count as differing
(R334). -/
def State.itemsMissing (s : State) : List Nat :=
  ((List.range 32).filter (fun p => (s.port p).dig.isSome && !(s.port p).digGot)) ++
    ((List.range 32).filter (fun i => (s.kid i).dig.isSome && !(s.kid i).digGot)).map (· + 64) ++
    (if s.nest.par.dig.isSome && !s.nest.par.digGot then [96] else [])

/-- A new frame begins for the items that the members compare. -/
def State.itemsClear (s : State) : State :=
  let nst := fun (k : Nst) => { k with dig := none, bytes := [], digGot := false }
  (s.modLink (fun l => { l with ports := l.ports.map (fun x => { x with dig := none, slots := [], digGot := false }) })).modNest (fun n =>
    { n with kids := n.kids.map nst, par := nst n.par })

/-- DIGESTS (R334): for every port or link whose digest differs from the lead's own, an EXCEPTION goes out. -/
def execDigests (b : TBlk) (ports : List (Nat × Nat)) (s : State) : Host.Outcome State Fault Refusal :=
  .next (
    let r := s.tTake b
    match r.2 with
    | some _ =>
      if r.1.isShadow then r.1
      else forAll ports (fun s x => (s.when (r.1.itemDig x.1 != some x.2) (fun s => s.sendException x.1)).itemCame x.1) r.1
    | none => r.1)

/-- HB (R331, R341): the shadow's heartbeat with its READY. The lead captures its state image for a shadow that is not ready (R338). -/
def execHb (b : TBlk) (_lepoch : Nat) (ready own : Bool) (s : State) : Host.Outcome State Fault Refusal :=
  .next (
    let r := s.tTake b
    match r.2 with
    | some f =>
      let s := (r.1.heartbeatT f).modTwin (fun t => { t with pReady := ready && !own })
      if s.isShadow then s
      else
        s.modTwin (fun t =>
          { t with partFailed := t.partFailed && !ready, phase := if ready then 0 else if t.phase == 0 then 1 else t.phase })
    | none => r.1)

/-- RELAY (R239, R245, R331): T_trav of a chain, or statuses the partner proxies. -/
def execRelay (b : TBlk) (port : Nat) (ttrav : Option Nat) (slots : List (Nat × Slot)) (s : State) : Host.Outcome State Fault Refusal :=
  .next (
    let r := s.tTake b
    match r.2 with
    | some f =>
      let s := match ttrav with
        | some t => if r.1.topoOf port == 4 then r.1.setTrav port t else r.1
        | none => r.1
      if slots.isEmpty then s
      else (s.updPort port (fun x => { x with proxy := true, relayF := some s.fr })).modLink (fun l =>
        { l with stq := l.stq ++ slots.map (fun x => (f, x.1, { x.2 with relayed := true })) })
    | none => r.1)

end Sys2Proof.Machine
end

