-- ==== Sys2Proof/Machine/FieldIo.lean ====
section
/-!
DEFINITION. Field inputs and outputs (chapter 16): levels, wire breaks, output states, faults, test pulses, logic silence, L+.
-/
namespace Sys2Proof.Machine
open Sys2Proof

/-! ### Inputs (R540 to R545) -/

/-- Class thresholds of a group B common in mV: reads high at or above, reads low at or below (R541). -/
def groupB : Nat → Int × Int
  | 0 => (16000, 9000) | 1 => (32000, 19000) | 2 => (77000, 44000) | _ => (88000, 50000)

/-- Raw level of input `i` at a voltage; between the thresholds it holds its previous value (R540, R541). -/
def State.rawLevel (s : State) (i : Nat) (mv : Int) (old : Bool) : Bool :=
  if i < 16 then
    let t := Config.groupA i
    if mv > t.1 then true else if mv < t.2.1 then false else old
  else
    let t := groupB (s.pn gFIO 5 ((i - 16) / 8))
    if mv ≥ t.1 then true else if mv ≤ t.2 then false else old

/-- A 32-bit word from a truth value per bit. -/
def wordOfBits (f : Nat → Bool) : Word := (List.range 32).foldl (fun w i => w ||| bitAt (f i) i) 0

/-- Bit `i` of a word set to a value. -/
def setBit (w : Word) (i : Nat) (b : Bool) : Word := (w &&& ~~~(bitAt true i)) ||| bitAt b i

/-- Samples of a field cycle in a time of 20 ms, first and last counted (R543). -/
def wireSamples : Nat := 2001
/-- Samples of a field cycle in a time of 10 ms, first and last counted (R558). -/
def lpSamples : Nat := 1001

/-- FIELD_FRAME (R538 to R545, R558). -/
def execFieldFrame (f : FieldObs) (s : State) : Host.Outcome State Fault Refusal :=
  .next (
    if !s.up then s
    else if !f.ok then s.rcSet 263 0 5
    else
      let raw := wordOfBits (fun i => s.rawLevel i (f.mv.getD i 0) (s.fio.raw.getLsbD i))
      let low := fun (i : Nat) => decide (f.mv.getD i 0 < (Config.groupA i).2.2)
      let cnt := fun (b : Bool) (n : Nat) => if b then min 65535 (n + 1) else 0
      s.modFio (fun x =>
        { x with
          raw := raw, ok := true, lastF := s.now, lplus := f.lplus
          since := x.since.mapIdx (fun i n => cnt (raw.getLsbD i != x.lev.getLsbD i) n)
          below := x.below.mapIdx (fun i n => if i < 16 then cnt (low i) n else 0)
          above := x.above.mapIdx (fun i n => if i < 16 then cnt (!low i) n else 0)
          lpMissN := cnt (decide (f.lplus < 15000)) x.lpMissN, lpLowN := cnt (decide (f.lplus < 19200)) x.lpLowN
          lpMissC := cnt (decide (15500 ≤ f.lplus)) x.lpMissC, lpLowC := cnt (decide (19700 ≤ f.lplus)) x.lpLowC
          outs := x.outs.mapIdx (fun o y =>
            { y with term := decide (12000 < f.term.getD o 0), limit := f.limit.getD o false, mA := f.current.getD o 0 }) }))

/-- INPUT_LEVEL_CHANGE (R542): the raw level has differed for FIO.001. A rising edge on the black-start request input is latched (R153). -/
def execInputLevelChange (i : Nat) (high : Bool) (s : State) : Host.Outcome State Fault Refusal :=
  .next (
    if s.up && i < 32 && s.fio.raw.getLsbD i == high && s.fio.lev.getLsbD i != high && decide (s.pn gFIO 1 i + 1 ≤ s.fio.since.getD i 0) then
      let s := s.modFio (fun x => { x with lev := setBit x.lev i high, since := x.since.set i 0 })
      s.when (high && s.pn gGFM 3 == i + 1) (fun s => s.modKern (fun k => { k with bsEdge := true }))
    else s)

/-- WIRE_BREAK (R543, R545). -/
def execWireBreak (i : Nat) (s : State) : Host.Outcome State Fault Refusal :=
  .next (if s.up && i < 16 && s.pb gFIO 3 i && !s.fio.lpMiss && decide (wireSamples ≤ s.fio.below.getD i 0) then
      s.modFio (fun x => { x with brk := setBit x.brk i true })
    else s)

/-- WIRE_BREAK_CLEARED (R543, R545). -/
def execWireBreakCleared (i : Nat) (s : State) : Host.Outcome State Fault Refusal :=
  .next (if s.up && i < 16 && s.fio.brk.getLsbD i && !s.fio.lpMiss && decide (wireSamples ≤ s.fio.above.getD i 0) then
      s.modFio (fun x => { x with brk := setBit x.brk i false })
    else s)

/-- The levels latched at a frame boundary: a reported input delivers low (R538, R542, R543). -/
def State.fieldLatch (s : State) : State := s.modFio (fun x => { x with lat := x.lev &&& ~~~x.brk })

/-! ### Outputs (R546, R547) -/

/-- The output is paired and this member is the shadow (R328, R550). -/
def State.outPaired (s : State) (o : Nat) : Bool := s.isShadow && (s.raw gTWN 10).getLsbD o

/-- Some tracker's compare holds the output on (R88, R546, R554). -/
def State.cmpHolds (s : State) (o : Nat) : Bool := (List.range 4).any (fun t => s.cmpOut t == some o && (s.tracker t).pulseEnd.isSome)

/-- Source command of output `o` (R546). -/
def State.outSource (s : State) (o : Nat) : Bool :=
  match s.pn gFIO 20 o with
  | 0 => (s.raw gFIO 21).getLsbD o
  | 1 => (match s.expVal (.fieldOut o) with | some w => wB w | none => false)
  | _ => s.cmpHolds o

/-- Safe state of output `o` (R555): off, on, or the last commanded state. -/
def State.outSafe (s : State) (o : Nat) (last : Bool) : Bool :=
  match s.pn gFIO 22 o with
  | 0 => false | 1 => true | _ => last

/-- State of output `o` by the table of R547; without field supply of the field side, in DORMANT, off (R539). -/
def State.outState (s : State) (o : Nat) : Bool :=
  let y := s.outS o
  if !s.up then false
  else if s.fio.silent || s.fio.silHold then s.outSafe o y.cmd
  else if y.latch then false
  else if s.sys.st == .standby || s.sys.st == .configPending then false
  else if s.breakerOut o then false
  else if s.outPaired o then false
  else s.outSource o

/-- Compare pulses that begin at this boundary (R88). -/
def State.comparePulses (s : State) : State :=
  forAll (List.range 4) (fun s t =>
    match (s.tracker t).action with
    | some f => if f ≤ s.fr then
        s.updTrk t (fun x => { x with action := none, pulseEnd := if (s.cmpOut t).isSome then some (x.actionTai + s.pn gANG 25 t) else none })
      else s
    | none => s) s

/-- Output commands latched at a frame boundary (R538, R546, R547). -/
def State.fieldOutputs (s : State) : State :=
  let s := s.comparePulses
  s.modFio (fun x => { x with outs := x.outs.mapIdx (fun o y =>
    { y with cmd := s.outState o, src := s.outSource o, safe := s.fio.silent || s.fio.silHold }) })

/-- COMPARE_OUTPUT_PULSE_END (R88, ANG.025). -/
def execCompareOutputPulseEnd (t : Nat) (s : State) : Host.Outcome State Fault Refusal :=
  .next (match (s.tracker t).pulseEnd with
    | some e => if e ≤ s.now then
        let s := s.updTrk t (fun x => { x with pulseEnd := none })
        match s.cmpOut t with
        | some o => s.updOut o (fun y => { y with cmd := s.outState o, src := s.outSource o })
        | none => s
      else s
    | none => s)

/-! ### Faults of outputs (R548 to R551) -/

/-- A change of output `o`'s fault bits with its audit record (R551): bit numbers are those of DIA.262. -/
def State.outFault (s : State) (o bit : Nat) (on : Bool) (f : OutS → OutS) : State :=
  (s.audit (Config.auditType 0) {} o (if on then 0 else 1) (if on then 1 else 0) bit).updOut o f

/-- Both outputs of a cross-short are reported and latched off (R549, R552). -/
def State.crossShort (s : State) (k j : Nat) : State :=
  forAll [k, j] (fun s o => s.outFault o 7 true (fun y => { y with cross := true, latch := true, cmd := false })) s

/-- THERMAL_SHUTDOWN (R548): the third within 10 s latches the output off with SHORT_GND. -/
def execThermalShutdown (o : Nat) (s : State) : Host.Outcome State Fault Refusal :=
  .next (
    let y := s.outS o
    if s.up && o < 16 && y.cmd && y.limit && !y.therm then
      let l := s.now :: y.shuts.filter (fun t => decide (s.now < t + 10000000000))
      let s := s.updOut o (fun y => { y with therm := true, nTherm := wrap32 (y.nTherm + 1), shuts := l })
      if decide (3 ≤ l.length) && !s.fio.lpMiss then
        s.outFault o 5 true (fun y => { y with gnd := true, latch := true, cmd := false })
      else s
    else s)

/-- OUTPUT_THERMAL_RESTART (R548). -/
def execOutputThermalRestart (o : Nat) (s : State) : Host.Outcome State Fault Refusal :=
  .next (if o < 16 && (s.outS o).therm then s.updOut o (fun y => { y with therm := false }) else s)

/-- OUTPUT_FAULT (R549, R550): OPEN_LOAD and EXT_HIGH come and go. SHORT_GND and CROSS_SHORT are found by their own rows. -/
def execOutputFault (o : Nat) (f : OutFault) (present : Bool) (s : State) : Host.Outcome State Fault Refusal :=
  .next (
    let y := s.outS o
    if !(s.up && o < 16) || s.fio.lpMiss then s
    else match f with
      | .openLoad =>
        if present && y.cmd && s.pb gFIO 27 o && decide (y.mA < 3) && !y.open_ then s.outFault o 4 true (fun y => { y with open_ := true })
        else if !present && y.open_ then s.outFault o 4 false (fun y => { y with open_ := false })
        else s
      | .extHigh =>
        if present && !y.cmd && y.term && !s.outPaired o && !y.extHi then s.outFault o 6 true (fun y => { y with extHi := true })
        else if !present && y.extHi then s.outFault o 6 false (fun y => { y with extHi := false })
        else s
      | .shortGnd => s
      | .crossShort => s)

/-- FIO.030 takes effect (R549): latches whose condition is absent are released. -/
def State.faultRelease (s : State) (mask : Nat) : State :=
  forAll ((List.range 16).filter (fun o => mask.testBit o)) (fun s o =>
    let y := s.outS o
    let s := if y.gnd && !y.therm then s.outFault o 5 false (fun y => { y with gnd := false, shuts := [] }) else s
    let s := if y.cross && !y.term then s.outFault o 7 false (fun y => { y with cross := false }) else s
    s.updOut o (fun y => { y with latch := y.gnd || y.cross })) s

/-- No test of a Hedgerow output is under way: two dark pulses of HDG.071 that begin 5 ms apart end within 6 ms (R382). -/
def State.hdgQuiet (s : State) : Bool := s.hdg.outs.all (fun x => decide (x.lastT + 6000000 ≤ s.now))

/-- FIELD_TEST_PULSE (R382, R550, R552 to R554, R558): a result discarded under R553 waits for the output's next pulse time. -/
def execFieldTestPulse (o : Nat) (obs : PulseObs) (s : State) : Host.Outcome State Fault Refusal :=
  .next (
    let y := s.outS o
    if !(s.up && o < 16 && y.cmd && !y.therm && s.pb gFIO 24 o) || s.cmpHolds o || s.outPaired o ||
        !decide (y.lastT + s.pn gFIO 26 ≤ s.now) || !decide (s.fio.lastPulse + 10000000 ≤ s.now) || !s.hdgQuiet then s
    else
      let s := (s.modFio (fun x => { x with lastPulse := s.now })).updOut o (fun y =>
        { y with lastT := s.now, nTest := wrap32 (y.nTest + 1) })
      if s.fio.lpMiss then s
      else if obs.off then (s.updOut o (fun y => { y with cmd := false, nDisc := wrap32 (y.nDisc + 1) })).rcSet 262 o 11
      else if obs.fell then forAll (obs.others.filter (fun j => j < 16 && j != o && !(s.outS j).cmd)) (fun s j => s.crossShort o j) s
      else match obs.joint.filter (fun j => j < 16 && j != o && (s.outS j).cmd) with
        | some j => s.crossShort o j
        | none => if y.extHi then s else s.outFault o 6 true (fun y => { y with extHi := true }))

/-! ### Logic silence and field supply (R555 to R558) -/

/-- LOGIC_SILENCE (R555): no valid field frame for FIO.023. -/
def execLogicSilence (s : State) : Host.Outcome State Fault Refusal :=
  .next (if s.up && !s.fio.silent && decide (s.fio.lastF + s.pn gFIO 23 ≤ s.now) then
      let s := (s.modFio (fun x => { x with silent := true, silAt := s.now, ok := false })).rcSet 263 0 4
      s.modFio (fun x => { x with outs := x.outs.mapIdx (fun o y => { y with cmd := s.outSafe o y.cmd, safe := true }) })
    else s)

/-- FIELD_FRAMES_RETURN (R556): the safe states hold until the next supervisory boundary. -/
def execFieldFramesReturn (s : State) : Host.Outcome State Fault Refusal :=
  .next (if s.fio.silent && s.fio.ok then
      (s.audit (Config.auditType 1) {} 0 s.fio.silAt ((s.now - s.fio.silAt : Nat) : Int)).modFio (fun x =>
        { x with silent := false, silHold := true })
    else s)

/-- LPLUS_MONITOR (R558). -/
def execLplusMonitor (s : State) : Host.Outcome State Fault Refusal :=
  .next (if s.up then s.modFio (fun x =>
      { x with lpMiss := decide (lpSamples ≤ x.lpMissN) || (x.lpMiss && !decide (lpSamples ≤ x.lpMissC))
               lpLow := decide (lpSamples ≤ x.lpLowN) || (x.lpLow && !decide (lpSamples ≤ x.lpLowC)) })
    else s)

end Sys2Proof.Machine
end

