-- ==== Sys2Proof/Machine/Session.lean ====
section
/-!
DEFINITION. Sessions and E1 connections as far as other units end them (R454, R459, R482), the SFP cages and temperatures (chapter 17).
-/
namespace Sys2Proof.Machine
open Sys2Proof

/-- Where a request of channel `ch` comes from, for audit records (R508): PCIe 1, E1 2. -/
def State.whoOf (s : State) (ch : Nat) : Who :=
  let c := s.chan ch
  { origin := if s.pn gMBX 1 ch == 2 then 2 else 1, ch := ch
    sess := (c.sess.map (·.id)).getD 0, cred := (c.sess.map (·.cred)).getD 0xFFFF }

/-- The session of a channel closes: with an audit record, and an open transfer of its ends without effect (R459, R482). `why` 0 is
CLOSE_SESSION, 1 idle time, 2 loss of its connection, 3 a KEYS image. -/
def State.sessionClose (s : State) (ch why : Nat) : State :=
  match (s.chan ch).sess with
  | some _ =>
    let s := (s.audit 0x03 (s.whoOf ch) 0 0 0 why).updChan ch (fun c => { c with sess := none })
    match s.sys.xfer with
    | some x => if x.ch == ch then s.modSys (fun y => { y with xfer := none }) else s
    | none => s
  | none => s

/-- The E1 connection of a channel closes, and its session with it (R454). -/
def State.e1Drop (s : State) (ch : Nat) : State :=
  if (s.chan ch).e1 then (s.sessionClose ch 2).updChan ch (fun c => { c with e1 := false }) else s

/-- Every E1 connection drops: the link is down (R424, R565). -/
def State.e1DropAll (s : State) : State := forAll (List.range 8) State.e1Drop s

/-- SFP_INSERT_REMOVE (R565): presence and fault of a cage; removal drops its link. -/
def execSfpInsertRemove (e2 present fault : Bool) (s : State) : Host.Outcome State Fault Refusal :=
  .next (
    if !s.up then s
    else
      let s := s.modHw (fun h => if e2 then { h with e2 := present } else { h with e1 := present })
      let s := s.when fault (fun s => s.rcSet 270 0 (if e2 then 7 else 6))
      if !present && !e2 then s.e1DropAll else s)

/-- Degrees Celsius as binary32. -/
def degC (n : Int) : F32 := fOfInt n

/-- TEMPERATURE_THRESHOLD (R573): flags set beyond their thresholds and cleared 2 °C inside them. -/
def execTemperatureThreshold (t : F32) (s : State) : Host.Outcome State Fault Refusal :=
  .next (
    if !s.up then s
    else
      let h := s.hw
      let high := fGt t (degC 70) || (h.high && !fLe t (degC 68))
      let limit := fGt t (degC 80) || (h.limit && !fLe t (degC 78))
      let low := fLt t (degC (-25)) || (h.low && !fGe t (degC (-23)))
      let s := s.modHw (fun h => { h with base := t, high := high, limit := limit, low := low })
      s.when ((high && !h.high) || (limit && !h.limit) || (low && !h.low)) (fun s => s.rcSet 270 0 1))

end Sys2Proof.Machine
end

