-- ==== Sys2Proof/Machine/Store.lean ====
section
/-!
DEFINITION. The Peat record store (chapter 15): blocks and wear, journal, audit pages, disturbance records, scrubbing, loss of data.
-/
namespace Sys2Proof.Machine
open Sys2Proof

/-! ### Blocks (R516, R517, R520) -/

/-- Blocks of the two dies. -/
def peatTotal : Nat := 32768
/-- A block of the system area: blocks 0 to 3 of each die (R516). -/
def peatSystem (b : Nat) : Bool := b % 16384 < 4
/-- Erase count of a block. -/
def Store.wear (p : Store) (b : Nat) : Nat := (mGet p.erase b).getD 0
/-- Good blocks of the pool (R516, R517). -/
def Store.good (p : Store) : List Nat := (List.range peatTotal).filter (fun b => !peatSystem b && !p.bad.contains b)
/-- Good blocks that hold nothing and take no copy. -/
def Store.freeBlocks (p : Store) : List Nat :=
  p.good.filter (fun b => !p.blocks.any (fun x => x.1 == b) && !p.movs.any (fun x => x.2 == b))

/-- Die of a block (flash geometry). -/
def dieOf (b : Nat) : Nat := b / 16384

/-- Time at which an erase of block `b`, asked for at `t`, has ended at the latest: 3.5 ms after those that its die still has to run (flash
geometry, R523). -/
def Store.eraseEnd (p : Store) (t b : Nat) : Nat :=
  ((p.ers.filter (fun x => dieOf x.1 == dieOf b)).map (·.2)).foldl max t + 3500000

/-- A block is erased from `t` on. -/
def Store.erased (p : Store) (t b : Nat) : Store :=
  { p with erase := mPut b (p.wear b + 1) p.erase, reErase := p.reErase.filter (fun x => x != b)
           ers := p.ers.filter (fun x => decide (t < x.2)) ++ [(b, p.eraseEnd t b)] }

/-- An operation that has run on both dies at `t`: the erase that each was running has ended before it (R523). -/
def Store.ran (p : Store) (t : Nat) : Store :=
  let l := p.ers.filter (fun x => decide (t < x.2))
  { p with ers := (l.filter (fun x => dieOf x.1 == 0)).drop 1 ++ (l.filter (fun x => dieOf x.1 != 0)).drop 1 }

/-- POWER_FAIL aborts the erase in progress on each die; every block whose erase has not ended stays marked for it (R527, R528). -/
def Store.abortErase (p : Store) (t : Nat) : Store :=
  { p with reErase := p.reErase ++ (p.ers.filter (fun x => decide (t < x.2))).map (·.1), ers := [] }

/-- The block of a list with the least key, the first where several have it. -/
def leastBy (key : Nat → Nat) : List Nat → Option Nat
  | [] => none
  | b :: l => some (l.foldl (fun m x => if key x < key m then x else m) b)

/-- A block is erased again before use where an erase of it had been aborted (R528). -/
def Store.ready (p : Store) (t b : Nat) : Store := if p.reErase.contains b then p.erased t b else p

/-- A new block for a partition's item: the free good block with the lowest erase count (R520). -/
def Store.take (p : Store) (t part item : Nat) : Store :=
  match leastBy p.wear p.freeBlocks with
  | some b => let p := p.ready t b; { p with blocks := p.blocks ++ [(b, part, item)], dirty := p.dirty + 1 }
  | none => p

/-- `n` new blocks. -/
def Store.takeN (p : Store) (t part item : Nat) : Nat → Store
  | 0 => p
  | n + 1 => (p.take t part item).takeN t part item n

/-- Copies of the blocks in `l` are given up; the blocks that took them are to be erased. -/
def Store.unmove (p : Store) (l : List Nat) : Store :=
  { p with movs := p.movs.filter (fun x => !l.contains x.1)
           reErase := p.reErase ++ (p.movs.filter (fun x => l.contains x.1)).map (·.2) }

/-- The blocks of a partition's item are erased and free. -/
def Store.drop (p : Store) (t part item : Nat) : Store :=
  let l := (p.blocks.filter (fun x => x.2.1 == part && x.2.2 == item)).map (·.1)
  let p := p.unmove l
  { (l.foldl (fun p b => p.erased t b) p) with
    blocks := p.blocks.filter (fun x => !(x.2.1 == part && x.2.2 == item)), dirty := p.dirty + 1 }

/-- The data of block `b` is copied to block `n`; the new mapping counts from the next commit, and till then reads go to `b` (R521, R525). -/
def Store.copyTo (p : Store) (t b n : Nat) : Store := let p := p.ready t n; { p with movs := p.movs ++ [(b, n)], dirty := p.dirty + 1 }

/-- Block `b` holds data that no copy has been made of. -/
def Store.movable (p : Store) (b : Nat) : Bool := p.blocks.any (fun x => x.1 == b) && !p.movs.any (fun x => x.1 == b)

/-- The data of block `b` is written to a new block, the free one with the lowest erase count (R517, R520, R521, R530). -/
def Store.renew (p : Store) (t b : Nat) : Store :=
  if p.movable b then
    match leastBy p.wear p.freeBlocks with
    | some n => p.copyTo t b n
    | none => p
  else p

/-- The map of a commit: each copied block is replaced by its copy (R521, R525). -/
def movedMap (movs : List (Nat × Nat)) (blocks : List (Nat × Nat × Nat)) : List (Nat × Nat × Nat) :=
  blocks.map (fun x => match movs.find? (fun m => m.1 == x.1) with
    | some m => (m.2, x.2)
    | none => x)

/-- A commit maps the copies made since the last one and has the old blocks erased (R521, R525). -/
def Store.moved (p : Store) (t : Nat) : Store :=
  { (p.movs.foldl (fun p m => p.erased t m.1) p) with
    blocks := movedMap p.movs p.blocks, movs := [], reads := p.reads.filter (fun r => !p.movs.any (fun m => m.1 == r.1)) }

/-- Spread of the erase counts of good blocks; a block that the list does not name has none (R520). -/
def Store.spreadOf (p : Store) (goodN : Nat) : Nat :=
  let l := (p.erase.filter (fun x => !p.bad.contains x.1)).map (·.2)
  let hi := l.foldl max 0
  hi - (if l.length < goodN then 0 else l.foldl min hi)

/-- Static levelling (R520): where the erase counts spread by more than STO.003, the data of the block with the lowest count moves to the
free block with the highest. -/
def Store.level (p : Store) (t goodN spread : Nat) : Store :=
  if p.spreadOf goodN ≤ spread then p
  else
    match leastBy p.wear ((p.blocks.map (·.1)).filter p.movable), leastBy (fun b => 1000000000 - p.wear b) p.freeBlocks with
    | some lo, some hi => if p.wear lo < p.wear hi then p.copyTo t lo hi else p
    | _, _ => p

/-- Copies that a partition keeps (R516). -/
def peatCopies (part : Nat) : Nat := if part == 3 || part == 5 || part == 8 then 1 else 2
/-- Logical blocks allotted to a partition (R516, DIA.255). -/
def peatAllotted : Nat → Nat
  | 0 => 512 | 1 => 128 | 2 => 4 | 3 => 128 | 4 => 260 | 5 => 16 | 6 => 4 | 7 => 8 | _ => 29184
/-- Logical blocks of a partition in use (DIA.255). -/
def Store.used (p : Store) (part : Nat) : Nat := (p.blocks.filter (fun x => x.2.1 == part)).length / peatCopies part
/-- A new pair of blocks for a partition that is written page by page, one copy on each die: the two oldest are erased and used again where it
has all that is allotted (R516, R520). -/
def Store.ringBlock (p : Store) (t part : Nat) : Store :=
  if p.used part < peatAllotted part then p.takeN t part 0 2
  else
    let l := ((p.blocks.filter (fun x => x.2.1 == part)).take 2).map (·.1)
    let p := p.unmove l
    ({ (l.foldl (fun p b => p.erased t b) p) with blocks := p.blocks.filter (fun x => !l.contains x.1) } : Store).takeN t part 0 2

/-- Pages in use: 64 in each block in use (R521). -/
def Store.pages (p : Store) : Nat := 64 * p.blocks.length
/-- Sum of the erase counts of good blocks. -/
def Store.wearSum (p : Store) : Nat := ((p.erase.filter (fun x => !p.bad.contains x.1)).map (·.2)).sum
/-- Number of good blocks of the pool. -/
def Store.goodN (p : Store) : Nat := 32760 - p.factory - p.bad.length
/-- Remaining endurance in per mille (R533). -/
def Store.endurance (p : Store) : Nat :=
  let n := 60000 * p.goodN
  1000 * (n - p.wearSum) / n
/-- Mean erase count, whole cycles (DIA.251). -/
def Store.wearMean (p : Store) : Nat := p.wearSum / max 1 p.goodN
/-- Largest erase count (DIA.251). -/
def Store.wearMax (p : Store) : Nat := (p.erase.map (·.2)).foldl max 0

/-- Health bits, with an audit record at each change (R533, R535). `k` numbers the bit as in DIA.250. -/
def State.peatHealth (s : State) : State :=
  let e := decide (s.peat.endurance < s.pn gSTO 12)
  let p := decide (s.peat.spare ≤ s.pn gSTO 11)
  let note := fun (k : Nat) (old new : Bool) (s : State) =>
    if old == new then s else s.audit (Config.auditType 2) {} k (if old then 1 else 0) (if new then 1 else 0)
  (note 2 s.peat.spLow p (note 3 s.peat.endLow e s)).modPeat (fun x => { x with endLow := e, spLow := p })

/-! ### Precedence of work (R523) -/

/-- Bytes of the disturbance-record partition. -/
def recBytes : Nat := 7296 * 1048576

/-- Kinds of work of Peat, in the order of R523. -/
inductive PeatWork where
  | powerFail | journal | audit | image | selfTest | record | cache | exportRead | scrub
deriving DecidableEq, Repr

/-- Place in the order of precedence, 1 the highest (R523). -/
def PeatWork.rank : PeatWork → Nat
  | .powerFail => 1 | .journal => 2 | .audit => 3 | .image => 4 | .selfTest => 5 | .record => 6 | .cache => 7 | .exportRead => 8 | .scrub => 9

/-- A commit is due: the interval has passed while something has changed, or 8 pages of changes wait (R524). -/
def State.journalDue (s : State) : Bool :=
  (decide (0 < s.peat.dirty) && decide (s.peat.lastC + s.pn gSTO 4 ≤ s.now)) || decide (8 ≤ s.peat.dirty)

/-- An audit page is due: it is full, or the interval has passed since its first record (R526). -/
def State.auditDue (s : State) : Bool :=
  decide (64 ≤ s.peat.pageN) || (decide (0 < s.peat.pageN) && decide (s.peat.pageT + s.pn gSTO 5 ≤ s.now))

/-- A record is kept in recorder memory instead of making room for it (R519, R534). -/
def State.recKeep (s : State) : Bool := s.pn gSTO 10 == 1 || decide (s.peat.spare ≤ 64)

/-- A completed record waits that Peat can take (R519, R534). -/
def State.recDue (s : State) : Bool :=
  match s.acq.done_ with
  | [] => false
  | r :: _ => decide (64 < s.peat.spare) && decide ((if s.recKeep then s.peat.recUsed else 0) + r.size ≤ recBytes)

/-- Work of a kind waits. The power-fail sequence, images and keys, self-test results and the identity cache are written within the commands
that bring them (notes/assumptions/132.md). -/
def State.peatWaits (s : State) : PeatWork → Bool
  | .journal => s.journalDue
  | .audit => s.auditDue
  | .record => s.recDue
  | _ => false

/-- Work of kind `w` may proceed: none of a higher precedence waits (R523). -/
def State.peatFree (s : State) (w : PeatWork) : Bool :=
  [PeatWork.journal, .audit, .record].all (fun v => decide (w.rank ≤ v.rank) || !s.peatWaits v)

/-- The flash is in use: an erase runs, a pass of the scrub is under way, or work waits (DIA.250 STORE_ACTIVE, R414). -/
def State.storeBusy (s : State) : Bool :=
  s.peat.ers.any (fun x => decide (s.now < x.2)) || s.peat.scrub.isSome || [PeatWork.journal, .audit, .record].any s.peatWaits

/-! ### Journal and audit pages (R524, R526) -/

/-- A commit of the journal with the AO mirror (R446, R521, R524, R525): each commit is a page of both copies. -/
def State.journalCommit (s : State) : State :=
  s.modPeat (fun p =>
    let p := (p.ran s.now).moved s.now
    let p := if p.commitN != 0 && p.commitN % 64 == 0 then p.ringBlock s.now 7 else p
    { p with dirty := 0, commitN := p.commitN + 1, lastC := s.now, mirSeq := s.sys.seqNo, mirSec := s.now / 1000000000
             mirEp := s.twin.epoch })

/-- JOURNAL_COMMIT (R523, R524). -/
def execJournalCommit (s : State) : Host.Outcome State Fault Refusal :=
  .next (if s.up && s.journalDue then s.journalCommit else s)

/-- The audit page in the buffer is written: at most 64 records, both copies. -/
def State.auditPage (s : State) : State :=
  s.modPeat (fun p =>
    let p := p.ran s.now
    let p := if p.auditPg % 64 == 0 then p.ringBlock s.now 4 else p
    let rest := p.pageN - 64
    { p with pageN := rest, pageT := s.now, stored := s.sys.seqNo - rest, dirty := p.dirty + 1, auditPg := p.auditPg + 1 })

/-- AUDIT_PAGE_WRITE (R523, R526): a commit that is due comes first. -/
def execAuditPageWrite (s : State) : Host.Outcome State Fault Refusal :=
  .next (if s.up && s.auditDue && s.peatFree .audit then s.auditPage else s)

/-! ### Disturbance records (R410, R519, R529, R534) -/

/-- A record is kept with its data: neither overwritten nor lost. -/
def Rec.kept (r : Rec) : Bool := r.status == 0 || r.status == 3

/-- Frees the oldest kept record under OVERWRITE_OLDEST: its number and times stay in the index (R519). -/
def State.recFree (s : State) : State :=
  match (s.peat.recs.filter Rec.kept).getLast? with
  | some r =>
    (s.modPeat (fun p => { (p.drop s.now 8 r.num) with
      recs := p.recs.map (fun x => if x.num == r.num then { x with status := 1, data := [], redu := [], raw := [] } else x)
      recUsed := p.recUsed - r.size, nOver := wrap32 (p.nOver + 1) })).rcSet 250 0 9
  | none => s

/-- Frees records until `size` bytes fit; `n` bounds the number. -/
def State.recRoom (size : Nat) : Nat → State → State
  | 0, s => s
  | n + 1, s => if s.peat.recUsed + size ≤ recBytes then s else State.recRoom size n s.recFree

/-- The oldest completed record goes to Peat, where it has room or the policy makes room (R410, R519, R534). -/
def State.recWrite (s : State) : State :=
  match s.acq.done_ with
  | [] => s
  | r :: l =>
    let s := if s.recKeep then s else State.recRoom r.size s.peat.recs.length s
    if decide (s.peat.spare ≤ 64) || decide (recBytes < s.peat.recUsed + r.size) then s.modPeat (fun p => { p with full := true })
    else
      let s := s.modPeat (fun p => { ((p.ran s.now).takeN s.now 8 r.num ((r.size + 262143) / 262144)) with
        recs := r :: p.recs, recUsed := p.recUsed + r.size, full := false })
      s.modAcq (fun a => { a with done_ := l })

/-- RECORD_WRITTEN (R410, R519, R523): commits and audit pages that are due come first. -/
def execRecordWritten (s : State) : Host.Outcome State Fault Refusal := .next (if s.up && s.peatFree .record then s.recWrite else s)

/-- Every record pending in Reedbed is written (R497). -/
def State.recFlush (s : State) : State := (List.range s.acq.done_.length).foldl (fun s _ => s.recWrite) s

/-! ### Scrubbing (R521, R522) -/

/-- A scrub pass starts. -/
def Store.scrubStart (p : Store) : Store := { p with scrub := some 0, passR := 0 }

/-- Histogram class of a codeword's bit errors (DIA.253). -/
def errClass (n : Nat) : Nat := if n == 0 then 0 else if n ≤ 24 then (n + 3) / 4 else 7

/-- Refresh of a block (R521): its data goes to a new block; the old one is read till the next commit and then erased. -/
def State.peatRefresh (s : State) (b : Nat) : State :=
  if s.peat.movable b then (s.modPeat (fun p => { (p.renew s.now b) with passR := p.passR + 1 })).rcSet 250 0 4 else s

/-- SCRUB_READ (R515, R520 to R523): one page in use, once nothing else waits; static levelling goes with it. -/
def execScrubRead (pg : PageObs) (s : State) : Host.Outcome State Fault Refusal :=
  .next (
    if !(s.up && s.peatFree .scrub) then s
    else
      let n := (mGet s.peat.reads pg.block).getD 0 + 1
      let s := s.modPeat (fun p => { p with
        hist := pg.bits.foldl (fun h b => h.modify (errClass b) (fun k => wrap32 (k + 1))) p.hist
        nRetry := wrap32 (p.nRetry + pg.retries), reads := mPut pg.block n p.reads })
      let s := if pg.bits.any (fun b => decide (s.pn gSTO 2 ≤ b) && b ≤ 24) || decide (100000 ≤ n) then s.peatRefresh pg.block else s
      let s := s.modPeat (fun p => p.level s.now p.goodN (s.pn gSTO 3))
      let read := s.peat.scrub.getD 0 + 1
      if read ≥ s.peat.pages then
        s.modPeat (fun p => { p with scrub := none, scrubT := s.now, scrubR := p.passR, overdue := false })
      else s.modPeat (fun p => { p with scrub := some read, passR := if p.scrub.isNone then 0 else p.passR }))

/-- A scrub pass older than the interval is made up for at a wake (R522). -/
def State.scrubAtWake (s : State) : State :=
  if s.peat.scrubT + s.pn gSTO 1 < s.now then s.modPeat (fun p => { p.scrubStart with overdue := true }) else s

/-! ### Failures and loss of data (R517, R530 to R532) -/

/-- PROGRAM_ERASE_FAILURE (R517): the block is bad, a spare block takes its place and the data is written again. -/
def execProgramEraseFailure (block : Nat) (isErase : Bool) (s : State) : Host.Outcome State Fault Refusal :=
  .next (
    if !s.up || s.peat.bad.contains block || !decide (block < peatTotal) then s
    else
      let s := s.modPeat (fun p =>
        let p := { (p.unmove [block]) with
                          bad := p.bad ++ [block], spare := p.spare - 1, dirty := p.dirty + 1
                          movs := p.movs.filter (fun m => m.1 != block && m.2 != block), ers := p.ers.filter (fun x => x.1 != block)
                          nProg := if isErase then p.nProg else wrap32 (p.nProg + 1)
                          nErase := if isErase then wrap32 (p.nErase + 1) else p.nErase }
        match p.blocks.find? (fun x => x.1 == block) with
        | some x => { p with blocks := p.blocks.filter (fun y => y.1 != block) }.take s.now x.2.1 x.2.2
        | none => p)
      s.peatHealth)

/-- Records F to L of the audit log are lost: a gap stands at F, and a gap record is appended (R531). `why` 1 is an uncorrectable page, 2
a power failure. -/
def State.gapRecord (s : State) (f l why : Nat) : State :=
  let s := s.modSys (fun x => { x with log := x.log.map (fun r => if f ≤ r.seq && r.seq ≤ l then { r with gone := true } else r) })
  let gap : Audit := { Audit.reset with seq := f, tai := s.now, fnum := s.fr, ty := 0x60, old := f, new := l, detail := why }
  let s := s.modSys (fun x =>
    { x with log := x.log.filter (fun r => l < r.seq) ++ [gap] ++ x.log.filter (fun r => r.seq < f) })
  (s.audit 0x60 {} 0 f l (why + 0x100 : Nat)).rcSet 250 0 6

/-- UNCORRECTABLE (R525, R530 to R532): partition, whether both copies (or the only one) failed, and what the page held: a slot, a serial
number, a slice, a record number with the page of the record in `last`, or the audit records `item` to `last`. Where one copy of two has
failed, `last` is its block, which is written anew. -/
def execUncorrectable (part : Nat) (bothCopies : Bool) (item last : Nat) (s : State) : Host.Outcome State Fault Refusal :=
  .next (
    if !s.up then s
    else if peatCopies part == 2 && !bothCopies then (s.modPeat (fun p => p.renew s.now last)).rcSet 250 0 4
    else
      let s := (s.audit (Config.auditType 2) {} 5 0 1 part).rcSet 250 0 5
      match part with
      | 0 => s.modSys (fun x => { x with fwOk := x.fwOk.set item false })
      | 1 => s.modSys (fun x => { x with slots := x.slots.modify item (fun y => { y with complete := false }) })
      | 2 => (s.audit (Config.auditType 2) {} 11 0 1).modPeat (fun p => { p with keysLost := true })
      | 3 => (s.modSys (fun x => { x with xfer := none })).modPeat (fun p => { p with guFile := [] })
      | 4 => s.gapRecord item last 1
      | 5 => s.modSys (fun x => { x with cache := x.cache.filter (fun r => r.1 != item) })
      | 6 => s.modSys (fun x => { x with tests := x.tests.modify item (fun t => { t with res := .notRun, last := .notRun }) })
      | 7 => (s.audit (Config.auditType 3) {} 10 0 1).rcSet 250 0 10
      | _ => (s.modPeat (fun p => { p with
          recs := p.recs.map (fun r => if r.num == item && r.kept then { r with status := 3, dam := r.dam ++ [last] } else r)
          nDam := if p.recs.any (fun r => r.num == item && r.status == 0) then wrap32 (p.nDam + 1) else p.nDam })).rcSet 250 0 7)

end Sys2Proof.Machine
end

