-- ==== Sys2Proof/Machine/Inputs.lean ====
section
/-!
DEFINITION. Events at the measurement inputs, the trackers, the loop engine and the snapshot rings that act on one unit each (chapters 02,
03, 13).
-/
namespace Sys2Proof.Machine
open Sys2Proof

/-! ### Measurement inputs -/

/-- Period of the outputs of input `k` at the 20 MHz modulator clock, ns (R58). -/
def State.sdPeriod (s : State) (k : Nat) : Nat := 50 * s.pn gMEA 42 k

/-- The decimator of input `k` is phase-locked to station time (R60). -/
def State.sdLocked (s : State) (k : Nat) : Bool :=
  let p := s.sdPeriod k
  s.tf % p == 0 || (p % s.tf == 0 && 1000000 % p == 0)

/-- An output of D bits that completes `age` ns before the next boundary is due: it lies in the present frame, after the one before, and, in a
phase-locked decimator, on the grid that ends at frame boundaries (R58, R60, R61). -/
def State.sdDue (s : State) (k : Nat) (bits : List Bool) (age : Nat) (x : SdIn) : Bool :=
  let p := s.sdPeriod k
  bits.length == s.pn gMEA 42 k && decide (age < s.tf) && (x.outs == 0 || decide (age < x.age)) &&
    (!s.sdLocked k || (if s.tf % p == 0 then age % p == 0 else age == 0 && (s.fr + 1) % (p / s.tf) == 0))

/-- SIGMA_DELTA_OUTPUT (R58 to R61): the bits of the D modulator clocks that the output ends. -/
def execSigmaDeltaOutput (k : Nat) (bits : List Bool) (age : Nat) (s : State) : Host.Outcome State Fault Refusal :=
  .next (if s.awake && k < 8 && s.pb gMEA 40 k && s.pb gMEA 46 && s.sdDue k bits age (s.meas.sd.getD k SdIn.reset) then s.modMeas (fun m => { m with sd := m.sd.modify k (s.sdOut k bits age) }) else s)

/-- Outputs that complete in 1,024 modulator clocks and one settling time (R58, R62). -/
def State.sdReturn (s : State) (k : Nat) : Nat := (1024 + s.pn gMEA 41 k * s.pn gMEA 42 k) / max 1 (s.pn gMEA 42 k)

/-- SD_FAULT (R62). -/
def execSdFault (k : Nat) (s : State) : Host.Outcome State Fault Refusal :=
  .next (if s.awake && k < 8 && s.pb gMEA 40 k then
      s.modMeas (fun m => { m with sd := m.sd.modify k (fun x => { x with fault := true, settle := s.sdReturn k }) })
    else s)

/-- SD_VALIDITY_RETURN (R62): 1,024 clocks with both values and one settling time have passed. -/
def execSdValidityReturn (k : Nat) (s : State) : Host.Outcome State Fault Refusal :=
  .next (if s.awake && k < 8 && (s.meas.sd.getD k SdIn.reset).fault && (s.meas.sd.getD k SdIn.reset).settle == 0 then
      s.modMeas (fun m => { m with sd := m.sd.modify k (fun x => { x with fault := false }) })
    else s)

/-- SAMPLED_VALUE_MESSAGE (R64, R65, R69). -/
def execSampledValueMessage (m : SvMessage) (s : State) : Host.Outcome State Fault Refusal :=
  .next (if s.awake then s.modMeas (fun x => { x with sv := x.sv.mapIdx (fun k v => s.svTake k m v) }) else s)

/-- CROSSING_TIMEOUT (R79). -/
def execCrossingTimeout (t : Nat) (s : State) : Host.Outcome State Fault Refusal :=
  .next (if s.engOn && t < 4 then s.trkTimeout t else s)

/-! ### Loop engine -/

/-- GROUP_OVERRUN (R102 to R105, R107): the run of a group that is due at the next boundary has not finished; its measured makespan is
an open value (log 103). -/
def execGroupOverrun (g : Grp) (s : State) : Host.Outcome State Fault Refusal :=
  .next (match s.eng.runs.getD g.ix none with
    | some r => if g != .background && decide (r.dueF ≤ s.fr + 1) then (s.overrun g).measureSpan g (Config.overrunSpan g.ix r.startF) else s
    | none => s)

/-- LOOP_OVERRUN_RAISED (R104): the consecutive count of the frame or control group has reached its threshold. -/
def execLoopOverrunRaised (g : Grp) (s : State) : Host.Outcome State Fault Refusal :=
  .next (if s.loopOver g then
      s.modEng (fun e => { e with loopF := e.loopF || g == .frame, loopC := e.loopC || g == .control })
    else s)

/-- BACKGROUND_RUN_START (R101, R586): the first boundary after the previous run ended. -/
def execBackgroundRunStart (s : State) : Host.Outcome State Fault Refusal :=
  .next (if s.engOn && (s.eng.runs.getD 3 none).isNone then
      let s := s.modEng (fun e =>
        { e with bgB := s.bankAt s.fr, bgPrev := e.bgStart, bgStart := some s.now, bgEnded := false, bgLate := false })
      s.startRun .background s.eng.bgB none 0
    else s)

/-- BACKGROUND_RUN_END (R96, R97): the run publishes at the next frame boundary. -/
def execBackgroundRunEnd (s : State) : Host.Outcome State Fault Refusal :=
  .next (if (s.eng.runs.getD 3 none).isSome then s.modEng (fun e => { e with bgEnded := true }) else s)

/-- BACKGROUND_WATCHDOG (R106). -/
def execBackgroundWatchdog (s : State) : Host.Outcome State Fault Refusal :=
  .next (match s.eng.bgStart with
    | some t =>
      if (s.eng.runs.getD 3 none).isSome && !s.eng.bgEnded && !s.eng.bgLate && decide (t + s.pn gLPE 6 ≤ s.now) then
        (s.modEng (fun e => { e with bgLate := true })).rcSet 60 0 13
      else s
    | none => s)

/-- ENGINE_SRAM_UNCORRECTABLE (R94): the condition of ENGINE_FAULT stands, and the run ends as an overrun. -/
def execEngineSramUncorrectable (g : Grp) (s : State) : Host.Outcome State Fault Refusal :=
  .next (match s.eng.runs.getD g.ix none with
    | some r => s.modEng (fun e =>
        { e with badGrp := e.badGrp.set g.ix true, readBad := e.readBad.set g.ix true, runs := e.runs.set g.ix (some { r with bad := true }) })
    | none => s)

/-! ### Snapshot rings -/

/-- SNAPSHOT_DMA_ERROR (R476). -/
def execSnapshotDmaError (s : State) : Host.Outcome State Fault Refusal :=
  .next (if s.up && (s.mbx.sActive || s.mbx.fActive) then
      (s.modMbx (fun m => { m with sActive := false, fActive := false, sRc := m.sRc ||| bitAt true 5 })).irqSet 6
    else s)

end Sys2Proof.Machine
end

