-- ==== Sys2Proof/Machine/Diag.lean ====
section
/-!
DEFINITION. Status and diagnostics of group DIA (chapters 02 to 17): field maps, sets as last written (R8, R82, R129, R223, R264, R290,
R323, R356, R391, R413, R448, R514, R536, R559, R575), and the coding of values (R464).
-/
namespace Sys2Proof.Machine
open Sys2Proof

/-- Reason names as the manual gives them (R455, R488, R597). -/
def Reason.text : Reason → String
  | .bankCrc => "BANK_CRC" | .bankTarget => "BANK_TARGET" | .bankLate => "BANK_LATE" | .bankPending => "BANK_PENDING"
  | .bankNotPending => "BANK_NOT_PENDING" | .gfmRole => "GFM_ROLE" | .gfmInput => "GFM_INPUT" | .gfmOwned => "GFM_OWNED"
  | .gfmRange => "GFM_RANGE" | .armRole => "ARM_ROLE" | .armInput => "ARM_INPUT" | .armMode => "ARM_MODE"
  | .armCells => "ARM_CELLS" | .pwmNotTest => "PWM_NOT_TEST" | .pwmNotReady => "PWM_NOT_READY"
  | .pwmTestActive => "PWM_TEST_ACTIVE" | .pwmRange => "PWM_RANGE" | .pwmArmMismatch => "PWM_ARM_MISMATCH"
  | .meaTrigger => "MEA_TRIGGER" | .angSource => "ANG_SOURCE" | .lpeDeadline => "LPE_DEADLINE" | .lpeRange => "LPE_RANGE"
  | .lpeResource => "LPE_RESOURCE" | .lpeOrder => "LPE_ORDER" | .lpeFit => "LPE_FIT" | .lpeLanes => "LPE_LANES"
  | .latencyForward => "LATENCY_FORWARD" | .latencyFeedback => "LATENCY_FEEDBACK" | .lnkBudget => "LNK_BUDGET"
  | .lnkRanging => "LNK_RANGING" | .nstBudget => "NST_BUDGET" | .nstRange => "NST_RANGE"
  | .topologyMismatch => "TOPOLOGY_MISMATCH" | .prtRange => "PRT_RANGE" | .prtInput => "PRT_INPUT"
  | .prtBlockTime => "PRT_BLOCK_TIME" | .prtActive => "PRT_ACTIVE" | .twnIdConflict => "TWN_ID_CONFLICT"
  | .twnImage => "TWN_IMAGE" | .twnTopology => "TWN_TOPOLOGY" | .twnLink => "TWN_LINK" | .twnStateSize => "TWN_STATE_SIZE"
  | .twnMargin => "TWN_MARGIN" | .twnShadow => "TWN_SHADOW" | .hdgKernel => "HDG_KERNEL" | .hdgResponse => "HDG_RESPONSE"
  | .hdgParallel => "HDG_PARALLEL" | .acqRate => "ACQ_RATE" | .acqSource => "ACQ_SOURCE" | .acqSize => "ACQ_SIZE"
  | .acqCond => "ACQ_COND" | .timCoreSlow => "TIM_CORE_SLOW" | .timNotLocked => "TIM_NOT_LOCKED" | .pwrRunning => "PWR_RUNNING"
  | .mbxRange => "MBX_RANGE" | .mbxParam => "MBX_PARAM" | .mbxBank => "MBX_BANK" | .mbxReadOnly => "MBX_READ_ONLY"
  | .mbxImageOnly => "MBX_IMAGE_ONLY" | .mbxState => "MBX_STATE" | .mbxContention => "MBX_CONTENTION"
  | .mbxSessionOpen => "MBX_SESSION_OPEN" | .mbxSnapshotSize => "MBX_SNAPSHOT_SIZE" | .mbxFastSource => "MBX_FAST_SOURCE"
  | .cfgFormat => "CFG_FORMAT" | .cfgHash => "CFG_HASH" | .cfgSignature => "CFG_SIGNATURE"
  | .cfgHdgSignature => "CFG_HDG_SIGNATURE" | .cfgHdgRef => "CFG_HDG_REF" | .cfgRollback => "CFG_ROLLBACK"
  | .cfgRelease => "CFG_RELEASE" | .cfgSlotEmpty => "CFG_SLOT_EMPTY" | .cfgSection => "CFG_SECTION" | .cfgParam => "CFG_PARAM"
  | .cfgNode => "CFG_NODE" | .cfgRange => "CFG_RANGE" | .cfgPort => "CFG_PORT" | .cfgUnusable => "CFG_UNUSABLE"
  | .cfgCells => "CFG_CELLS" | .cfgWiring => "CFG_WIRING" | .cfgExtra => "CFG_EXTRA" | .cfgParent => "CFG_PARENT"
  | .cfgChild => "CFG_CHILD" | .cfgBusy => "CFG_BUSY" | .cfgSequence => "CFG_SEQUENCE" | .cfgState => "CFG_STATE"
  | .cfgPending => "CFG_PENDING" | .fioSource => "FIO_SOURCE" | .fioSafeState => "FIO_SAFE_STATE" | .fioRange => "FIO_RANGE"

/-- ASCII bytes of a text. -/
def asciiOf (t : String) : List Byte := t.toList.map (fun c => BitVec.ofNat 8 c.toNat)
/-- `n` bytes: a list padded with zeros, or cut. -/
def padTo (n : Nat) (l : List Byte) : List Byte := (l ++ List.replicate n 0).take n
/-- A reason name, zero-padded to 24 bytes (R455). -/
def Reason.bytes (r : Reason) : List Byte := padTo 24 (asciiOf r.text)

/-! ### Coding (R464) -/

/-- A part of four bytes. -/
def p4 (n : Nat) : List Byte := bytesOfNat 4 n
/-- A part of eight bytes. -/
def p8 (n : Nat) : List Byte := bytesOfNat 8 n
/-- A signed part of four bytes. -/
def i4 (n : Int) : List Byte := bytesOfNat 4 (BitVec.ofInt 32 n).toNat
/-- A signed part of eight bytes. -/
def i8 (n : Int) : List Byte := bytesOfNat 8 (BitVec.ofInt 64 n).toNat
/-- A word. -/
def pw (w : Word) : List Byte := bytesOfNat 4 w.toNat

/-- Elements of a diagnostic; none where the manual has no such diagnostic. -/
def diaLen (n : Nat) : Option Nat :=
  if [10, 11, 60, 61, 62, 63, 64, 66, 67, 68, 70, 71, 80, 81, 82, 83, 84, 86, 87, 89, 160, 161, 162, 170, 171, 172, 173, 174, 175, 176,
      177, 180, 185, 190, 191, 192, 193, 200, 201, 202, 203, 205, 206, 211, 213, 214, 220, 233, 240, 241, 250, 251, 252, 254, 256, 257,
      260, 261, 263, 265, 270].contains n then some 1
  else if [85, 103, 104, 106, 145, 149, 166, 182, 186, 222, 223].contains n then some 2
  else if [65, 69, 204].contains n then some 3
  else if [40, 41, 42, 43, 44, 45, 271].contains n then some 4
  else if [20, 21, 22, 181, 210, 212, 253].contains n then some 8
  else if n == 255 then some 9
  else if n == 88 then some 11
  else if [100, 102, 141, 142, 144, 184].contains n then some 12
  else if [231, 232].contains n then some 13
  else if [164, 183, 221, 230, 262, 264].contains n then some 16
  else if [120, 121, 122, 123, 124, 125, 126, 127, 128, 129, 130, 143].contains n then some 32
  else if [140, 150].contains n then some 33
  else if n == 163 then some 64
  else if [101, 105, 107, 146, 147, 148, 165].contains n then some 512
  else none

/-! ### Sets -/

/-- Sets written at supervisory boundaries (R264, R391, R413, R448, R536, R575). -/
def diaSup (n : Nat) : Bool :=
  decide (120 ≤ n ∧ n ≤ 130) || decide (180 ≤ n ∧ n ≤ 206) || decide (250 ≤ n ∧ n ≤ 257) || decide (270 ≤ n)

/-- The sets as last written: what a read of diagnostic `n` that belongs to a set finds, with the module state and parameters they were
written under. -/
def State.view (s : State) (n : Nat) : State :=
  { s with par := if diaSup n then s.pub.parS else s.pub.par, arm := s.pub.arm, link := s.pub.link, nest := s.pub.nest, prot := s.pub.prot, twin := s.pub.twin, hdg := s.pub.hdg,
           acq := s.pub.acq, clk := s.pub.clk, peat := s.pub.peat, fio := s.pub.fio, hw := s.pub.hw, trk := s.pub.trk
           sys := { s.pub.sys with st := if diaSup n then s.pub.stS else s.pub.st } }

/-- A diagnostic belongs to a set; the others are read as they stand. -/
def diaSet (n : Nat) : Bool := decide (40 ≤ n ∧ n ≤ 45) || decide (100 ≤ n) && !(decide (210 ≤ n ∧ n ≤ 214)) && n != 240 && n != 241

/-- RC bits of a word as a read finds them (R7, R8). -/
def State.rcWord (s : State) (n e : Nat) : Word := evGet s.pub.rc n e ||| (if diaSet n || n == 80 then 0 else evGet s.pub.ev n e)

/-! ### Words -/

/-- A 64-bit mask of truth values, the first as bit 0. -/
def mask64 (l : List Bool) : Nat := (l.zipIdx.map (fun p => if p.1 then 2 ^ p.2 else 0)).sum

/-- Lowest standing exclusion reason, 0 none (DIA.101). -/
def Cell.why (c : Cell) : Nat :=
  if c.exGroup then 1 else if c.exStale then 2 else if c.exGate then 3 else if c.exByp then 4 else if c.exProt then 5
  else if c.exIdent then 6 else 0

/-- DIA.060 (R128). -/
def State.engWord (s : State) : Word :=
  let e := s.eng
  wbits [(e.loopF || e.loopC, 11), (e.swapAt.isSome, 7), (e.actB, 6), (e.degraded, 5)] [(e.conRun, 20), (e.frmRun, 16), (e.laneOk, 0)]

/-- DIA.080. -/
def State.kernWord80 (s : State) : Word :=
  let c := s.kern.core
  let o := s.kern.out
  wbits [(o.synArm, 12), (c.matched, 11), (o.angHold, 10), (o.trkBad, 9), (fSig o.pdc != 0, 7), (o.limitOn, 6), (o.active, 5),
         (c.ret == .blackStart, 4)] [(c.blN - c.blK, 17), (c.mode.code, 0)]

/-- DIA.100 of arm `a`. -/
def State.armWord (s : State) (a : Nat) : Word :=
  let x := s.armS a
  wbits [(x.dirPos, 9), (x.blkPrev, 8), (s.testing, 5)] [(x.swaps, 16), (s.pn gARM 1 a, 6)]

/-- DIA.101 of channel `c`. -/
def State.chanWord (s : State) (c : Nat) : Word :=
  let y := s.cell c
  wbits [(y.gsLow, 18), (y.stP != y.shP || y.stD != y.shD || y.stF != y.shF, 17), (y.shPend, 16),
         ((s.armS y.arm).pwm == some c, 3), (s.testing && s.testChans.contains c, 2)] [(y.why, 20), (y.cmd.st.code, 0)]

/-- DIA.120 of port `p` (R263). -/
def State.portWord (s : State) (p : Nat) : Word :=
  let x := s.port p
  wbits [(x.proxy, 8), (x.split, 1), (x.linkUp, 0)] [(x.seenN, 24), (x.breakPos, 19), (s.topoOf p, 16)]

/-- DIA.140 of a nest link. -/
def Nst.word (n : Nst) : Word :=
  wbits [(n.topoBad, 9), (n.demand, 4), (n.second, 2), (n.loss, 1), (n.okNow, 0)] [(n.dsub, 16)]

/-- The nest link of element `e` of DIA.140: children 0 to 31, then the parent. -/
def State.nestLink (s : State) (e : Nat) : Nst := if e == 32 then s.nest.par else s.kid e

/-- DIA.145 of arm `a`. -/
def State.fenWord (s : State) (a : Nat) : Word :=
  wbits [((s.armS a).driftFl, 1), ((s.armS a).driftAl, 0)] [((s.armS a).worst, 16)]

/-- DIA.164 of group `g`. -/
def State.grpWord (s : State) (g : Nat) : Word :=
  let f := s.prot.firstG.getD g none
  wbits [(f.isSome, 26), (s.prot.has g 3, 4), (s.prot.has g 2, 3), (s.prot.has g 1, 2), (s.prot.has g 0, 1)] [(f.getD 0, 20)]

/-- DIA.170. -/
def State.twinWord (s : State) : Word :=
  let t := s.twin
  wbits [(t.giveup, 11), (t.phase != 0, 10), (t.lostC, 7), (t.lostT, 6), (t.partFailed, 5), (t.selfFailed, 4), (t.ready, 3), (t.paired, 2),
         (t.shadow, 1), (t.sideB, 0)] [(t.epoch, 16)]

/-- DIA.180. -/
def State.hdgWord (s : State) : Word :=
  let h := s.hdg
  let either := fun (l r : List Bool) (k : Nat) => l.getD k false || r.getD k false
  wbits ([(h.sa.self_ || h.sb.self_, 23), (h.sa.clkf || h.sb.clkf, 22), (h.sa.xcmp || h.sb.xcmp, 21), (h.stop.isSome || h.so1Off, 20),
          (s.lockOn, 11), (s.so2Req, 10), (s.so1Req, 9), (s.hdgDemand, 4), ((h.out 1).hs && (h.out 1).ls, 3),
          ((h.out 0).hs && (h.out 0).ls, 2), (h.sa.crc == h.sb.crc, 1), (h.sa.valid && h.sb.valid, 0)] ++
         (List.range 4).map (fun f => (either h.sa.fnLat h.sb.fnLat f, 16 + f)) ++
         (List.range 4).map (fun f => (either h.sa.act h.sb.act f, 12 + f))) []

/-- DIA.181 of pair `k`. -/
def State.pairWord (s : State) (k : Nat) : Word :=
  let h := s.hdg
  wbits [(h.dsF.getD k false, 6), (h.sa.brk.getD k false || h.sb.brk.getD k false, 4), (s.pairDemand k, 3), (h.sb.lev.getD k false, 1),
         (h.sa.lev.getD k false, 0)] []

/-- DIA.182 of output `so`. -/
def HOut.word (o : HOut) : Word :=
  wbits [(o.stuck, 7), (o.cross, 6), (o.extHi, 5), (o.gnd, 4), (o.pend, 3), (o.ls, 2), (o.hs, 1), (o.hs && o.ls, 0)] []

/-- Recorder state codes. -/
def RecState.code : RecState → Nat
  | .disarmed => 0 | .filling => 1 | .armed => 2 | .recording => 3 | .holdoff => 4 | .waitMemory => 5

/-- DIA.190. -/
def State.acqWord190 (s : State) : Word := wbits [(s.treeArmed, 10)] [(s.acq.done_.length, 16), (s.acq.st.code, 0)]

/-- DIA.200. -/
def State.clkWord (s : State) : Word :=
  let c := s.clk
  wbits [(c.vbatLow, 22), (c.refFallback, 21), (c.refinLocked, 19), (s.coreSlow, 18), (c.backH, 7), (c.backL, 6), (c.backC, 5),
         (c.lockH, 3), (c.lockL, 2), (c.lockC, 1)] []

/-- Station time state codes. -/
def TState.code : TState → Nat
  | .free => 0 | .acquiring => 1 | .locked => 2 | .holdover => 3

/-- DIA.201. -/
def State.timeWord (s : State) : Word :=
  let c := s.clk
  wbits [(c.stepPending, 18), (c.rateLimited, 16), (c.leapPending, 9), (c.utcValid, 8)] [(c.source, 24), (c.tstate.code, 0)]

/-- More audit records than LOG.003 are newer than LOG.002 (R512). -/
def State.logBehind (s : State) : Bool := decide (s.pn gLOG 3 < s.sys.seqNo - s.pn gLOG 2)

/-- DIA.220. -/
def State.sysWord (s : State) : Word :=
  let y := s.sys
  wbits [(y.unlisted.any (· != 0), 14), (y.retry, 13), (y.xfer.isSome, 12), (y.fwB, 9), (y.startB, 8), (y.runB, 7),
         ((y.slots.getD 1 Slot_.reset).complete, 6), ((y.slots.getD 0 Slot_.reset).complete, 5), (s.logBehind, 4)]
    [(min 255 y.finds.length, 24), (y.stage, 20)]

/-- Codes of DIA.230. -/
def TestRes.code : TestRes → Nat
  | .notRun => 0 | .pass => 1 | .repaired => 2 | .fail => 3 | .timeout => 4 | .interrupted => 5 | .skipped => 6

/-- DIA.230 of a slice. -/
def SliceS.word (t : SliceS) : Word :=
  wbits [(t.aged, 24), (t.unusable, 0)] [(t.res.code, 28), (min 255 t.spares, 16), (min 255 t.fails, 8)]

/-- DIA.250. -/
def State.storeWord (s : State) : Word :=
  let p := s.peat
  let prog := match p.scrub with | some n => min 100 (100 * n / max 1 p.pages) | none => 0
  wbits [(p.keysLost, 11), (p.full, 8), (p.endLow, 3), (p.spLow, 2), (p.overdue, 1), (p.active, 0)] [(prog, 16)]

/-- DIA.262 of an output. -/
def OutS.word (o : OutS) : Word :=
  wbits [(o.safe, 10), (o.latch, 9), (o.cross, 7), (o.extHi, 6), (o.gnd, 5), (o.open_, 4), (o.therm, 3), (o.limit, 2), (o.cmd, 1), (o.term, 0)] []

/-- An output as it is reported: a shadow does not report EXT_HIGH on a paired output (R328, R550). -/
def State.outShown (s : State) (o : Nat) : OutS := let y := s.outS o; { y with extHi := y.extHi && !s.outPaired o }

/-- DIA.263. -/
def State.fieldWord (s : State) : Word :=
  wbits [(s.fio.silent, 3), (s.fio.lpLow, 2), (s.fio.lpMiss, 1), (s.fio.ok, 0)] []

/-- DIA.270. -/
def State.hwWord (s : State) : Word :=
  let h := s.hw
  wbits [(s.sys.strap, 11), (h.e2, 9), (h.e1, 8), (h.supLow, 5), (h.low, 4), (h.high, 3), (h.limit, 2)] [(s.sys.slotId, 12)]

/-- Mean switching frequency of a cell of owned arm `a` over the last second, Hz: two state changes make one period (DIA.106). -/
def State.switchHz (s : State) (a : Nat) : F32 :=
  let n := (s.channels a).length
  if n == 0 then 0 else fOfQ ((s.armS a).swit.sum : Nat) (2 * n)

/-- The arm of element `e` of DIA.141, DIA.142 and DIA.144 is served (R290). -/
def State.arm12 (s : State) (e : Nat) : Bool :=
  if s.isRoot then s.convArms.contains e else if s.role == .aggregator then e == 0 else decide (e < s.nArms)

/-- Newest accounted total of converter arm `e` (DIA.142). -/
def State.accNew (s : State) (e : Nat) : Int := ((s.armAcc e).map (·.1)).getD 0

/-- Value of element `e` of diagnostic `n` but for its RC bits, evaluated on the sets as last written where it belongs to one. -/
def State.diaPart (s : State) (n e : Nat) : List Byte :=
  let c := s.cell e
  let p := s.port e
  match n with
  | 11 => pw (wbits ((List.range 8).map (fun k => ((s.meas.sd.getD k SdIn.reset).fault, k))) [])
  | 20 => p4 (s.meas.sv.getD e SvIn.reset).misRev
  | 21 => p4 (s.meas.sv.getD e SvIn.reset).invalid
  | 22 => p4 (s.meas.sv.getD e SvIn.reset).late
  | 40 => pw (s.tracker e).set.theta
  | 41 => i8 ((s.tracker e).set.ts / 65536)
  | 42 => pw (s.tracker e).set.freq
  | 43 => pw (s.tracker e).set.mag
  | 44 => pw (s.tracker e).set.word
  | 45 => p8 (s.tracker e).actionTai
  | 60 => pw s.engWord
  | 61 => p4 (s.eng.spans.getD 0 0)
  | 62 => p4 (s.eng.spans.getD 1 0)
  | 63 => p4 (s.eng.spans.getD 2 0)
  | 64 => p4 (s.eng.spans.getD 3 0)
  | 65 => p4 (s.eng.totals.getD e 0)
  | 66 => p4 s.eng.numericN
  | 67 => p4 s.eng.numericI
  | 68 => p4 s.eng.corrected
  | 69 => p4 (s.stated e)
  | 70 => pw (s.eng.crc s.eng.actB)
  | 71 => pw (s.eng.crc (!s.eng.actB))
  | 80 => pw s.kernWord80
  | 81 => p8 s.kern.core.entered
  | 82 => pw s.kern.out.w
  | 83 => pw s.kern.out.th
  | 84 => pw s.kern.out.e
  | 85 => pw (if e == 0 then s.kern.out.p else s.kern.out.q)
  | 86 => pw s.kern.out.iu
  | 87 => pw (if s.kern.core.mode == .sync then s.kern.out.slip else 0)
  | 88 => p4 (s.kern.counts.getD e 0)
  | 89 => p4 s.kern.reason
  | 100 => pw (s.armWord e)
  | 101 => pw (s.chanWord e)
  | 102 => i4 (s.armSec e).nLo ++ i4 (s.armSec e).nHi
  | 103 => i8 (s.armS e).retSum
  | 104 => p4 (s.armS e).forced
  | 105 => p4 c.changes
  | 106 => pw (s.switchHz e)
  | 107 => p4 c.acP ++ p4 c.acD ++ p4 c.acF
  | 120 => pw (s.portWord e)
  | 121 => p4 p.cCrc
  | 122 => p4 p.cMiss
  | 123 => p4 p.cRej
  | 124 => p4 p.cOff
  | 125 => p4 p.cCorr
  | 126 => p4 p.loopNs
  | 127 => p4 p.cLate
  | 128 => p4 p.cBa
  | 129 => p4 p.reach
  | 130 => p4 p.cMis
  | 140 => pw (s.nestLink e).word
  | 141 => p4 (if !s.arm12 e then 0 else if s.isLeaf then (s.armS e).lostN else (s.refA e).lostN)
  | 142 => i8 (if s.isRoot && s.arm12 e then (s.refA e).cum else 0) ++ i8 (if s.isRoot && s.arm12 e then s.accNew e else 0)
  | 143 => p4 (s.kid e).lostUp
  | 144 => i8 (if s.isRoot && s.arm12 e then (s.refA e).recon else 0) ++ p4 (if s.isRoot && s.arm12 e then (s.refA e).reconN else 0)
  | 145 => pw (s.fenWord e)
  | 146 => i8 c.acct ++ p8 c.rem
  | 147 => i8 c.drift ++ p8 c.lastDr
  | 148 => p4 c.mism
  | 149 => i8 (s.armS e).total ++ p8 (s.armS e).booked
  | 150 => p4 (s.nestLink e).cMis
  | 160 => p8 (mask64 s.prot.raised)
  | 161 => p8 (mask64 s.prot.holder)
  | 162 => match s.prot.firstM with
    | some x => p4 x.1 ++ p8 x.2
    | none => p4 0 ++ p8 0
  | 163 => p4 (s.prot.raisedN.getD e 0)
  | 164 => pw (s.grpWord e)
  | 165 => p4 c.desatN ++ p4 c.desatBN
  | 166 => pw (s.prot.ocMax.getD e 0)
  | 170 => pw s.twinWord
  | 171 => p4 s.twin.nForced ++ p4 s.twin.nPlan
  | 172 => p4 s.twin.nCrc
  | 173 => p4 s.twin.nOwn ++ p4 s.twin.nOver
  | 174 => p4 s.twin.nSync ++ p4 s.twin.durSync
  | 175 => p8 s.twin.chgF
  | 176 => p4 s.twin.nDual
  | 177 => p4 s.twin.nMis
  | 180 => pw s.pub.hdgW
  | 181 => pw (s.pairWord e)
  | 182 => pw (s.hdg.out e).word
  | 183 => pw (if e < 6 then s.hdg.sa.q.getD e 0 else if e < 12 then s.hdg.sb.q.getD (e - 6) 0
      else if e == 12 then s.hdg.sa.freq else if e == 13 then s.hdg.sb.freq else if e == 14 then s.hdg.sa.sla else s.hdg.sb.sla)
  | 184 => p4 (s.hdg.dem.getD e 0)
  | 185 => p4 s.hdg.sa.crc ++ p4 s.hdg.sb.crc
  | 186 => p4 (s.hdg.out e).runs ++ p4 (s.hdg.out e).disc
  | 190 => pw s.acqWord190
  | 191 => p4 s.acq.nRec ++ p4 s.acq.nSup ++ p4 s.acq.nOvf
  | 192 => match s.acq.lastS with
    | some x => p8 x.1 ++ p4 x.2
    | none => p8 0 ++ p4 0
  | 193 => p4 s.acqFree ++ p4 s.sRec
  | 200 => pw s.pub.clkW
  | 201 => pw s.timeWord
  | 202 => i8 s.clk.offset ++ i4 s.clk.rho
  | 203 => p8 ((s.clk.tai - s.clk.stateSince) / 1000000)
  | 204 => p4 (s.clk.lossN.getD e 0)
  | 205 => p4 s.clk.vbatMv ++ p4 s.clk.v24Mv
  | 206 => p8 s.clk.master ++ p4 (if s.clk.masterE2 then 2 else 1)
  | 210 => p4 (s.chan e).nDone ++ p4 (s.chan e).nBusy
  | 211 => p4 s.mbx.maxC0
  | 212 => p4 (s.chan e).nAuth
  | 213 => p4 s.mbx.nDrop ++ p4 s.mbx.nFDrop
  | 214 => s.mbx.lvlMs.flatMap p4
  | 220 => pw s.pub.sysW
  | 221 => match s.sys.finds[e]? with
    | some f => p4 f.stage ++ f.why.bytes ++ p4 f.sec ++ i4 f.d1 ++ i4 f.d2
    | none => p4 0 ++ padTo 24 [] ++ p4 0 ++ p4 0 ++ p4 0
  | 222 => let x := s.sys.slots.getD e Slot_.reset; p8 x.sha8 ++ p4 x.version ++ p4 x.tool ++ p4 x.topo
  | 223 => p4 (s.sys.redun.getD e 0) ++ p4 (s.sys.redunF.getD e 0) ++ p4 (s.sys.unlisted.getD e 0)
  | 230 => pw (s.sys.tests.getD e SliceS.reset).word
  | 231 => let x := s.sys.tests.getD e SliceS.reset; p8 x.tai ++ p4 x.ms
  | 232 => let x := s.sys.tests.getD e SliceS.reset; p8 x.addr ++ p4 x.bit
  | 233 => p8 s.sys.badPorts ++ p4 s.sys.badAi ++ p4 s.sys.badPwm
  | 240 => p8 s.sys.seqNo ++ p8 ((s.sys.log.getLast?.map (·.seq)).getD 0) ++ p8 (s.pn gLOG 2)
  | 241 => p4 s.sys.logOver
  | 250 => pw s.storeWord
  | 251 => p4 s.peat.endurance ++ p4 s.peat.wearMean ++ p4 s.peat.wearMax
  | 252 => p4 s.peat.spare ++ p4 s.peat.factory ++ p4 s.peat.bad.length
  | 253 => p4 (s.peat.hist.getD e 0)
  | 254 => p8 s.peat.scrubT ++ p4 s.peat.scrubR
  | 255 => p4 (s.peat.used e) ++ p4 (peatAllotted e)
  | 256 => p4 s.peat.nProg ++ p4 s.peat.nErase ++ p4 s.peat.nRetry
  | 257 => p4 s.peat.nOver ++ p4 s.peat.nDam ++ p4 s.peat.nLost
  | 260 => pw s.fio.lat
  | 261 => pw s.fio.brk
  | 262 => pw (s.outShown e).word
  | 263 => pw s.fieldWord
  | 264 => p4 (s.outS e).nTest ++ p4 (s.outS e).nDisc ++ p4 (s.outS e).nTherm
  | 265 => p4 s.fio.lplus ++ s.fio.outs.flatMap (fun o => bytesOfNat 2 o.mA)
  | 270 => pw s.hwWord
  | 271 => pw (s.hw.temps.getD e 0)
  | _ => p4 0

/-- The larger magnitude of each of two lists of maxima. -/
def maxOc (a b : List F32) : List F32 := List.zipWith (fun x y => if fGt (fAbs y) (fAbs x) then y else x) a b

/-- Bramble's set as written: the maxima of DIA.166 are those not read yet, with those taken since the set was last written (R8). -/
def State.protSet (s : State) : Prot := { s.prot with ocMax := maxOc s.pub.prot.ocMax s.prot.ocMax }

/-- The sets of every frame are written (R223, R290, R323, R356, R559). -/
def State.publishFrame (s : State) : State :=
  (((((s.modPub (fun p => { p with st := s.sys.st, par := s.par, arm := s.arm, nest := s.nest, prot := s.protSet, twin := s.twin, fio := s.fio })).modProt
    (fun p => { p with ocMax := Prot.reset.ocMax })).rcPublish 100 107).rcPublish 140 150).rcPublish 160 177).rcPublish 260 265

/-- The trackers' sets of this frame are written (R82). -/
def State.publishTrk (s : State) : State := (s.modPub (fun p => { p with trk := s.trk })).rcPublish 40 45

/-- The sets of every supervisory boundary are written (R264, R391, R413, R448, R536, R575). -/
def State.publishSup (s : State) : State :=
  (((((s.modPub (fun p => { p with
    stS := s.sys.st, parS := s.par, link := s.link, hdg := s.hdg, acq := s.acq, clk := s.clk, peat := { s.peat with active := s.storeBusy }
    hw := s.hw, hdgW := s.hdgWord, clkW := s.clkWord })).rcPublish 120 130)
    |>.rcPublish 180 193).rcPublish 200 206).rcPublish 250 257).rcPublish 270 271

/-- `DIA.220` to `DIA.223` are written, or with `tests` `DIA.230` to `DIA.233` (R514). -/
def State.publishSys (s : State) (tests : Bool) : State :=
  if tests then s.modPub (fun p => { p with sys := { p.sys with
    tests := s.sys.tests, badPorts := s.sys.badPorts, badAi := s.sys.badAi, badPwm := s.sys.badPwm } })
  else (s.modPub (fun p => { p with
    sysW := s.sysWord
    sys := { s.sys with
      log := [], tests := p.sys.tests, badPorts := p.sys.badPorts, badAi := p.sys.badAi, badPwm := p.sys.badPwm } })).rcPublish 220 223

/-- ORs RC bits into the first word of a value. -/
def orWord (l : List Byte) (w : Word) : List Byte :=
  if w == 0 then l else pw (BitVec.ofNat 32 (natOfBytes (l.take 4)) ||| w) ++ l.drop 4

/-- Element `e` of diagnostic `n` as a read returns it. -/
def State.diaVal (s : State) (n e : Nat) : List Byte :=
  orWord ((if diaSet n then s.view n else s).diaPart n e) (s.rcWord n e)

/-- What a clearing read of element `e` of diagnostic `n` clears (R7, R8): its RC bits, and the values that a read clears. -/
def State.diaClear (s : State) (n e : Nat) : State :=
  let del := fun (l : List (Nat × Nat × Word)) => l.filter (fun x => !(x.1 == n && x.2.1 == e))
  let s := s.modPub (fun p => { p with rc := del p.rc, ev := if diaSet n || n == 80 then p.ev else del p.ev })
  if 61 ≤ n && n ≤ 64 then s.modEng (fun x => { x with spans := x.spans.set (n - 61) 0 })
  else if n == 67 then s.modEng (fun x => { x with numericI := 65535 })
  else if n == 89 then s.modKern (fun k => { k with reason := 0 })
  else if n == 166 then
    s.modPub (fun p => { p with prot := { p.prot with ocMax := p.prot.ocMax.set e 0 } })
  else if n == 211 then s.modMbx (fun m => { m with maxC0 := 0 })
  else s

end Sys2Proof.Machine
end

