-- ==== Sys2Proof/Machine/Write.lean ====
section
/-!
DEFINITION. Parameter writes (R10 to R12, R464 to R470, R589, R597): entries of a request, their checks, what each write does where it
takes effect, and its audit record.
-/
namespace Sys2Proof.Machine
open Sys2Proof

/-! ### Identifiers and entries (R464) -/

/-- Code of an identifier with an element, as audit records carry it (R464, R508). -/
def Pid.code (p : Pid) (e : Nat := 0) : Nat := p.g * 134217728 + p.n * 131072 + e % 131072

/-- Identifier that a code spells: bits 16 to 0 are 0, and the group exists (R464). -/
def pidOf (code : Nat) : Option Pid :=
  if code % 131072 == 0 && code / 134217728 ≤ 21 then some ⟨code / 134217728, code / 131072 % 1024⟩ else none

/-- Values of the type occupy 8 bytes (R464). -/
def PTy.wide : PTy → Bool
  | .u64 | .s64 | .time => true
  | _ => false

/-- Bytes of a value of the type (R464). -/
def PTy.size (t : PTy) : Nat := if t.wide then 8 else 4

/-- The value that the bytes of an entry spell, by its type (R12, R464). -/
def PTy.val (t : PTy) (n : Nat) : Int :=
  match t with
  | .s16 | .s32 => (BitVec.ofNat 32 n).toInt
  | .s64 | .time => (BitVec.ofNat 64 n).toInt
  | _ => (n : Int)

/-- Elements of a parameter: arrays per converter arm have 12 in a POLE and 2 in any other module (chapter 05). -/
def State.arrLen (s : State) (id : Pid) (r : PRow) : Nat :=
  if id.g == gARM && (id.n == 1 || (3 ≤ id.n && id.n ≤ 5)) then (if s.role == .pole then 12 else 2) else r.len

/-- Elements of an identifier; none where it names no parameter of the release. -/
def State.idLen (s : State) (id : Pid) : Option Nat :=
  if id.g == gDIA then diaLen id.n else (prow id).map (s.arrLen id)

/-- One entry of READ_PARAM or WRITE_PARAM: identifier code, FIRST, COUNT, values as their bytes spell them. -/
structure Ent where
  code  : Nat
  first : Nat
  count : Nat
  vals  : List Nat := []
deriving DecidableEq, Repr

/-- `n` values of `sz` bytes. -/
def takeVals (sz : Nat) : Nat → List Byte → Option (List Nat × List Byte)
  | 0, l => some ([], l)
  | n + 1, l =>
    if l.length < sz then none
    else (takeVals sz n (l.drop sz)).map (fun r => (natOfBytes (l.take sz) :: r.1, r.2))

/-- Entries of a payload; none where its layout disagrees with its counts (R464, R597). Behind an identifier whose values have no known
size nothing can be parsed, and that entry is the last. -/
def takeEnts (vals : Bool) : Nat → List Byte → Option (List Ent)
  | 0, l => if l.isEmpty then some [] else none
  | n + 1, l =>
    if l.length < 8 then none
    else
      let e : Ent := ⟨natOfBytes (l.take 4), natOfBytes ((l.drop 4).take 2), natOfBytes ((l.drop 6).take 2), []⟩
      if !vals then (takeEnts vals n (l.drop 8)).map (fun r => e :: r)
      else
        match (pidOf e.code).bind prow with
        | none => some [e]
        | some r =>
          match takeVals r.ty.size e.count (l.drop 8) with
          | none => none
          | some (v, rest) => (takeEnts vals n rest).map (fun t => { e with vals := v } :: t)

/-- Entries of a request: count (U16), 2 reserved bytes, entries (R464). -/
def payEnts (vals : Bool) (l : List Byte) : Option (List Ent) :=
  if l.length < 4 || natOfBytes ((l.drop 2).take 2) != 0 then none else takeEnts vals (natOfBytes (l.take 2)) (l.drop 4)

/-! ### Ranges (R12, R597) -/

/-- Place of a binary32 value in the order of the reals, subnormals included. -/
def f32Order (w : F32) : Int := let k : Int := ((w.toNat % 2147483648 : Nat) : Int); if w.msb then -k else k

/-- A binary32 value lies between two ends; no NaN does (R12). -/
def f32Within (lo hi v : F32) : Bool :=
  !fIsNaN v && decide (f32Order lo ≤ f32Order v) && decide (f32Order v ≤ f32Order hi)

/-- A value lies in the stated range of its parameter. -/
def State.inRange (s : State) (id : Pid) (e : Nat) (r : PRow) (v : Int) : Bool :=
  if r.ty == .f32 then f32Within (BitVec.ofInt 32 r.lo) (BitVec.ofInt 32 r.hi) (BitVec.ofInt 32 v)
  else
    decide (r.lo ≤ v) && decide (v ≤ r.hi) &&
    (if id == ⟨gPWM, 10⟩ then decide (50000 * 4096 ≤ v * s.tf) && decide (v * s.tf ≤ 2000000 * 4096)
     else if id == ⟨gPWM, 32⟩ then decide (v < 512) || v == 65535
     else if id == ⟨gACQ, 30⟩ then decide (v < 24) || v == 255
     else if id == ⟨gACQ, 41⟩ then v.toNat / 256 < 64
     else if id == ⟨gACQ, 45⟩ then decide (v < 2 ^ e)
     else if id == ⟨gLOG, 2⟩ then decide (v ≤ s.sys.seqNo)
     else if id == ⟨gTIM, 50⟩ then v % 1000000000 == 0
     else true)

/-- What is stored of a value: bits of a bit map or field map that it does not name are reserved and ignored (R6,
notes/assumptions/81.md). -/
def storedVal (id : Pid) (v : Int) : Raw :=
  let keep : Raw :=
    if id == ⟨gACQ, 41⟩ then 0xFF1F else if id == ⟨gTIM, 20⟩ then 0x3F else if id == ⟨gPWR, 1⟩ then 0x7 else 0xFFFFFFFFFFFFFFFF
  BitVec.ofInt 64 v &&& keep

/-! ### Values as a read returns them -/

/-- A GFM Bank parameter from its word (R136, R587): the reverse of `gfmWord`. -/
def gfmRaw (n : Nat) (w : Word) : Raw :=
  if n == 21 || n == 24 || n == 61 then let q := fToQ w; BitVec.ofInt 64 (divEven (q.1 * 1000000000) q.2)
  else if n == 22 || n == 23 then (fAdd w 0x3F800000).setWidth 64
  else w.setWidth 64

/-- Value of a parameter element in force: WO is 0 (R7), `GFM.001` the present mode (R151), staged values those staged (R207), Bank
parameters those of the active bank (R10). -/
def State.forceVal (s : State) (id : Pid) (e : Nat) : Raw :=
  match prow id with
  | none => 0
  | some r =>
    if r.wo then 0
    else if id == ⟨gGFM, 1⟩ then BitVec.ofNat 64 s.kern.core.mode.code
    else if id == ⟨gPWM, 10⟩ then BitVec.ofNat 64 (s.cell e).stP
    else if id == ⟨gPWM, 11⟩ then BitVec.ofNat 64 (s.cell e).stD
    else if id == ⟨gPWM, 12⟩ then BitVec.ofNat 64 (s.cell e).stF
    else if r.eff == .bank then
      (match s.kernWord s.eng.actB id.n with
        | some w => gfmRaw id.n w
        | none => s.raw id.g id.n e)
    else s.raw id.g id.n e

/-- The write of a parameter element accepted last that has not taken effect yet (R7, R466). -/
def State.waiting (s : State) (id : Pid) (e : Nat) : Option Raw :=
  match s.par.wait.reverse.find? (fun w => w.id == id && w.e == e) with
  | some w => some w.v
  | none => pStored s.par.bankW id e

/-- Value of a parameter element as a read returns it: the last accepted value (R7), also while it waits for its boundary or for the
next exchange of the banks (notes/assumptions/82.md). WO parameters and `GFM.001` return what `forceVal` gives. -/
def State.paramVal (s : State) (id : Pid) (e : Nat) : Raw :=
  if ((prow id).map (·.wo)).getD true || id == ⟨gGFM, 1⟩ then s.forceVal id e else (s.waiting id e).getD (s.forceVal id e)

/-- Puts a value where its parameter is held; a WO parameter and `GFM.001` hold none. A Bank parameter goes to its word of the inactive
bank, and stays recorded as the last accepted value until the banks exchange roles (R7, R10). -/
def State.store (s : State) (id : Pid) (e : Nat) (v : Raw) : State :=
  match prow id with
  | none => s
  | some r =>
    if r.wo || id == ⟨gGFM, 1⟩ then s
    else if id == ⟨gPWM, 10⟩ then s.updCell e (fun c => { c with stP := v.toNat })
    else if id == ⟨gPWM, 11⟩ then s.updCell e (fun c => { c with stD := v.toNat })
    else if id == ⟨gPWM, 12⟩ then s.updCell e (fun c => { c with stF := v.toNat })
    else if r.eff == .bank then
      (let s := s.modPar (fun p => { p with bankW := pvPut ⟨id, e, v⟩ p.bankW })
       match s.sys.run.bind (fun c => mGet c.gfmAddr id.n) with
        | some a => s.modEng (fun x => x.writeInactive a [gfmWord id.n v])
        | none => s)
    else s.setRaw id e v

/-! ### Rules that relate a write to other parameters and to the module's state (R466) -/

/-- Channels of the groups that a commit names (PWM.001, R208). -/
def State.commitChans (s : State) (mask : Nat) : List Nat :=
  (List.range 512).filter (fun c => (s.cell c).conf && mask.testBit (s.pn gPWM 1 c))

/-- The reason for which a commit is refused (R209). -/
def State.commitBad (s : State) (mask : Nat) : Option Reason :=
  let l := s.commitChans mask
  let lo := 50000 * 4096
  let hi := 2000000 * 4096
  let out := fun (c : Cell) => decide (c.stP ≤ c.stF) || decide (c.stP * s.tf < lo) || decide (hi < c.stP * s.tf)
  let after := fun (c : Nat) => if l.contains c then ((s.cell c).stP, (s.cell c).stF) else ((s.cell c).shP, (s.cell c).shF)
  let mixed := fun (a : Nat) => s.pn gARM 1 a == 1 &&
    (match (s.channels a).map after with
     | x :: r => r.any (fun y => y != x)
     | [] => false)
  if l.any (fun c => out (s.cell c)) then some .pwmRange
  else if (List.range s.nArms).any mixed then some .pwmArmMismatch
  else none

/-- A commit (R208, R211): staging to shadow, but for the duty in NLM+PWM and PSC and the phase in PSC. -/
def State.commit (s : State) (mask : Nat) : State :=
  forAll (s.commitChans mask) (fun s c =>
    let mode := s.pn gARM 1 (s.cell c).arm
    s.updCell c (fun x => { x with
      shP := x.stP, shF := if mode == 2 then x.shF else x.stF, shD := if mode == 0 then x.stD else x.shD, shPend := true })) s

/-- Test channels as listed, each once (R222). -/
def State.testList (s : State) : List Nat := s.testChans.eraseDups

/-- Code of a current threshold beyond the range of a converter that the input uses (R311). -/
def State.ocCodeBad (s : State) (a : Nat) (t : F32) : Bool :=
  let i := s.pn gPRT 10 a
  let bad := fun (k : Nat) =>
    let g := fToQ (s.pf gMEA 7 k)
    let o := fToQ (s.pf gMEA 8 k)
    let x := fToQ t
    -- (t - o) × 65,536 / (20 × g), as a fraction
    let num := (x.1 * o.2 - o.1 * x.2) * 65536 * g.2
    let den := x.2 * o.2 * 20 * g.1
    if den == 0 then true
    else
      let n := if den < 0 then -num else num
      let d := if den < 0 then -den else den
      decide (n < -32768 * d) || decide (32767 * d < n)
  if i < 24 then bad i || (s.pairEven i && bad (i + 1)) else false

/-- Response time T_r of function `f` in 10 µs beyond 10 ms (R372). -/
def State.hdgSlow (s : State) (f : Nat) : Bool :=
  s.pb gHDG 10 f && decide (1000 < (if f == 0 then 100 * s.pn gHDG 13 else 0) + (s.pn gHDG 40 f + 1) * 101 + 20)

/-- A trigger delay breaches R49 (R57). -/
def State.delayBad (s : State) (k : Nat) : Bool :=
  let d := 10 * s.pn gMEA 3 k
  match s.pn gMEA 2 k with
  | 0 => decide (s.tf < d + 500)
  | 2 => decide ((if s.pairEven k || s.pairOdd k then 250 else 500) ≤ d)
  | _ => false

/-- Output `o` belongs to a Bramble group and has safe state on (R557). -/
def State.safeBad (s : State) (o : Nat) : Bool := (List.range 15).any (fun g => s.grpOut g o) && s.pn gFIO 22 o == 1

/-- The rule that a write breaks, judged in state `s` on the values of `v` (R466): roles, owners, modes, related values. -/
def State.ruleOf (s v : State) (w : Write) : Option Reason :=
  let n := w.id.n
  let e := w.e
  let no := fun (b : Bool) (r : Reason) => if b then some r else (none : Option Reason)
  if w.id.g == gGFM then
    if !s.isRoot then some .gfmRole else no (w.eff == .bank && s.eng.swapAt.isSome) .bankPending
  else if w.id.g == gARM then no (if 3 ≤ n && n ≤ 5 then !s.isRoot else !s.isLeaf) .armRole
  else if w.id.g == gPWM then
    if !s.isLeaf then some .armRole
    else match n with
      | 11 => no (!s.testing) .pwmNotTest
      | 12 => no (s.pn gARM 1 (s.cell e).arm == 2) .gfmOwned
      | 13 => v.commitBad w.v.toNat
      | 30 => no (w.v != 0 && s.sys.st != .ready) .pwmNotReady
      | 32 => no (decide (s.pn gPWM 31 < v.testList.length) || v.testList.any (fun c => (s.cell c).excluded)) .pwmRange
      | _ => none
  else if w.id.g == gANG then no (20 ≤ n && n ≤ 23 && s.kern.core.mode == .sync && s.syncTrk == some e) .gfmOwned
  else if w.id.g == gMEA then no (n == 3 && v.delayBad e) .meaTrigger
  else if w.id.g == gNST then no ((n == 60 || n == 61) && decide (v.pn gNST 61 ≤ v.pn gNST 60)) .nstRange
  else if w.id.g == gPRT then
    match n with
    | 1 => no (e / 16 == 4 || ((e / 16 == 30 || e / 16 == 31) && decide (1 < w.v.toNat))) .prtRange
    | 2 => no (e == 4) .prtRange
    | 6 => no (v.safeBad (e % 16)) .fioSafeState
    | 11 => no (v.ocCodeBad e (w.v.setWidth 32)) .prtRange
    | 12 => no (v.ocCodeBad e (w.v.setWidth 32)) .prtRange
    | 21 => no (!fLt (v.pf gPRT 22) (v.pf gPRT 21)) .prtRange
    | 22 => no (!fLt (v.pf gPRT 22) (v.pf gPRT 21)) .prtRange
    | _ => none
  else if w.id.g == gHDG then
    match n with
    | 11 => no (!fLt (v.pf gHDG 11) (v.pf gHDG 12)) .hdgResponse
    | 12 => no (!fLt (v.pf gHDG 11) (v.pf gHDG 12)) .hdgResponse
    | 10 => no (v.hdgSlow e) .hdgResponse
    | 13 => no (v.hdgSlow 0) .hdgResponse
    | 40 => no (v.hdgSlow e) .hdgResponse
    | _ => none
  else if w.id.g == gFIO then
    match n with
    | 3 => no (16 ≤ e && w.v != 0) .fioRange
    | 22 => no (v.safeBad e) .fioSafeState
    | _ => none
  else if w.id.g == gTIM then
    match n with
    | 10 => no (s.sys.st != .standby && s.sys.st != .ready) .mbxState
    | 50 => no s.running .pwrRunning
    | _ => none
  else if w.id.g == gCFG then no (n == 5 && decide (w.v.toNat < v.pn gCFG 5)) .cfgRollback
  else none

/-! ### What a write does where it takes effect -/

/-- Kernel mode by the codes of GFM.001. -/
def kmodeOf : Nat → KMode
  | 1 => .blackStart | 2 => .sync | 3 => .forming | _ => .idle

/-- Effects of a write beyond its stored value. -/
def State.hook (s : State) (w : Write) : State :=
  let v := w.v
  let e := w.e
  if w.id == ⟨gGFM, 1⟩ then
    s.modKern (fun k => { k with req := some (kmodeOf v.toNat), synHold := false, fired := if k.synHold then none else k.fired, bsEdge := k.bsEdge && v != 0 })
  else if w.id.g == gANG && 20 ≤ w.id.n && w.id.n ≤ 23 then s.cmpWrite e w.id.n v
  else if w.id == ⟨gARM, 41⟩ then s.updCell v.toNat (fun c => { c with readmit := c.readmit || c.exGate })
  else if w.id == ⟨gPWM, 2⟩ then
    { s with arm := { s.arm with cells := s.arm.cells.mapIdx (fun i c =>
        if c.conf then c.reenter false s.fr (c.exclude (fun y => { y with exGroup := !v.getLsbD (s.pn gPWM 1 i) })) else c) } }
  else if w.id == ⟨gPWM, 13⟩ then s.commit v.toNat
  else if w.id == ⟨gPWM, 20⟩ then
    s.modArm (fun a => { a with seed := v.toNat, cells := a.cells.mapIdx (fun i c => { c with lfsr := lfsrInit v.toNat i }) })
  else if w.id == ⟨gLNK, 23⟩ then s.updPort v.toNat (fun p => { p with rejoin := true })
  else if w.id == ⟨gPRT, 11⟩ || w.id == ⟨gPRT, 12⟩ then s.ocRefresh
  else if w.id == ⟨gTWN, 11⟩ then
    if v != 0 && s.isShadow then (s.modTwin (fun t => { t with giveup := false, joinBad := 0 })).startResync else s
  else if w.id == ⟨gTWN, 12⟩ then (if v != 0 then s.planSwap else s)
  else if w.id == ⟨gLPE, 2⟩ then s.modEng (fun x => { x with loopF := x.loopF || decide (v.toNat ≤ x.frmRun) })
  else if w.id == ⟨gLPE, 3⟩ then s.modEng (fun x => { x with loopC := x.loopC || decide (v.toNat ≤ x.conRun) })
  else if w.id == ⟨gHDG, 61⟩ then s.modHdg (fun h => { h with hostRst := h.hostRst || v != 0 })
  else if w.id == ⟨gACQ, 12⟩ then (if v != 0 then s.acqArm else s.acqDisarm)
  else if w.id == ⟨gACQ, 13⟩ then s.modAcq (fun a => { a with manual := a.manual || v != 0 })
  else if w.id.g == gACQ && 40 ≤ w.id.n && w.id.n ≤ 46 then s.condRestart w.e
  else if w.id == ⟨gSTO, 20⟩ then (if v != 0 then s.modPeat Store.scrubStart else s)
  else if w.id == ⟨gFIO, 3⟩ then (if v == 0 then s.modFio (fun x => { x with brk := x.brk &&& ~~~(bitAt true e) }) else s)
  else if w.id == ⟨gFIO, 30⟩ then s.faultRelease v.toNat
  else if w.id == ⟨gTIM, 10⟩ then (if s.sys.st == .ready then s.modClk (fun c => { c with lockC := false }) else s)
  else if w.id == ⟨gTIM, 31⟩ then s.modClk (fun c =>
    { c with utcOff := if c.source == 1 || c.source == 2 then c.utcOff else v.toInt, leapPending := false })
  else if w.id == ⟨gTIM, 50⟩ then s.modClk (fun c => { c with setTai := some v.toInt })
  else s

/-- The member is the SHADOW toward the host: in READY, RUNNING or FAULTED. In STANDBY and CONFIG_PENDING a member has no lead and answers
for itself (R329, R330, notes/assumptions). -/
def State.hostShadow (s : State) : Bool := s.isShadow && (s.sys.st == .ready || s.sys.st == .running || s.sys.st == .faulted)

/-- Who wrote: origin 3 where the lead carried the act (R508). -/
def State.whoAct (s : State) (ch sess cred : Nat) : Who :=
  if s.hostShadow then { origin := 3, ch := ch, sess := sess, cred := cred }
  else { origin := if s.pn gMBX 1 ch == 2 then 2 else 1, ch := ch, sess := sess, cred := cred }

/-- A write takes effect: value, effects, audit records (R386, R470, R508, R589). -/
def State.applyWrite (s : State) (w : Write) : State :=
  let old := s.forceVal w.id w.e
  let before := s.hdg
  let s := s.when (w.id == ⟨gMEA, 3⟩) (fun s => s.modMeas (fun m => { m with
    ai := m.ai.modify w.e (fun a => { a with dlyOld := old.toNat, dlyF := s.fr }) }))
  let s := (s.store w.id w.e w.v).hook w
  let s := s.audit 0x01 (s.whoAct w.ch w.sess w.cred) (w.id.code w.e) old.toInt w.v.toInt
  if w.id.g == gHDG then
    let crc : Int := Config.hdgCrc (s.par.vals.filter (fun x => x.id.g == gHDG))
    s.audit 0x41 (s.whoAct w.ch w.sess w.cred) (w.id.code w.e) old.toInt w.v.toInt 0 0 [] [[(before.sa.crc : Int), crc, before.sb.crc, crc]]
  else s

/-- A write accepted earlier is refused at its boundary (R467). -/
def State.lateRefuse (s : State) (ch sess cred subj : Nat) (ty : Nat) (why : Reason) : State :=
  let s := (s.audit ty (s.whoAct ch sess cred) subj 0 0 0 3 [why])
  if s.hostShadow then s else (s.updChan ch (fun c => { c with late := true })).irqSet 5

/-! ### Boundaries (R10, R11, R466) -/

/-- A boundary that no frame number names: the next transition from STANDBY to READY. -/
def restartAt : Nat := 2 ^ 64

/-- Boundary at which a write of the present frame takes effect; 0 for Bank. -/
def State.boundaryOf (s : State) (eff : Eff) : Nat :=
  match eff with
  | .control => s.nextCtl s.fr
  | .supervisory => s.nextSup s.fr
  | .restart => restartAt
  | .bank => 0
  | _ => s.fr

/-- Order of writes by channel, lowest first; writes of one channel keep their order (R470). -/
def byChannel (l : List Write) : List Write := (List.range 8).flatMap (fun c => l.filter (fun w => w.ch == c)) ++ l.filter (fun w => 8 ≤ w.ch)

/-- A write that the supervisory work takes up: Bramble reset and test mode (R219, R303). -/
def Write.late (w : Write) : Bool := w.id == ⟨gPRT, 40⟩ || w.id == ⟨gPWM, 30⟩

/-- Actions of cells newly written with a latching action for raised sources (R306). -/
def State.matrixActs (old s : State) : State :=
  let cells := (List.range 64).flatMap (fun k => (List.range 16).map (fun g => (k, g)))
  let news := cells.filter (fun x => s.srcUp x.1 && (s.matrix x.1 x.2).latching && s.matrix x.1 x.2 != old.matrix x.1 x.2)
  forAll news (fun t x => t.takeAction s.inStep x.1 x.2 (t.matrix x.1 x.2) true) s

/-- Group parameters of Bramble. -/
def Write.isGroup (w : Write) : Bool := w.id.g == gPRT && (w.id.n == 1 || w.id.n == 2 || (4 ≤ w.id.n && w.id.n ≤ 7))

/-- Every waiting write due at the present boundary takes effect, in ascending channel order, matrix changes atomically (R306, R470,
R589). -/
def State.paramsDue (s : State) : State :=
  let isDue := fun (w : Write) => decide (w.at_ ≤ s.fr) && !w.late
  let due := s.par.wait.filter isDue
  if due.isEmpty then s
  else
    let old := s
    let s := s.modPar (fun p => { p with wait := p.wait.filter (fun w => !isDue w) })
    let s := forAll (byChannel due) State.applyWrite s
    if due.any Write.isGroup then ((State.matrixActs old s).faultCheck).openReq else s

/-- The state as it would be with the waiting Restart writes in force: what validation judges at a wake (R10, notes/assumptions/83.md). -/
def State.withRestart (s : State) : State :=
  forAll (byChannel (s.par.wait.filter (fun w => w.eff == .restart))) (fun v x => v.store x.id x.e x.v) s

/-- Restart writes take effect at a transition from STANDBY to READY (R10). -/
def State.applyRestart (s : State) : State :=
  let due := s.par.wait.filter (fun w => w.eff == .restart)
  forAll (byChannel due) State.applyWrite (s.modPar (fun p => { p with wait := p.wait.filter (fun w => w.eff != .restart) }))

/-! ### A request of writes (R460, R462, R466, R597) -/

/-- Answer of a command: status, payload after any RETRY_AFTER, reason of a refusal with its detail. -/
structure Reply where
  st   : Status := .ok
  pay  : List Byte := []
  why  : Option Reason := none
deriving DecidableEq, Repr

/-- A refusal with its reason and detail (R455). -/
def refuse (r : Reason) (detail : List Byte := []) : Reply := { st := .refused, pay := r.bytes ++ detail, why := some r }
/-- A refusal that names an entry (R597). -/
def refuseAt (r : Reason) (i : Nat) : Reply := refuse r (p4 i)

/-- Who writes: channel and session. -/
structure Author where
  ch   : Nat
  role : SRole
  sess : Nat
  cred : Nat
deriving DecidableEq, Repr

/-- Index of a session role in rising order. -/
def SRole.rank : SRole → Nat
  | .observer => 0 | .operator => 1 | .engineer => 2 | .guardian => 3

/-- Element writes of an entry. -/
def State.writesOf (s : State) (a : Author) (e : Ent) : List Write :=
  match pidOf e.code with
  | some id =>
    (match prow id with
     | some r => (e.vals.zipIdx).map (fun p =>
         { ch := a.ch, role := a.role, sess := a.sess, cred := a.cred, id := id, e := e.first + p.2,
           v := storedVal id (r.ty.val p.1), eff := r.eff, at_ := s.boundaryOf r.eff })
     | none => [])
  | none => []

/-- Checks of entry `i` that need no other entry. -/
def State.entBad (s : State) (a : Author) (i : Nat) (e : Ent) : Option Reply :=
  match pidOf e.code with
  | none => some (refuseAt .mbxParam i)
  | some id =>
    match s.idLen id with
    | none => some (refuseAt .mbxParam i)
    | some len =>
      if len < e.first + e.count then some (refuseAt .mbxParam i)
      else match prow id with
        | none => some (refuseAt .mbxReadOnly i)
        | some r =>
          if r.eff == .image then some (refuseAt .mbxImageOnly i)
          else if a.role.rank < r.priv.rank then some { st := .privilege }
          else if (e.vals.zipIdx).all (fun p => s.inRange id (e.first + p.2) r (r.ty.val p.1)) then none
          else some (refuseAt .mbxRange i)

/-- The values on which a write `w` of a request is judged: in force, waiting for the same or an earlier boundary, and those of the
request: `before` for an Immediate write, `all` for the others (R466). -/
def State.viewFor (s : State) (w : Write) (before all : List Write) : State :=
  let mine := if w.eff == .immediate then before else all
  let l := s.par.wait.filter (fun x => decide (x.at_ ≤ w.at_)) ++ mine.filter (fun x => decide (x.at_ ≤ w.at_) && x.eff != .bank)
  forAll l (fun v x => v.store x.id x.e x.v) (s.store w.id w.e w.v)

/-- The first rule that an element write of entry `i` breaks. -/
def State.ruleBad (s : State) (i : Nat) (all : List Write) : List Write → List Write → Option Reply
  | _, [] => none
  | before, w :: l =>
    match s.ruleOf (if w.id == ⟨gCFG, 5⟩ then s else s.viewFor w before all) w with
    | some r => some (refuseAt r i)
    | none => State.ruleBad s i all (before ++ [w]) l

/-- The first failing entry in request order. -/
def State.firstBad (s : State) (a : Author) (all : List Write) : Nat → List Write → List Ent → Option Reply
  | _, _, [] => none
  | i, before, e :: l =>
    let ws := s.writesOf a e
    match (s.entBad a i e).or (s.ruleBad i all before ws) with
    | some r => some r
    | none => State.firstBad s a all (i + 1) (before ++ ws) l

/-- The lead carries an accepted write to the shadow (R330). -/
def State.carry (s : State) (op : Nat) (w : Write) : State :=
  if s.pb gTWN 1 && !s.twin.shadow then
    s.modTwin (fun t => { t with acts := t.acts ++
      [{ op := op, ch := w.ch, role := w.role, sess := w.sess, cred := w.cred, id := w.id, e := w.e, v := w.v, eff := w.eff, at_ := w.at_ }] })
  else s

/-- One accepted write: Immediate and Bank now, any other at its boundary (R10, R466). -/
def State.acceptWrite (s : State) (w : Write) : State :=
  let s := s.carry 0x0011 w
  match w.eff with
  | .immediate | .bank => s.applyWrite w
  | _ => s.modPar (fun p => { p with wait := p.wait ++ [w] })

/-- Number that the response lists for an entry (R466). -/
def State.listed (s : State) (eff : Eff) : Nat :=
  match eff with
  | .control | .supervisory => s.boundaryOf eff
  | .bank => 0
  | _ => Config.noBoundary eff

/-- "Takes effect" of an entry. -/
def Ent.eff (e : Ent) : Eff := (((pidOf e.code).bind prow).map (·.eff)).getD .immediate

/-- A request of writes: refused whole at its first failing entry, else every entry applied by its own term (R330, R460, R466, R493). -/
def State.writeReq (s : State) (a : Author) (ents : List Ent) : State × Reply :=
  if s.hostShadow then (s, refuse .twnShadow)
  else if s.sys.st == .configPending then (s, refuse .cfgPending)
  else
    let all := ents.flatMap (s.writesOf a)
    match s.firstBad a all 0 [] ents with
    | some r => (s, r)
    | none =>
      let t := forAll all State.acceptWrite s
      if ents.all (fun e => e.eff == .immediate) then (t, {})
      else (t, { st := .accepted, pay := ents.flatMap (fun e => p8 (s.listed e.eff)) })

/-- A refused request of writes leaves an audit record for its first entry (type 0x01). -/
def State.writeLog (s : State) (a : Author) (ents : List Ent) (st : Nat) (r : Reply) : State :=
  let code := ((ents.head?).map (fun e => e.code / 131072 * 131072 + e.first)).getD 0
  s.audit 0x01 (s.whoAct a.ch a.sess a.cred) code 0 0 0 st r.why.toList

/-- A single-parameter write by its identifier (rows of the table that are writes of one parameter). -/
def oneEnt (g n e v : Nat) : Ent := ⟨Pid.code ⟨g, n⟩, e, 1, [v]⟩

end Sys2Proof.Machine
end

