-- ==== Sys2Proof/Machine/Mailbox.lean ====
section
/-!
DEFINITION. The mailbox of Waizhar (chapter 13): BAR0, channels and doorbells, requests, sessions, classes, load levels. What the commands
do is in Commands.lean and Images.lean.
-/
namespace Sys2Proof.Machine
open Sys2Proof

/-- The host interfaces answer: not DORMANT, and PLL-H feeds the HOST domain (R14, R424, R449). -/
def State.hostUp (s : State) : Bool := s.up && s.clk.lockH

/-- The module answers only GET_INFO: it is RETIRED, or its key slots are lost (R506, R530). -/
def State.mute (s : State) : Bool := s.sys.life == .retired || s.peat.keysLost

/-- Channel `ch` is bound to PCIe (MBX.001). -/
def State.onPcie (s : State) (ch : Nat) : Bool := ch < 8 && s.pn gMBX 1 ch == 1
/-- Channel `ch` is bound to E1 (MBX.001). -/
def State.onE1 (s : State) (ch : Nat) : Bool := ch < 8 && s.pn gMBX 1 ch == 2

/-! ### Requests and responses (R455, R457) -/

/-- Codes of the response status table. -/
def Status.code : Status → Nat
  | .ok => 0 | .accepted => 1 | .busy => 2 | .refused => 3 | .authFail => 4 | .privilege => 5 | .noSession => 6 | .sequence => 7
  | .unknownOpcode => 8 | .malformed => 9 | .aborted => 10 | .classErr => 11

/-- A request from its bytes; a short one is padded with zeros (R455). -/
def reqOf (b : List Byte) (taken : Nat) : Req :=
  let l := padTo (max 32 b.length) b
  let n := fun (k c : Nat) => natOfBytes ((l.drop k).take c)
  { op := n 0 2, cls := n 2 1, flags := n 3 1, seq := n 4 4, sess := n 8 4, len := n 12 2, tag := (l.drop 16).take 16
    hdr := l.take 16, pay := l.drop 32, taken := taken, size := b.length }

/-- Tag of a message: the first 16 bytes of its HMAC (R457). -/
def tagOf (key hdr pay : List Byte) : List Byte := (hmac key (hdr ++ pay)).take 16

/-- A response: header of the request with STATUS and the length of its own payload, tag, payload (R455, R457). -/
def respOf (q : Req) (st : Status) (key : Option (List Byte)) (pay : List Byte) : List Byte :=
  let hdr := bytesOfNat 2 q.op ++ bytesOfNat 2 st.code ++ bytesOfNat 4 q.seq ++ bytesOfNat 4 q.sess ++ bytesOfNat 2 pay.length ++ [0, 0]
  hdr ++ (match key with
    | some k => tagOf k hdr pay
    | none => List.replicate 16 0) ++ pay

/-- The session that a request names, where the channel holds it. -/
def State.sessOf (s : State) (ch : Nat) (q : Req) : Option Sess :=
  match (s.chan ch).sess with
  | some x => if q.sess != 0 && x.id == q.sess then some x else none
  | none => none

/-- Author of the request of a channel. -/
def State.author (s : State) (ch : Nat) (q : Req) : Author :=
  match s.sessOf ch q with
  | some x => ⟨ch, x.role, x.id, x.cred⟩
  | none => ⟨ch, .observer, 0, 0xFFFF⟩

/-- DONE rises on a PCIe channel with its interrupt; on E1 the response leaves at once (R451, R454, BAR0 table). A response is discarded
where the endpoint was reset during the request (R562). -/
def State.deliverResp (s : State) (ch : Nat) (resp : List Byte) : State :=
  let pcie := s.onPcie ch
  let drop := (s.chan ch).drop
  let s := s.updChan ch (fun c =>
    { c with queued := false, exec_ := false, pre := false, req := none, drop := false
             done_ := pcie && !drop, resp := if drop then c.resp else resp, respLen := if drop then c.respLen else resp.length })
  if pcie && !drop then
    s.modMbx (fun m => { m with mirq := m.mirq ||| bitAt true ch, msi := if m.mirqEn.getLsbD ch then m.msi ++ [0] else m.msi })
  else s

/-- Completion of a request: response, counters, the session's SEQ and its stored response, the lockout (R451, R455 to R458). `count` is
false for a request that R458 does not count. -/
def State.finish (s : State) (ch : Nat) (q : Req) (st : Status) (pay : List Byte) (count : Bool := true) : State :=
  let key := (s.sessOf ch q).map (·.key)
  let resp := respOf q st key pay
  let auth := st == .authFail
  let t0 := if q.cls == 0 then (s.now - q.taken) / 1000 else 0
  let s := s.updChan ch (fun c => { c with
    nDone := wrap32 (c.nDone + 1), nBusy := if st == .busy then wrap32 (c.nBusy + 1) else c.nBusy
    nAuth := if auth then wrap32 (c.nAuth + 1) else c.nAuth
    fails := if auth then c.fails + 1 else 0
    lock := if auth && c.lock.isNone && 2 ≤ c.fails then some (s.now + 10000000000) else c.lock
    sess := c.sess.map (fun x => if count && q.sess != 0 && x.id == q.sess then { x with seq := q.seq, last := resp } else x) })
  (s.modMbx (fun m => { m with maxC0 := max m.maxC0 t0 })).deliverResp ch resp

/-- Completes with a reply. -/
def State.finishWith (s : State) (ch : Nat) (q : Req) (r : Reply) : State := s.finish ch q r.st r.pay

/-! ### Doorbells (R451 to R453) -/

/-- A doorbell of channel `ch` with LENGTH (R451, R452). -/
def State.doorbell (s : State) (ch : Nat) (v : Word) : State :=
  let n := v.toNat % 8192
  let c := s.chan ch
  if !(s.hostUp && s.onPcie ch) then s
  else if c.queued || c.exec_ || c.done_ || n < 32 || 4096 < n then s.modMbx (fun m => { m with err := m.err + 1 })
  else s.updChan ch (fun c => { c with queued := true, req := some (reqOf (padTo n c.buf) s.now) })

/-- ABORT on channel `ch` (R453). -/
def State.abortReq (s : State) (ch : Nat) : State :=
  match (s.chan ch).req with
  | some q => if s.hostUp && (s.chan ch).queued then s.finish ch q .aborted [] false else s
  | none => s

/-- W1C of MB_STATUS: DONE and LATE_REFUSED (R7, R451). -/
def State.statusClear (s : State) (ch : Nat) (v : Word) : State :=
  if s.hostUp then
    s.updChan ch (fun c => { c with done_ := c.done_ && !v.getLsbD 2, late := c.late && !v.getLsbD 5
                                    respLen := if v.getLsbD 2 then 0 else c.respLen })
  else s

/-- MB_DOORBELL (R451, R452). -/
def execMbDoorbell (ch : Nat) (v : Word) (s : State) : Host.Outcome State Fault Refusal := .next (s.doorbell ch v)
/-- ABORT (R453). -/
def execAbort (ch : Nat) (s : State) : Host.Outcome State Fault Refusal := .next (s.abortReq ch)
/-- DONE_CLEAR (R451). -/
def execDoneClear (ch : Nat) (s : State) : Host.Outcome State Fault Refusal := .next (s.statusClear ch (bitAt true 2))

/-! ### E1 (R454) -/

/-- E1_CONNECTION_OPEN (R454): a second connection is closed at once. -/
def execE1ConnectionOpen (ch : Nat) (s : State) : Host.Outcome State Fault Refusal :=
  .next (if s.hostUp && s.onE1 ch && s.hw.e1 then s.updChan ch (fun c => { c with e1 := true }) else s)

/-- E1_CONNECTION_CLOSE (R454). -/
def execE1ConnectionClose (ch : Nat) (s : State) : Host.Outcome State Fault Refusal := .next (s.e1Drop ch)

/-- E1_REQUEST (R454): the next request of the connection, taken when the channel is free. -/
def execE1Request (ch : Nat) (bytes : List Byte) (s : State) : Host.Outcome State Fault Refusal :=
  .next (
    let c := s.chan ch
    if s.hostUp && s.onE1 ch && c.e1 && !c.queued && !c.exec_ then
      s.updChan ch (fun c => { c with queued := true, req := some (reqOf bytes s.now) })
    else s)

/-! ### Start of a request (R456 to R462, R477, R493) -/

/-- Row of the command table: lowest role (none: outside a session too), class 0 permitted. -/
def opRow : Nat → Option (Option SRole × Bool)
  | 0x01 => some (none, false) | 0x02 => some (none, false) | 0x03 => some (none, false)
  | 0x04 => some (some .observer, false)
  | 0x10 => some (some .observer, true) | 0x11 => some (some .observer, true)
  | 0x20 => some (some .engineer, false) | 0x21 => some (some .observer, false)
  | 0x22 => some (some .engineer, true) | 0x23 => some (some .engineer, true)
  | 0x30 => some (some .operator, true) | 0x31 => some (some .operator, true)
  | 0x32 => some (some .engineer, false) | 0x33 => some (some .operator, false)
  | 0x40 => some (some .engineer, false) | 0x41 => some (some .engineer, false)
  | 0x42 => some (some .engineer, false) | 0x43 => some (some .engineer, false)
  | 0x50 => some (some .observer, true) | 0x51 => some (some .engineer, false)
  | 0x60 => some (some .observer, false) | 0x61 => some (some .observer, false) | 0x62 => some (some .engineer, false)
  | 0x70 => some (some .observer, false) | 0x80 => some (some .engineer, false) | 0x81 => some (some .engineer, false)
  | _ => none

/-- Commands that only the LEAD accepts (R330). -/
def opLead (op : Nat) : Bool := [0x11, 0x20, 0x22, 0x23, 0x30, 0x31, 0x32, 0x40, 0x41, 0x42, 0x43, 0x50, 0x51, 0x62, 0x80, 0x81].contains op

/-- Commands that CONFIG_PENDING does not serve (R493); DEBLOCK and HALT have reasons of their own, SLEEP and WAKE act (R494 to R496). -/
def opPending (op : Nat) : Bool := [0x11, 0x20, 0x21, 0x22, 0x23, 0x50, 0x51].contains op

/-- A READ_PARAM or WRITE_PARAM is too large for class 0, or writes what class 0 does not (R462). -/
def class0Bad (q : Req) : Bool :=
  if q.op == 0x10 then
    (match payEnts false q.pay with
     | some l => decide (64 < (l.map (·.count)).sum)
     | none => false)
  else if q.op == 0x11 then
    decide (16 < natOfBytes (q.pay.take 2)) ||
    (match payEnts true q.pay with
     | some l => l.any (fun e => (e.eff == .bank) || e.eff == .restart || e.eff == .image)
     | none => false)
  else false

/-- Load level 3 turns away classes 1 to 3: RETRY_AFTER in µs (R477, R478). -/
def State.busyFor (s : State) (q : Req) : Option Nat :=
  if s.mbx.level < 3 || q.cls == 0 then none
  else if 2 ≤ q.cls then some 50000
  else if q.op == 0x10 || q.op == 0x04 then none else some 10000

/-- What a request meets once its session, tag and SEQ are good: a completion without execution, or none (R455, R460 to R462, R477,
R493, R506, R530). -/
def State.startCheck (s : State) (ch : Nat) (q : Req) : Option Reply :=
  let inSess := (s.sessOf ch q).isSome
  let role := (s.author ch q).role
  let m := fun (b : Bool) (r : Reply) (o : Option Reply) => if b then some r else o
  m (q.size < 32 || q.len != q.pay.length || 4064 < q.len || 3 < q.cls || 1 < q.flags || natOfBytes ((q.hdr.drop 14).take 2) != 0 ||
      (q.sess == 0 && q.tag != List.replicate 16 0)) { st := .malformed } <|
  m (q.cls < s.pn gMBX 2 ch) { st := .classErr } <|
  match opRow q.op with
  | none => some { st := .unknownOpcode }
  | some (low, c0) =>
    m (low.isSome && !inSess) { st := .noSession } <|
    m (s.mute && q.op != 1) (refuse .mbxState) <|
    m (q.cls == 0 && (!c0 || class0Bad q)) { st := .classErr } <|
    m (opLead q.op && s.hostShadow) (refuse .twnShadow) <|
    m ((low.map SRole.rank).getD 0 > role.rank) { st := .privilege } <|
    m (s.sys.st == .configPending && opPending q.op) (refuse .cfgPending) <|
    (s.busyFor q).map (fun t => { st := .busy, pay := p4 t })

/-- A request that has been turned away leaves a record where it is a command of a session (R508). -/
def State.refusedLog (s : State) (ch : Nat) (q : Req) (r : Reply) : State :=
  let a := s.author ch q
  if r.st == .authFail then s.audit 0x03 (s.whoAct ch q.sess a.cred) q.op 0 0 0 r.st.code
  else if a.sess == 0 || (opRow q.op).isNone then s
  else s.audit (if q.op == 0x11 then 0x01 else 0x02) (s.whoAct ch a.sess a.cred) q.op 0 0 0 r.st.code r.why.toList

/-- The request of channel `ch` starts: it completes at once, or it is EXECUTING and its own row carries it out. -/
def State.startReq (s : State) (ch : Nat) (q : Req) : State :=
  if (s.chan ch).lock.isSome then s.finish ch q .authFail [] false
  else if 32 ≤ q.size && q.sess != 0 && (s.sessOf ch q).isNone then s.finish ch q .noSession []
  else
    match s.sessOf ch q with
    | some x =>
      if tagOf x.key q.hdr q.pay != q.tag then (s.refusedLog ch q { st := .authFail }).finish ch q .authFail [] false
      else
        let s := s.updChan ch (fun c => { c with sess := some { x with used := s.now } })
        if q.seq == x.seq && !x.last.isEmpty then
          (s.updChan ch (fun c => { c with nDone := wrap32 (c.nDone + 1), fails := 0 })).deliverResp ch x.last
        else if q.seq != x.seq + 1 then s.finish ch q .sequence [] false
        else match s.startCheck ch q with
          | some r => (s.refusedLog ch q r).finishWith ch q r
          | none => s.updChan ch (fun c => { c with queued := false, exec_ := true })
    | none =>
      match s.startCheck ch q with
      | some r => (s.refusedLog ch q r).finishWith ch q r
      | none => s.updChan ch (fun c => { c with queued := false, exec_ := true })

/-- The channel whose request starts next: lowest class, then lowest channel; a class 0 request preempts others (R461, R462). -/
def State.nextReq (s : State) : Option Nat :=
  let cls := fun (ch : Nat) => (((s.chan ch).req).map (·.cls)).getD 255
  let busy := (List.range 8).filter (fun ch => (s.chan ch).exec_ && !(s.chan ch).pre)
  let wait := (List.range 8).filter (fun ch => (s.chan ch).queued)
  match leastBy cls wait with
  | some ch => if busy.isEmpty || (cls ch == 0 && busy.all (fun b => cls b != 0)) then some ch else none
  | none => none

/-- REQUEST_START (R455 to R463). -/
def execRequestStart (s : State) : Host.Outcome State Fault Refusal :=
  .next (if !s.hostUp then s
    else match s.nextReq with
      | some ch =>
        match (s.chan ch).req with
        | some q =>
          let s := s.modMbx (fun m => { m with chans := m.chans.map (fun c => if c.exec_ then { c with pre := true } else c) })
          s.startReq ch q
        | none => s
      | none => s)

/-- Requests that a class 0 request had preempted go on once it has completed (R462). -/
def State.resume (s : State) : State :=
  if s.mbx.chans.any (fun c => c.exec_ && !c.pre) then s
  else s.modMbx (fun m => { m with chans := m.chans.map (fun c => { c with pre := false }) })

/-- A command's step: it acts while its channel is EXECUTING a request with its opcode; the reply completes the request (R451, R455). A
module that has become mute since the request started turns it away (R506, R530). -/
def State.command (s : State) (ch op : Nat) (f : State → Req → Author → State × Reply) : State :=
  match (s.chan ch).req with
  | some q =>
    if s.hostUp && ch < 8 && (s.chan ch).exec_ && !(s.chan ch).pre && q.op == op then
      let r := if s.mute && op != 1 then (s, refuse .mbxState) else f s q (s.author ch q)
      (r.1.finishWith ch q r.2).resume
    else s
  | none => s

/-- A command with its audit record of type 0x02, accepted or refused (R508). -/
def State.logged (f : State → Req → Author → State × Reply) (s : State) (q : Req) (a : Author) : State × Reply :=
  let r := f s q a
  (r.1.audit 0x02 (s.whoAct a.ch a.sess a.cred) q.op 0 0 0 r.2.st.code r.2.why.toList, r.2)

/-- The lead carries a command to the shadow (R330). -/
def State.carryCmd (s : State) (op : Nat) (a : Author) (at_ addr : Nat) (ws : List Word) (e : Nat := 0) : State :=
  if s.pb gTWN 1 && !s.twin.shadow then
    s.modTwin (fun t => { t with acts := t.acts ++
      [{ op := op, ch := a.ch, role := a.role, sess := a.sess, cred := a.cred, e := e, at_ := at_, addr := addr, ws := ws }] })
  else s

/-! ### Sessions (R456 to R459) -/

/-- Role by its code in AUTH_SESSION. -/
def sroleOf : Nat → SRole
  | 0 => .observer | 1 => .operator | 2 => .engineer | _ => .guardian

/-- OPEN_SESSION (R456, R459). -/
def execOpenSession (ch : Nat) (s : State) : Host.Outcome State Fault Refusal :=
  .next (s.command ch 0x02 (fun s q _ =>
    if !q.pay.isEmpty then (s, { st := .malformed })
    else if (s.chan ch).sess.isSome then (s, refuse .mbxSessionOpen)
    else
      let n := padTo 16 (Config.nonce s.mbx.nonceN)
      ((s.updChan ch (fun c => { c with nonce := some n })).modMbx (fun m => { m with nonceN := m.nonceN + 1 }), { pay := n })))

/-- AUTH_SESSION (R456, R459): credential, role and MAC over nonce, channel and role. A nonce serves one attempt. -/
def State.authenticate (s : State) (ch : Nat) (q : Req) : State × Reply :=
  let id := natOfBytes (q.pay.take 2)
  let role := natOfBytes ((q.pay.drop 2).take 1)
  let mac := (q.pay.drop 4).take 32
  if q.pay.length != 36 || natOfBytes ((q.pay.drop 3).take 1) != 0 || 3 < role then (s, { st := .malformed })
  else if (s.chan ch).sess.isSome then (s, refuse .mbxSessionOpen)
  else
    let s1 := s.updChan ch (fun c => { c with nonce := none })
    let fail := (s1.audit 0x03 (s.whoAct ch 0 id) q.op 0 role 0 Status.authFail.code, ({ st := .authFail } : Reply))
    match (s.chan ch).nonce, s.sys.creds[id]? with
    | some n, some c =>
      if c.on && role ≤ c.role.rank && mac == hmac c.key (n ++ [BitVec.ofNat 8 ch, BitVec.ofNat 8 role]) then
        let sid := 1 + Config.sessionId s.mbx.nonceN % 4294967295
        let x : Sess := { id := sid, role := sroleOf role, cred := id, key := hmac c.key (n ++ asciiOf "session"), seq := 0, last := []
                          used := s.now }
        let s2 := (s1.modMbx (fun m => { m with nonceN := m.nonceN + 1 })).updChan ch (fun c => { c with sess := some x })
        (s2.audit 0x03 (s2.whoAct ch sid id) q.op 0 role, { pay := p4 sid })
      else fail
    | _, _ => fail

/-- AUTH_SESSION (R456). -/
def execAuthSession (ch : Nat) (s : State) : Host.Outcome State Fault Refusal :=
  .next (s.command ch 0x03 (fun s q _ => s.authenticate ch q))

/-- CLOSE_SESSION (R459): its response still carries the session's tag. -/
def execCloseSession (ch : Nat) (s : State) : Host.Outcome State Fault Refusal :=
  .next (match (s.chan ch).req with
    | some q =>
      if !q.pay.isEmpty then s.command ch 0x04 (fun s _ _ => (s, { st := .malformed }))
      else
        let t := s.command ch 0x04 (fun s _ _ => (s, {}))
        if !s.mute && (s.chan ch).exec_ && !(t.chan ch).exec_ then t.sessionClose ch 0 else t
    | none => s)

/-- SESSION_IDLE_TIMEOUT (R459). -/
def execSessionIdleTimeout (ch : Nat) (s : State) : Host.Outcome State Fault Refusal :=
  .next (match (s.chan ch).sess with
    | some x => if s.up && decide (x.used + s.pn gMBX 3 ≤ s.now) && !(s.chan ch).exec_ then s.sessionClose ch 1 else s
    | none => s)

/-- AUTH_LOCKOUT_END (R457). -/
def execAuthLockoutEnd (ch : Nat) (s : State) : Host.Outcome State Fault Refusal :=
  .next (match (s.chan ch).lock with
    | some t => if s.up && decide (t ≤ s.now) then s.updChan ch (fun c => { c with lock := none, fails := 0 }) else s
    | none => s)

/-! ### Load level (R477) -/

/-- Threshold of a load level in percent. -/
def levelFrom : Nat → Nat
  | 0 => 0 | 1 => 60 | 2 => 75 | _ => 90

/-- LOAD_LEVEL_CHANGE (R477): the utilisation of a 10 ms window. -/
def execLoadLevelChange (util : Nat) (s : State) : Host.Outcome State Fault Refusal :=
  .next (
    if !s.up then s
    else
      let old := s.mbx.level
      let hit := if 90 ≤ util then 3 else if 75 ≤ util then 2 else if 60 ≤ util then 1 else 0
      let run := if decide (util + 10 ≤ levelFrom old) then s.mbx.lowRun + 1 else 0
      let new := if old < hit then hit else if 0 < old && 10 ≤ run then old - 1 else old
      let s := s.modMbx (fun m => { m with
        util := util, level := new, lowRun := if new == old then run else 0
        lvlMs := m.lvlMs.mapIdx (fun i n => if i + 1 == old then wrap32 (n + 10) else n) })
      s.when (new != old) (fun s => s.irqSet 3))

/-! ### BAR0 (R6 to R9, R449, R450) -/

/-- SYS_STATE. -/
def State.sysState (s : State) : Word :=
  let life := match s.sys.life with | .manufacture => 0 | .provisioned => 1 | .service => 2 | .retired => 3
  fieldAt life 12 ||| bitAt (s.pb gTWN 1 && s.twin.sideB) 9 ||| bitAt s.isShadow 8 ||| fieldAt s.sys.st.code 0

/-- Decimation factor in force (R477, SNP_STATUS). -/
def State.decimation (s : State) : Nat :=
  min 255 (s.pn gMBX 10 * (if s.mbx.level == 0 then 1 else if s.mbx.level == 1 then 4 else 16))

/-- SNP_STATUS. -/
def State.snpStatus (s : State) : Word :=
  fieldAt s.decimation 8 ||| s.mbx.sRc ||| bitAt s.mbx.fActive 1 ||| bitAt s.mbx.sActive 0

/-- MB_STATUS[n]. -/
def State.mbStatus (s : State) (n : Nat) : Word :=
  let c := s.chan n
  fieldAt (if c.done_ then c.respLen else 0) 6 ||| bitAt c.late 5 ||| bitAt c.sess.isSome 4 ||| bitAt c.done_ 2 ||| bitAt c.exec_ 1 |||
    bitAt c.queued 0

/-- Word at an offset of a buffer, its first byte in bits 7:0 as PCI Express carries a word. -/
def bufWord (buf : List Byte) (at_ : Nat) : Word := BitVec.ofNat 32 (natOfBytes ((padTo 4 ((buf.drop at_).take 4)).reverse))

/-- Word of the mailbox buffers: the request buffer of channel n at 0x1_0000 + 0x2000 × n, its response buffer 0x1000 above (R449). -/
def State.bufRead (s : State) (ofs : Nat) : Word :=
  let c := s.chan ((ofs - 0x10000) / 0x2000)
  let k := (ofs - 0x10000) % 0x2000
  if k < 0x1000 then bufWord c.buf k else bufWord c.resp (k - 0x1000)

/-- Value at an offset of BAR0: a direct register, a word of a buffer, 0 at any other offset (R449). -/
def State.regRead (s : State) (ofs : Nat) : Word :=
  match ofs with
  | 0x00 => 0x05120001
  | 0x04 => Config.fwRelease s.sys.fwB
  | 0x08 => s.sysState
  | 0x0C => BitVec.ofNat 32 s.fr
  | 0x10 => s.mbx.fHi
  | 0x14 => BitVec.ofNat 32 s.now
  | 0x18 => s.mbx.tHi
  | 0x1C => s.mbx.irq
  | 0x20 => s.mbx.irqEn
  | 0x24 => fieldAt s.mbx.level 24 ||| fieldAt s.mbx.util 0
  | 0x28 => s.mbx.scratch
  | 0x2C => s.mbx.cause
  | 0x40 => s.mbx.mirq
  | 0x44 => s.mbx.mirqEn
  | 0x48 => 0x08030200
  | 0x4C => s.mbx.err
  | 0x200 => s.mbx.baseLo
  | 0x204 => s.mbx.baseHi
  | 0x208 => s.mbx.ctrl
  | 0x20C => fieldAt s.mbx.head 0
  | 0x210 => fieldAt s.mbx.tail 0
  | 0x214 => fieldAt s.mbx.fHead 0
  | 0x218 => fieldAt s.mbx.fTail 0
  | 0x21C => s.snpStatus
  | _ =>
    if decide (0x100 ≤ ofs ∧ ofs < 0x180) && ofs % 16 == 4 then s.mbStatus ((ofs - 0x100) / 16)
    else if decide (0x10000 ≤ ofs ∧ ofs < 0x20000) && ofs % 4 == 0 then s.bufRead ofs
    else 0

/-- SYS_FRAME_LO_READ (R450). -/
def execSysFrameLoRead (s : State) : Host.Outcome State Fault Refusal :=
  .next (if s.hostUp then
      s.modMbx (fun m => { m with rdata := BitVec.ofNat 32 s.fr, fHi := BitVec.ofNat 32 (s.fr / 4294967296) })
    else s)

/-- SYS_TAI_LO_READ (R450, R596): station time of the newest boundary. -/
def execSysTaiLoRead (s : State) : Host.Outcome State Fault Refusal :=
  .next (if s.hostUp then
      s.modMbx (fun m => { m with rdata := BitVec.ofNat 32 s.now, tHi := BitVec.ofNat 32 (s.now / 4294967296) })
    else s)

/-- RC_REGISTER_READ (R7, R8): SYS_RESET_CAUSE, MB_ERR and the RC bits of SNP_STATUS are cleared by their read. -/
def execRcRegisterRead (ofs : Nat) (s : State) : Host.Outcome State Fault Refusal :=
  .next (if s.hostUp then
      s.modMbx (fun m => { m with
        rdata := s.regRead ofs, cause := if ofs == 0x2C then 0 else m.cause, err := if ofs == 0x4C then 0 else m.err
        sRc := if ofs == 0x21C then 0 else m.sRc })
    else s)

/-- Bytes of a word put into a buffer at an offset, least significant first as PCI Express carries a word. -/
def bufPut (buf : List Byte) (at_ : Nat) (v : Word) : List Byte :=
  let b := padTo 4096 buf
  b.take at_ ++ (bytesOfNat 4 v.toNat).reverse ++ b.drop (at_ + 4)

/-! ### Snapshot rings: registers (R471, R474) -/

/-- Geometry fields of SNP_CTRL with the base. -/
def Mbx.geoOf (m : Mbx) (v : Word) : Nat × Nat × Nat × Nat :=
  (m.baseHi.toNat * 4294967296 + m.baseLo.toNat, v.toNat / 16777216 % 16, v.toNat / 65536 % 256, v.toNat / 4096 % 16)

/-- Bits of SNP_CTRL that hold a value (R6). -/
def snpMask : Word := 0xCFFFF000

/-- A geometry within the ranges of SNP_CTRL. -/
def geoOk (g : Nat × Nat × Nat × Nat) : Bool :=
  4 ≤ g.2.1 && g.2.1 ≤ 12 && 1 ≤ g.2.2.1 && g.2.2.1 ≤ 64 && 6 ≤ g.2.2.2 && g.2.2.2 ≤ 14

/-- A write of SNP_CTRL (R471, R474, R476): a rising enable takes the geometry and starts its ring. -/
def State.snpCtrl (s : State) (v : Word) : State :=
  let m := s.mbx
  let was := m.ctrl.getLsbD 31 || m.ctrl.getLsbD 30
  let v := v &&& snpMask
  let geo : Word := 0x0FFFF000
  let changed := was && (v &&& geo) != (m.ctrl &&& geo)
  let v := if was then (v &&& 0xC0000000) ||| (m.ctrl &&& geo) else v
  let up := v.getLsbD 31 && !m.ctrl.getLsbD 31
  let fup := v.getLsbD 30 && !m.ctrl.getLsbD 30
  let g := if was then m.geom.getD (m.geoOf v) else m.geoOf v
  let fits := geoOk g && decide (1088 + ((s.sys.run.map (·.snapBytes)).getD 0) + 4 ≤ g.2.2.1 * 4096)
  let err := changed || (up && !fits) || (fup && !geoOk g)
  s.modMbx (fun m => { m with
    ctrl := v, geom := if v.getLsbD 31 || v.getLsbD 30 then some g else m.geom
    sRc := if err then m.sRc ||| bitAt true 4 else m.sRc
    sActive := if up then fits else m.sActive && v.getLsbD 31
    fActive := if fup then geoOk g else m.fActive && v.getLsbD 30
    head := if up then 0 else m.head, tail := if up then 0 else m.tail
    fHead := if fup then 0 else m.fHead, fTail := if fup then 0 else m.fTail
    snpSeq := if up then 0 else m.snpSeq, skipped := if up then 0 else m.skipped
    dropB := m.dropB && !up, deciB := m.deciB && !up
    snapDue := if up || !v.getLsbD 31 then [] else m.snapDue, fastPend := if fup || !v.getLsbD 30 then none else m.fastPend
    fSeq := if fup then 0 else m.fSeq, fSkip := if fup then 0 else m.fSkip
    fDropB := m.fDropB && !fup, fDeciB := m.fDeciB && !fup })

/-- SNP_CTRL_ENABLE (R471). -/
def execSnpCtrlEnable (v : Word) (s : State) : Host.Outcome State Fault Refusal := .next (if s.hostUp then s.snpCtrl v else s)

/-- A write of the ring base (R471). -/
def State.snpBase (s : State) (hi : Bool) (v : Word) : State :=
  if s.mbx.ctrl.getLsbD 31 || s.mbx.ctrl.getLsbD 30 then s.modMbx (fun m => { m with sRc := m.sRc ||| bitAt true 4 })
  else s.modMbx (fun m => if hi then { m with baseHi := v } else { m with baseLo := v &&& 0xFFFFF000 })

/-- Direct registers whose only access code is RO (BAR0 table). -/
def roRegs : List Nat := [0x00, 0x04, 0x08, 0x0C, 0x10, 0x14, 0x18, 0x24, 0x48, 0x20C, 0x214]

/-- A protocol error is counted in MB_ERR (R7, R452, notes/assumptions/84.md). -/
def State.protoErr (s : State) : State := s.modMbx (fun m => { m with err := m.err + 1 })

/-- A write of BAR0 at an offset (R6, R7, R9, R449, R451 to R453, R471): one to an RO register counts as a protocol error. -/
def State.regWrite (s : State) (ofs : Nat) (v : Word) : State :=
  if roRegs.contains ofs then s.protoErr else
  match ofs with
  | 0x1C => s.modMbx (fun m => { m with irq := m.irq &&& ~~~v })
  | 0x20 => s.modMbx (fun m => { m with irqEn := v &&& 0x7F })
  | 0x28 => s.modMbx (fun m => { m with scratch := v })
  | 0x40 => s.modMbx (fun m => { m with mirq := m.mirq &&& ~~~v })
  | 0x44 => s.modMbx (fun m => { m with mirqEn := v &&& 0xFF })
  | 0x200 => s.snpBase false v
  | 0x204 => s.snpBase true v
  | 0x208 => s.snpCtrl v
  | 0x210 => s.modMbx (fun m => { m with tail := v.toNat % 65536 })
  | 0x218 => s.modMbx (fun m => { m with fTail := v.toNat % 65536 })
  | _ =>
    if decide (0x100 ≤ ofs ∧ ofs < 0x180) then
      let n := (ofs - 0x100) / 16
      match ofs % 16 with
      | 0 => s.doorbell n v
      | 4 => s.statusClear n v
      | 8 => if v.getLsbD 1 then s.abortReq n else s
      | _ => s
    else if decide (0x10000 ≤ ofs ∧ ofs < 0x20000) && (ofs - 0x10000) % 0x2000 < 0x1000 && ofs % 4 == 0 then
      let n := (ofs - 0x10000) / 0x2000
      s.updChan n (fun c => { c with buf := bufPut c.buf ((ofs - 0x10000) % 0x2000) v })
    else s

/-- REGISTER_WRITE (R7, R9, R449). -/
def execRegisterWrite (ofs : Nat) (v : Word) (s : State) : Host.Outcome State Fault Refusal :=
  .next (if s.hostUp then s.regWrite ofs v else s)

/-- PERST_N (R562): every BAR0 register returns to its reset value; a request that is EXECUTING completes and its response is discarded. -/
def execPerstN (s : State) : Host.Outcome State Fault Refusal :=
  .next (if s.up then
      s.modMbx (fun m => { m with
        irq := 0, irqEn := 0, scratch := 0, mirq := 0, mirqEn := 0, err := 0, fHi := 0, tHi := 0
        ctrl := 0x04016000, baseLo := 0, baseHi := 0, geom := none, head := 0, tail := 0, fHead := 0, fTail := 0
        sActive := false, fActive := false, sRc := 0, snapDue := [], fastPend := none
        chans := m.chans.mapIdx (fun i c =>
          if s.onPcie i then { c with queued := false, done_ := false, late := false, respLen := 0, drop := c.exec_
                                      req := if c.exec_ then c.req else none }
          else { c with late := false }) })
    else s)

end Sys2Proof.Machine
end

