-- ==== Sys2Proof/Machine/Snapshot.lean ====
section
/-!
DEFINITION. Snapshot rings (R34 to R36, R472, R473, R475): entries of the supervisory and the fast ring.
-/
namespace Sys2Proof.Machine
open Sys2Proof

/-- Bytes of element `e` of an identifier, a diagnostic's from its present set and a parameter's from `v` (R464). -/
def State.codedBytes (s : State) (v : Pid → Nat → Raw) (id : Pid) (e : Nat) : List Byte :=
  if id.g == gDIA then s.diaVal id.n e
  else match prow id with
    | some r => bytesOfNat r.ty.size (v id e).toNat
    | none => []

/-- Bytes of element `e` as a read carries them: of a parameter, the last accepted value (R7, R464). -/
def State.valBytes (s : State) (id : Pid) (e : Nat) : List Byte := s.codedBytes s.paramVal id e

/-- The image's snapshot list (MBX.020): identifier, first element, elements. -/
def State.snapItems (s : State) : List (Pid × Nat × Nat) := (s.sys.run.map (·.snapList)).getD []

/-- Values of an item of a list in the module's present state: of a parameter, the value in force (R34). -/
def State.itemBytes (s : State) (x : Pid × Nat × Nat) : List Byte :=
  (List.range x.2.2).flatMap (fun k => s.codedBytes s.forceVal x.1 (x.2.1 + k))

/-- The kernel's set (R172). -/
def kernItem (id : Pid) : Bool := id.g == gDIA && 80 ≤ id.n && id.n ≤ 88

/-- Diagnostics that the module's own frame or control group produces: trackers, kernel, arms (R475). At a module with children DIA.102 is
the children's. -/
def State.fastOk (s : State) (id : Pid) : Bool :=
  id.g == gDIA && ((40 ≤ id.n && id.n ≤ 45) || (80 ≤ id.n && id.n ≤ 89) || (100 ≤ id.n && id.n ≤ 107)) && (id.n != 102 || s.isLeaf)

/-- The control group's outputs for state epoch `E` have been published (R31). -/
def State.ctlArrived (s : State) (E : Nat) : Bool := !s.kernOn || s.eng.ctlEp == some E

/-- Own state at a control boundary: the values of the snapshot list, and which member of a pair supplies them (R34, R36). -/
def State.snapOwnNow (s : State) : SnapOwn :=
  { e := s.fr, ok := !s.isShadow || s.twin.ready, sideB := s.twin.sideB, lep := s.twin.epoch, vals := s.snapItems.map s.itemBytes }

/-- Nodes below the module whose state for epoch `E` has not come (R34, R35). -/
def State.snapMissing (s : State) (E : Nat) : List Nat :=
  let under := fun (root : Nat) => (s.nodes.map (·.id)).filter (fun id => isUnder s.nodes root 255 id)
  s.kidIdx.flatMap (fun i =>
    match s.kidRep i E with
    | some r => r.missing
    | none => under (s.pn gNST 3 i))

/-- Every node whose state for the epoch of an entry is not there: the module itself where its kernel's set is outstanding or where it may
not supply it, and the nodes below (R34 to R36). -/
def State.snapMiss (s : State) (p : SnapPend) : List Nat :=
  (if p.own.ok && p.kern.isSome then [] else [s.pn gSYS 2]) ++ s.snapMissing p.own.e

/-- The state of every node for the epoch of an entry has arrived. -/
def State.snapComplete (s : State) (p : SnapPend) : Bool := (s.snapMiss p).isEmpty

/-- A value that stems from a child, from the child's report of epoch `E`; absent without one (R35). -/
def State.kidBytes (s : State) (E n e : Nat) (own : List Byte) : List Byte :=
  let rep := (s.kidOf e).bind (fun x => (s.kidRep x.1 E).map (fun r => (x.1, x.2, r)))
  if n == 102 then match rep with
    | some (_, j, r) => i4 (r.sec j).nLo ++ i4 (r.sec j).nHi
    | none => List.replicate 8 0
  else own.take 8 ++ (match rep with
    | some (i, j, r) => i8 (s.accounted i j r)
    | none => List.replicate 8 0)

/-- The part of item `k` in the payload of an entry: own values of the entry's epoch or, where the module may not supply them, zeros; the
kernel's set of that epoch; what children report with that epoch (R34 to R36). -/
def State.snapPart (s : State) (p : SnapPend) (k : Nat) (x : Pid × Nat × Nat) : List Byte :=
  let now := p.vals.getD k []
  let own := if !p.own.ok then List.replicate now.length 0
    else if kernItem x.1 then match p.kern with
      | some l => l.getD k []
      | none => List.replicate now.length 0
    else if s.fastOk x.1 then p.own.vals.getD k [] else now
  if x.1.g == gDIA && !s.isLeaf && (x.1.n == 102 || x.1.n == 142) then
    let w := if x.1.n == 102 then 8 else 16
    (List.range x.2.2).flatMap (fun j => s.kidBytes p.own.e x.1.n (x.2.1 + j) ((own.drop (w * j)).take w))
  else own

/-- Payload of a supervisory entry: the image's snapshot list. -/
def State.snapPayload (s : State) (p : SnapPend) : List Byte := (s.snapItems.zipIdx).flatMap (fun x => s.snapPart p x.2 x.1)

/-- SUPPLIER word of node `id` (R36). -/
def State.supplier (s : State) (p : SnapPend) (id : Nat) (missing : List Nat) : Word :=
  if missing.contains id || !(s.nodes.map (·.id)).contains id || !isUnder s.nodes (s.pn gSYS 2) 255 id then 0
  else
    let word := fun (b : Bool) (ep : Nat) => bitAt true 31 ||| bitAt b 30 ||| fieldAt (ep % 65536) 0
    if id == s.pn gSYS 2 then word p.own.sideB p.own.lep
    else match s.kidIdx.find? (fun i => s.pn gNST 3 i == id) with
      | some i => match (s.kid i).repBy.find? (fun x => x.1 == p.own.e) with
        | some (_, b, ep) => word b ep
        | none => 0
      | none => Config.farSupplier id p.own.e ||| bitAt true 31

/-- A ring of `n` entries is full: advancing HEAD would meet TAIL (R473). -/
def ringFull (n head tail : Nat) : Bool := (head + 1) % n == tail

/-- Bytes of a supervisory entry (supervisory entry table, R472); it fills its slot up to the trailer. -/
def State.snapEntry (s : State) (size : Nat) (p : SnapPend) : List Byte :=
  let miss := s.snapMiss p
  let pay := s.snapPayload p
  let flags := (if miss.isEmpty then 1 else 0) + (if s.mbx.deciB then 2 else 0) + (if s.mbx.dropB then 4 else 0) +
    (if p.onReq then 8 else 0) + 16 * s.mbx.level
  let head := p4 p.seq ++ p8 p.t ++ p8 p.own.e ++ p4 flags ++ p4 s.mbx.skipped ++ p4 pay.length
  padTo (size - 4) (head ++ nodeBits miss ++ (List.range 256).flatMap (fun id => pw (s.supplier p id miss)) ++ pay) ++ p4 p.seq

/-- One entry of the supervisory ring is written, or dropped where the ring is full (R472, R473). -/
def State.snapWrite (s : State) (p : SnapPend) : State :=
  match s.mbx.geom with
  | some (base, lg, es, _) =>
    let n := 2 ^ lg
    if ringFull n s.mbx.head s.mbx.tail then
      s.modMbx (fun m => { m with sRc := m.sRc ||| bitAt true 2, skipped := wrap32 (m.skipped + 1), dropB := true, nDrop := wrap32 (m.nDrop + 1) })
    else
      let e := s.snapEntry (es * 4096) p
      (s.modMbx (fun m => { m with
        dma := [(base + m.head * es * 4096, e)], head := (m.head + 1) % n, skipped := 0, dropB := false, deciB := false })).irqSet 1
  | none => s

/-- SNAPSHOT_EMISSION (R34, R35): all state has arrived, or the deadline has. -/
def execSnapshotEmission (s : State) : Host.Outcome State Fault Refusal :=
  .next (match s.mbx.snapDue with
    | [] => s
    | p :: l =>
      if s.mbx.sActive && (s.snapComplete p || decide (p.own.e + s.hmax + 1 ≤ s.fr)) then
        (s.snapWrite p).modMbx (fun m => { m with snapDue := l })
      else s)

/-- The kernel's part of an entry of epoch `E`, where its set has come. -/
def State.snapKern (s : State) (E : Nat) : Option (List (List Byte)) :=
  if s.ctlArrived E then some (s.snapItems.map (fun x => if kernItem x.1 then s.itemBytes x else [])) else none

/-- What a supervisory boundary does for the rings: the values of this boundary are latched, or the boundary is skipped by decimation
(R34, R473); a new fast list comes into force (R475). -/
def State.snapBoundary (s : State) : State :=
  let s := s.modMbx (fun m => { m with fastL := m.fastNew.getD m.fastL, fastNew := none })
  if !s.mbx.sActive then s.modMbx (fun m => { m with onReq := false })
  else
    let q := s.mbx.snpSeq
    let on := s.mbx.onReq
    let s := s.modMbx (fun m => { m with snpSeq := wrap32 (q + 1), onReq := false })
    if on || q % s.decimation == 0 then
      let own := if s.mbx.snapOwn.e == s.lastCtl s.fr then s.mbx.snapOwn else { s.snapOwnNow with e := s.lastCtl s.fr }
      let p : SnapPend := { t := s.fr, seq := q, onReq := on, own := own, vals := s.snapItems.map s.itemBytes, kern := s.snapKern own.e }
      s.modMbx (fun m => { m with snapDue := m.snapDue ++ [p] })
    else s.modMbx (fun m => { m with skipped := wrap32 (m.skipped + 1), deciB := true })

/-- Writes a fast entry to its ring, or drops it where the ring is full (R473, R475). -/
def State.fastWrite (s : State) (p : FastPend) : State :=
  match s.mbx.geom with
  | some (base, lg, es, fl) =>
    let n := 2 ^ fl
    if ringFull n s.mbx.fHead s.mbx.fTail then
      s.modMbx (fun m => { m with sRc := m.sRc ||| bitAt true 3, fSkip := wrap32 (m.fSkip + 1), fDropB := true, nFDrop := wrap32 (m.nFDrop + 1) })
    else
      let ws := p.vals.flatten.take 256
      let flags := 1 + (if s.mbx.fDeciB then 2 else 0) + (if s.mbx.fDropB then 4 else 0) + p.flags
      let e := padTo 316 (p4 p.seq ++ p8 p.e ++ p8 p.e ++ p4 flags ++ p4 s.mbx.fSkip ++ p4 ws.length ++ ws) ++ p4 p.seq
      (s.modMbx (fun m => { m with
        dma := [(base + 2 ^ lg * es * 4096 + m.fHead * 320, e)], fHead := (m.fHead + 1) % n, fSkip := 0
        fDropB := false, fDeciB := false })).irqSet 2
  | none => s

/-- The fast ring at a control boundary (R473, R475, R477): the values of the list are latched; an entry with values of the kernel waits
until the outputs of this boundary are published. An entry still waiting has lost its sample to an overrun and is skipped. -/
def State.fastEntry (s : State) : State :=
  let s := s.modMbx (fun m => { m with fastPend := none, fSkip := if m.fastPend.isSome then wrap32 (m.fSkip + 1) else m.fSkip })
  if !s.mbx.fActive then s
  else
    let q := s.mbx.fSeq
    let s := s.modMbx (fun m => { m with fSeq := wrap32 (q + 1) })
    if 2 ≤ s.mbx.level || (s.mbx.level == 1 && q % 4 != 0) then
      s.modMbx (fun m => { m with fSkip := wrap32 (m.fSkip + 1), fDeciB := true })
    else
      let p : FastPend := { e := s.fr, seq := q, flags := 16 * s.mbx.level, vals := s.mbx.fastL.map (fun x => s.valBytes x.1 x.2) }
      if s.mbx.fastL.any (fun x => kernItem x.1) && !s.ctlArrived s.fr then s.modMbx (fun m => { m with fastPend := some p })
      else s.fastWrite p

/-- The rings at a control boundary: own state of this epoch is latched (R34, R36), and the fast ring takes its entry. -/
def State.ringsControl (s : State) : State := (s.modMbx (fun m => { m with snapOwn := s.snapOwnNow })).fastEntry

/-- The control group's outputs of an epoch have been published: entries that wait for them take the kernel's set (R34, R172, R475). -/
def State.ringsArrive (s : State) : State :=
  let s := s.modMbx (fun m => { m with snapDue := m.snapDue.map (fun p => if p.kern.isSome then p else { p with kern := s.snapKern p.own.e }) })
  match s.mbx.fastPend with
  | some p =>
    if s.ctlArrived p.e then
      let vals := (s.mbx.fastL.zip p.vals).map (fun x => if kernItem x.1.1 then s.valBytes x.1.1 x.1.2 else x.2)
      (s.modMbx (fun m => { m with fastPend := none })).fastWrite { p with vals := vals }
    else s
  | none => s

/-- A fast list as the lead carries it: identifier and element by turns (R330, R475). -/
def idsWords (ids : List (Pid × Nat)) : List Word := ids.flatMap (fun x => [BitVec.ofNat 32 x.1.code, BitVec.ofNat 32 x.2])

/-- The fast list that the words name. -/
def idsOf : List Word → List (Pid × Nat)
  | a :: e :: l => (match pidOf a.toNat with | some p => [(p, e.toNat)] | none => []) ++ idsOf l
  | _ => []

/-- SNAPSHOT_NOW (command table, R472). -/
def execSnapshotNow (ch : Nat) (s : State) : Host.Outcome State Fault Refusal :=
  .next (s.command ch 0x50 (State.logged (fun s q a =>
    if !q.pay.isEmpty then (s, { st := .malformed })
    else ((s.modMbx (fun m => { m with onReq := true })).carryCmd 0x50 a (s.nextSup s.fr) 0 [], { st := .accepted, pay := p8 (s.nextSup s.fr) }))))

/-- SNAPSHOT_FAST (R475). -/
def execSnapshotFast (ch : Nat) (ids : List (Pid × Nat)) (s : State) : Host.Outcome State Fault Refusal :=
  .next (s.command ch 0x51 (State.logged (fun s _ a =>
    if ids.any (fun x => !s.fastOk x.1) then (s, refuse .mbxFastSource)
    else if ids.any (fun x => match s.idLen x.1 with | some n => decide (n ≤ x.2) | none => true) then (s, refuse .mbxParam)
    else if 256 < (ids.flatMap (fun x => s.valBytes x.1 x.2)).length then (s, { st := .malformed })
    else ((s.modMbx (fun m => { m with fastNew := some ids })).carryCmd 0x51 a (s.nextSup s.fr) 0 (idsWords ids), { st := .accepted, pay := p8 (s.nextSup s.fr) }))))

end Sys2Proof.Machine
end

