-- ==== Sys2Proof/Machine/Commands.lean ====
section
/-!
DEFINITION. Commands of the mailbox that act on parameters, banks, records, the audit log and gate-unit firmware (chapter 13), and the rows
that are writes of one parameter. Image commands and changes of the module state are in Images.lean and Power.lean.
-/
namespace Sys2Proof.Machine
open Sys2Proof

/-! ### Information and parameters -/

/-- Code of a role as SYS.001. -/
def Role.code : Role → Nat
  | .arm => 1 | .aggregator => 2 | .pole => 3 | .compact => 4

/-- GET_INFO (command table, R481). -/
def execGetInfo (ch : Nat) (s : State) : Host.Outcome State Fault Refusal :=
  .next (s.command ch 0x01 (fun s q _ =>
    if !q.pay.isEmpty then (s, { st := .malformed })
    else
      let on := (s.sys.creds.zipIdx.filter (fun c => c.1.on)).map (fun c => (c.2, c.1.role))
      (s, { pay := Config.infoPay (Config.fwRelease s.sys.fwB) s.role.code (s.pn gSYS 2) s.twin.sideB s.sys.life on })))

/-- The first entry of a read that names no parameter or reaches beyond its array (R597). -/
def State.readBad (s : State) (l : List Ent) : Option Reply :=
  l.zipIdx.findSome? (fun p =>
    match (pidOf p.1.code).bind s.idLen with
    | some n => if n < p.1.first + p.1.count then some (refuseAt .mbxParam p.2) else none
    | none => some (refuseAt .mbxParam p.2))

/-- Values of the entries of a read, and the state after its RC fields have been cleared (R7, R465). -/
def State.readEnts (clear : Bool) : State → List Ent → State × List (Nat × Nat × List (List Byte))
  | s, [] => (s, [])
  | s, e :: l =>
    let id := (pidOf e.code).getD ⟨0, 0⟩
    let one := fun (p : State × List (List Byte)) (k : Nat) =>
      (if clear && id.g == gDIA then p.1.diaClear id.n (e.first + k) else p.1, p.2 ++ [p.1.valBytes id (e.first + k)])
    let r := (List.range e.count).foldl one (s, [])
    let t := State.readEnts clear r.1 l
    (t.1, (e.code, e.first, r.2) :: t.2)

/-- A read, latched at the newest boundary (R465, R493, R511, R597). -/
def State.readReq (s : State) (q : Req) (a : Author) : State × Reply :=
  match payEnts false q.pay with
  | none => (s, { st := .malformed })
  | some l =>
    match s.readBad l with
    | some r => (s, r)
    | none =>
      if s.sys.st == .configPending && l.any (fun e => e.code / 134217728 != gDIA) then (s, refuse .cfgPending)
      else
        let r := s.readEnts (q.flags % 2 == 0 && 1 ≤ a.role.rank) l
        let pay := Config.readPay s.fr (s.lastCtl s.fr) r.2
        let logged := fun (s : State) => forAll l (fun s e => s.audit 0x02 (s.whoAct a.ch a.sess a.cred) (e.code + e.first)) s
        if 4064 < pay.length then (s, { st := .malformed })
        else (r.1.when (s.pb gLOG 1) logged, { pay := pay })

/-- READ_PARAM (R465). -/
def execReadParam (ch : Nat) (s : State) : Host.Outcome State Fault Refusal :=
  .next (s.command ch 0x10 (fun s q a => s.readReq q a))

/-- A request of writes with the record of its refusal (R508); one to an RO parameter counts as a protocol error (R7). -/
def State.writeLogged (s : State) (a : Author) (l : List Ent) : State × Reply :=
  let r := s.writeReq a l
  if r.2.st == .ok || r.2.st == .accepted then r
  else ((r.1.writeLog a l r.2.st.code r.2).when (r.2.why == some .mbxReadOnly) State.protoErr, r.2)

/-- WRITE_PARAM (R466). -/
def execWriteParam (ch : Nat) (s : State) : Host.Outcome State Fault Refusal :=
  .next (s.command ch 0x11 (fun s q a =>
    match payEnts true q.pay with
    | none => (s, { st := .malformed })
    | some l => s.writeLogged a l))

/-- A row that is the write of one element: the session of channel `ch` writes it, and a WRITE_PARAM that is being executed and spells
just this entry completes. -/
def State.hostWrite (s : State) (ch : Nat) (e : Ent) : State :=
  match (s.chan ch).sess with
  | some x =>
    if !(s.hostUp && ch < 8) || s.mute then s
    else
      let r := s.writeLogged ⟨ch, x.role, x.id, x.cred⟩ [e]
      match (s.chan ch).req with
      | some q =>
        if (s.chan ch).exec_ && q.op == 0x11 && payEnts true q.pay == some [e] then (r.1.finishWith ch q r.2).resume else r.1
      | none => r.1
  | none => s

/-- BRAMBLE_RESET (R303). -/
def execBrambleReset (ch : Nat) (s : State) : Host.Outcome State Fault Refusal := .next (s.hostWrite ch (oneEnt gPRT 40 0 1))
/-- RE_ADMIT_CELL (R590). -/
def execReAdmitCell (ch c : Nat) (s : State) : Host.Outcome State Fault Refusal := .next (s.hostWrite ch (oneEnt gARM 41 0 c))
/-- COMMIT (R208, R209). -/
def execCommit (ch mask : Nat) (s : State) : Host.Outcome State Fault Refusal := .next (s.hostWrite ch (oneEnt gPWM 13 0 mask))
/-- TEST_MODE (R219). -/
def execTestMode (ch : Nat) (on : Bool) (s : State) : Host.Outcome State Fault Refusal :=
  .next (s.hostWrite ch (oneEnt gPWM 30 0 (if on then 1 else 0)))
/-- MODE_REQUEST (R151). -/
def execModeRequest (ch m : Nat) (s : State) : Host.Outcome State Fault Refusal := .next (s.hostWrite ch (oneEnt gGFM 1 0 m))
/-- COMPARE_ARM (R83): ANG.023. -/
def execCompareArm (ch t : Nat) (on : Bool) (s : State) : Host.Outcome State Fault Refusal :=
  .next (s.hostWrite ch (oneEnt gANG 23 t (if on then 1 else 0)))
/-- REJOIN (R253). -/
def execRejoin (ch port : Nat) (s : State) : Host.Outcome State Fault Refusal := .next (s.hostWrite ch (oneEnt gLNK 23 0 port))
/-- RESYNCHRONISE (R340). -/
def execResynchronise (ch : Nat) (s : State) : Host.Outcome State Fault Refusal := .next (s.hostWrite ch (oneEnt gTWN 11 0 1))
/-- SWAP_NOW (R353). -/
def execSwapNow (ch : Nat) (s : State) : Host.Outcome State Fault Refusal := .next (s.hostWrite ch (oneEnt gTWN 12 0 1))
/-- RECORDER_ARM (R400, R404). -/
def execRecorderArm (ch : Nat) (on : Bool) (s : State) : Host.Outcome State Fault Refusal :=
  .next (s.hostWrite ch (oneEnt gACQ 12 0 (if on then 1 else 0)))
/-- MANUAL_TRIGGER (R399). -/
def execManualTrigger (ch : Nat) (s : State) : Host.Outcome State Fault Refusal := .next (s.hostWrite ch (oneEnt gACQ 13 0 1))
/-- SCRUB_NOW (R522). -/
def execScrubNow (ch : Nat) (s : State) : Host.Outcome State Fault Refusal := .next (s.hostWrite ch (oneEnt gSTO 20 0 1))
/-- OUTPUT_FAULT_RESET (R549). -/
def execOutputFaultReset (ch mask : Nat) (s : State) : Host.Outcome State Fault Refusal := .next (s.hostWrite ch (oneEnt gFIO 30 0 mask))
/-- HOST_RESET (R376, R386). -/
def execHostReset (ch : Nat) (s : State) : Host.Outcome State Fault Refusal := .next (s.hostWrite ch (oneEnt gHDG 61 0 1))
/-- SET_TIME (R438, R447). -/
def execSetTime (ch : Nat) (tai : Int) (s : State) : Host.Outcome State Fault Refusal :=
  .next (s.hostWrite ch (oneEnt gTIM 50 0 (BitVec.ofInt 64 tai).toNat))

/-! ### Coefficient banks (R116 to R122) -/

/-- A bank command with its record (R122). -/
def State.bankLog (s : State) (op : Nat) (a : Author) (old new : Int) (r : Reply) : State :=
  s.audit 0x10 (s.whoAct a.ch a.sess a.cred) op old new 0 r.st.code r.why.toList

/-- Words for the inactive bank (R116, R117, R120, R597). -/
def State.bankWords (s : State) (a : Author) (bank addr : Nat) (ws : List Word) : State × Reply :=
  let bad := fun (r : Reason) => (s.bankLog 0x20 a bank addr (refuse r), refuse r)
  if 1 < bank || 8192 < addr + ws.length || ws.isEmpty then bad .mbxBank
  else if (bank == 1) == s.eng.actB then bad .mbxBank
  else if s.eng.swapAt.isSome then bad .bankPending
  else
    let s := (s.modEng (fun e => e.writeInactive addr ws)).carryCmd 0x20 a s.fr addr ws bank
    (s.bankLog 0x20 a addr (s.eng.crc (!s.eng.actB)).toNat {}, {})

/-- BANK_WRITE (R116). -/
def execBankWrite (ch bank addr : Nat) (ws : List Word) (s : State) : Host.Outcome State Fault Refusal :=
  .next (s.command ch 0x20 (fun s _ a => s.bankWords a bank addr ws))

/-- BANK_READ (R597). -/
def execBankRead (ch bank addr n : Nat) (s : State) : Host.Outcome State Fault Refusal :=
  .next (s.command ch 0x21 (fun s _ _ =>
    if 1 < bank || 8192 < addr + n then (s, refuse .mbxBank)
    else (s, { pay := Config.bankPay (((s.eng.bank (bank == 1)).drop addr).take n) })))

/-- A swap request (R118, R119, R171). -/
def State.bankSwap (s : State) (a : Author) (crc : Word) (target : Option Nat) : State × Reply :=
  let next := s.nextCtl s.fr
  let bad := fun (r : Reason) => (s.bankLog 0x22 a crc.toNat (target.getD next) (refuse r), refuse r)
  if crc != s.eng.crc (!s.eng.actB) then bad .bankCrc
  else if (match target with | some t => t % s.nc != 0 | none => false) then bad .bankTarget
  else if (match target with | some t => decide (t ≤ next) | none => false) then bad .bankLate
  else if s.eng.swapAt.isSome then bad .bankPending
  else if s.kernOn && s.gfmRangeBad (!s.eng.actB) then bad .gfmRange
  else
    let t := target.getD next
    let r : Reply := { st := .accepted, pay := p8 t }
    (((s.modEng (fun e => { e with swapAt := some t })).carryCmd 0x22 a t t [crc]).bankLog 0x22 a crc.toNat t r, r)

/-- BANK_SWAP (R118). -/
def execBankSwap (ch : Nat) (crc : Word) (target : Option Nat) (s : State) : Host.Outcome State Fault Refusal :=
  .next (s.command ch 0x22 (fun s _ a => s.bankSwap a crc target))

/-- A cancel request (R120). -/
def State.bankCancel (s : State) (a : Author) : State × Reply :=
  match s.eng.swapAt with
  | some t =>
    if t ≤ s.fr then (s.bankLog 0x23 a t 0 (refuse .bankNotPending), refuse .bankNotPending)
    else (((s.modEng (fun e => { e with swapAt := none })).carryCmd 0x23 a s.fr 0 []).bankLog 0x23 a t 0 {}, {})
  | none => (s.bankLog 0x23 a 0 0 (refuse .bankNotPending), refuse .bankNotPending)

/-- BANK_CANCEL (R120). -/
def execBankCancel (ch : Nat) (s : State) : Host.Outcome State Fault Refusal :=
  .next (s.command ch 0x23 (fun s _ a => s.bankCancel a))

/-! ### DEBLOCK and HALT as requests (R219, R303, R305, R423, R435, R469, R494, R495) -/

/-- The reason for which a DEBLOCK is refused in the present state; a module that shuts down has left READY for it (R497,
notes/assumptions/134.md). -/
def State.deblockBad (s : State) : Option Reason :=
  if s.sys.st != .ready || s.sys.shut != 0 then some .mbxState
  else if s.resetRefused then some .prtActive
  else if s.arm.test then some .pwmTestActive
  else if s.coreSlow then some .timCoreSlow
  else if s.pb gTIM 34 && (s.clk.tstate == .free || s.clk.tstate == .acquiring) then some .timNotLocked
  else none

/-- A command accepted for a supervisory boundary (R494, R495). -/
def State.acceptCmd (s : State) (op : Nat) (a : Author) : State × Reply :=
  let f := s.nextSup s.fr
  ((s.modPar (fun p => { p with cmds := p.cmds ++ [(op, a.role, a.ch, f)] })).carryCmd op a f 0 [], { st := .accepted, pay := p8 f })

/-- DEBLOCK (R494). -/
def execDeblock (ch : Nat) (s : State) : Host.Outcome State Fault Refusal :=
  .next (s.command ch 0x30 (State.logged (fun s q a =>
    if !q.pay.isEmpty then (s, { st := .malformed })
    else match s.deblockBad with
      | some r => (s, refuse r)
      | none => s.acceptCmd 0x30 a)))

/-- HALT (R495). -/
def execHalt (ch : Nat) (s : State) : Host.Outcome State Fault Refusal :=
  .next (s.command ch 0x31 (State.logged (fun s q a =>
    if !q.pay.isEmpty then (s, { st := .malformed })
    else if s.running then s.acceptCmd 0x31 a
    else (s, refuse .mbxState))))

/-! ### Records (R410 to R412, R519, R532) -/

/-- Signed code of a raw word in format `fmt` (R54). -/
def rawCode (fmt : Nat) (w : Word) : Int :=
  match fmt with
  | 0 => w.toInt
  | 1 => (w.toNat : Int) - 32768
  | 2 => w.toInt / 65536
  | _ => (w.toNat / 65536 : Nat) - 32768

/-- Main channel `c` of a record holds digital words. -/
def Rec.digital (r : Rec) (c : Nat) : Bool := match Config.acqSource (r.srcs.getD c 0) with | .digital _ => true | _ => false

/-- TAI of the first sample of a record. -/
def Rec.startTai (r : Rec) : Nat := (r.data.getLast?.map (·.tai)).getD r.trigTai

/-- The sample of a set, by row and column, lies on a page that could not be read (R532). -/
def Rec.unread (r : Rec) (raw : Bool) (row col : Nat) : Bool := !r.dam.isEmpty && r.dam.contains (Config.recPage raw row col)

/-- Rows of a set with 0 in place of every sample that could not be read (R532). -/
def Rec.readable (r : Rec) (raw : Bool) (rows : List (List Word)) : List (List Word) :=
  rows.zipIdx.map (fun x => x.1.zipIdx.map (fun y => if r.unread raw x.2 y.2 then 0 else y.1))

/-- Row and column of every sample of a set that could not be read (R532). -/
def Rec.lost (r : Rec) (raw : Bool) (rows : List (List Word)) : List (Nat × Nat) :=
  rows.zipIdx.flatMap (fun x => (List.range x.1.length).filterMap (fun k => if r.unread raw x.2 k then some (x.2, k) else none))

/-- The main set: skew of every analog channel, each digital word as 32 status channels, full-rate and reduced sections, times in UTC (R411,
R412). A reduced interval is two rows. -/
def Rec.mainSet (r : Rec) : ComSet :=
  let on := (List.range 64).filter (fun c => r.srcs.getD c 0 != 0)
  let an := on.filter (fun c => !r.digital c)
  let dg := on.filter r.digital
  let cols := an ++ dg
  { timeMult := 0x3F000000, analogs := an.map (fun c => (c, 0x3F800000, 0, r.skew.getD c 0))
    status := dg.flatMap (fun c => (List.range 32).map (fun b => (c, b)))
    rates := (r.tch, r.data.length) ::
      (if r.redu.isEmpty then [] else [(r.rInt * r.tch / 2, r.data.length + 2 * r.redu.length)])
    startUtc := (r.startTai : Int) - r.utc * 1000000000, trigUtc := (r.trigTai : Int) - r.utc * 1000000000
    rows := r.data.reverse.map (fun x => cols.map (fun c => x.ws.getD c 0)) ++
      r.redu.flatMap (fun l => [cols.map (fun c => (l.getD c (0, 0)).1), cols.map (fun c => (l.getD c (0, 0)).2)]) }

/-- The raw set: a = g × LSB and b = o of every raw channel, and the trigger time of the main set (R411, R412). -/
def Rec.rawSet (r : Rec) : ComSet :=
  let n := (r.raw.map (·.length)).foldl max 0
  let chans := r.rawSc.zip (r.raw.filter (fun l => !l.isEmpty))
  { timeMult := 0x3E800000, analogs := r.rawSc.map (fun x => (x.1, x.2.1, x.2.2.1, 0)), status := []
    rates := r.rawSc.map (fun x => (x.2.2.2.2, n))
    startUtc := (r.startTai : Int) - r.utc * 1000000000, trigUtc := (r.trigTai : Int) - r.utc * 1000000000
    rows := (List.range n).map (fun k => chans.map (fun x => fOfInt (rawCode x.1.2.2.2.1 (x.2.getD k 0)))) }

/-- Export file `k` of a record (R411, R532): configuration, data and header of the main set, then those of the raw set. -/
def Rec.file (r : Rec) (k : Nat) : List Byte :=
  let set := if k < 3 then r.mainSet else r.rawSet
  match k % 3 with
  | 0 => Config.comCfg set
  | 1 => Config.comDat { set with rows := r.readable (decide (3 ≤ k)) set.rows }
  | _ => Config.comHdr r.startTai r.trigTai r (r.lost (decide (3 ≤ k)) set.rows)

/-- RECORD_LIST (R410). -/
def execRecordList (ch : Nat) (s : State) : Host.Outcome State Fault Refusal :=
  .next (s.command ch 0x60 (State.logged (fun s _ _ => (s, { pay := Config.recordPay s.peat.recs }))))

/-- A record of Peat by its number (R410). -/
def State.recOf (s : State) (num : Nat) : Option Rec := s.peat.recs.find? (fun r => r.num == num && r.kept)

/-- RECORD_EXPORT (R411, R412, R523, R532): the read waits while work of higher precedence waits. -/
def execRecordExport (ch num file ofs n : Nat) (s : State) : Host.Outcome State Fault Refusal :=
  .next (if !s.peatFree .exportRead then s else s.command ch 0x61 (State.logged (fun s _ _ =>
    match s.recOf num with
    | some r => if 5 < file || 4064 < n then (s, refuse .mbxRange) else (s, { pay := ((r.file file).drop ofs).take n })
    | none => (s, refuse .mbxRange))))

/-- The room of record `r` is free again (R519). -/
def State.recDelete (s : State) (r : Rec) : State :=
  s.modPeat (fun p => { (p.drop s.now 8 r.num) with recs := p.recs.filter (fun x => x.num != r.num), recUsed := p.recUsed - r.size, full := false })

/-- RECORD_DELETE (R519): the record's room is free again; a record that waits for room is written by the next RECORD_WRITTEN. -/
def execRecordDelete (ch num : Nat) (s : State) : Host.Outcome State Fault Refusal :=
  .next (s.command ch 0x62 (State.logged (fun s _ a =>
    match s.recOf num with
    | some r => ((s.recDelete r).carryCmd 0x62 a s.fr num [], {})
    | none => (s, refuse .mbxRange))))

/-! ### Audit log (R508, R509, R512) -/

/-- The 64 bytes of an audit record (R508, R509). -/
def Audit.bytes (r : Audit) : List Byte :=
  let head := p8 r.seq ++ i8 r.tai ++ p8 r.fnum ++ bytesOfNat 1 r.ty ++ bytesOfNat 1 r.origin ++ bytesOfNat 1 r.ch ++ bytesOfNat 1 r.flags
  let body :=
    if r.ty == 0x7F then padTo 32 (r.more.flatMap Reason.bytes ++ r.vals.flatMap i8)
    else p4 r.sess ++ bytesOfNat 2 r.cred ++ bytesOfNat 2 r.result ++ p4 r.subj ++ i8 r.old ++ i8 r.new ++ i4 r.detail
  head ++ body ++ pw (crc32 (head ++ body))

/-- LOG_READ (R512, R531). -/
def execLogRead (ch fromSeq n : Nat) (s : State) : Host.Outcome State Fault Refusal :=
  .next (s.command ch 0x70 (State.logged (fun s _ _ =>
    let held := s.sys.log.reverse.filter (fun r => !r.gone)
    let oldest := (held.head?.map (·.seq)).getD 0
    let l := (held.filter (fun r => fromSeq ≤ r.seq)).take (min n 63)
    (s, { pay := Config.logHead (decide (fromSeq < oldest)) oldest ++ l.flatMap Audit.bytes }))))

/-! ### Gate-unit firmware (R257) -/

/-- A block of the staged gate-unit file. -/
def State.guStage (s : State) (ofs : Nat) (bytes : List Byte) : State :=
  s.modPeat (fun p => { p with guFile := if ofs == 0 then bytes else p.guFile ++ bytes, dirty := p.dirty + 1 })

/-- GU_FW_LOAD (command table): the file grows block by block; offset 0 begins a new one. -/
def execGuFwLoad (ch ofs : Nat) (bytes : List Byte) (s : State) : Host.Outcome State Fault Refusal :=
  .next (s.command ch 0x80 (State.logged (fun s _ a =>
    if ofs == 0 || ofs == s.peat.guFile.length then ((s.guStage ofs bytes).carryCmd 0x80 a s.fr ofs (bytes.map (·.setWidth 32)), {})
    else (s, refuse .cfgSequence))))

/-- Blocks of 56 bytes with their offsets. -/
def fwBlocks : Nat → Nat → List Byte → List (Nat × List Byte)
  | 0, _, _ => []
  | k + 1, ofs, l => if l.isEmpty then [] else (ofs, padTo 56 (l.take 56)) :: fwBlocks k (ofs + 56) (l.drop 56)

/-- Requests that bring a file to the cell at position `pos`: its blocks, then FW_COMMIT with its CRC-32 (message request table). -/
def fwMsgs (pos : Nat) (file : List Byte) : List Msg :=
  (fwBlocks file.length 0 file).map (fun b => { mtype := 5, target := pos, seq := 0, addr := b.1, payload := b.2 }) ++
    [{ mtype := 6, target := pos, seq := 0, addr := 0, payload := pw (crc32 file) }]

/-- The staged file waits on the port of each cell. -/
def State.guStart (s : State) (cells : List Nat) : State :=
  forAll cells (fun s c => s.updPort (s.cell c).port (fun p => { p with out_ := p.out_ ++ fwMsgs (s.cell c).pos s.peat.guFile })) s

/-- GU_FW_START (R257): the staged file goes to each listed cell and is committed there. -/
def execGuFwStart (ch : Nat) (cells : List Nat) (s : State) : Host.Outcome State Fault Refusal :=
  .next (s.command ch 0x81 (State.logged (fun s _ a =>
    if cells.any (fun c => !(s.cell c).conf) then (s, refuse .mbxRange)
    else ((s.guStart cells).carryCmd 0x81 a s.fr 0 (cells.map (BitVec.ofNat 32)), {}))))

end Sys2Proof.Machine
end

