-- ==== Sys2Proof/Machine/Images.lean ====
section
/-!
DEFINITION. Configuration images (chapter 14, R479 to R487): the header, the integrity stage, transfers, key slots and the selection of
a slot.
-/
namespace Sys2Proof.Machine
open Sys2Proof

/-! ### Header and sections of a CONFIG image (R479, R480, R594) -/

/-- One entry of the section table. -/
structure SecEnt where
  ty   : Nat
  ofs  : Nat
  len  : Nat
  hash : List Byte
deriving DecidableEq, Repr

/-- The eight entries of the section table, bytes 32 to 287. -/
def secEnts (b : List Byte) : List SecEnt :=
  (List.range 8).map (fun k =>
    let o := 32 + 32 * k
    ⟨beAt b o 1, beAt b (o + 4) 4, beAt b (o + 8) 4, (b.drop (o + 12)).take 20⟩)

/-- Bytes of a section as its entry places them. -/
def SecEnt.bytes (e : SecEnt) (b : List Byte) : List Byte := (b.drop e.ofs).take e.len

/-- Bytes of the section of a type; none where the table does not name it. -/
def secOfType (b : List Byte) (ty : Nat) : Option (List Byte) := ((secEnts b).find? (fun e => e.ty == ty)).map (fun e => e.bytes b)

/-- HDG_REF: the Hedgerow section is a reference. -/
def imgRef (b : List Byte) : Bool := beAt b 7 1 == 1
/-- IMAGE_VERSION. -/
def imgVersion (b : List Byte) : Nat := beAt b 8 4
/-- TOPO_DIGEST of an image (R594). -/
def imgTopo (b : List Byte) : Nat := (crc32 ((secOfType b 1).getD [])).toNat
/-- First 8 bytes of the SHA-256 of an image (R325, DIA.222). -/
def imgSha8 (b : List Byte) : Nat := natOfBytes ((sha256 b).take 8)

/-- What an image says: the header gives the node and the section types, its sections the rest (R479). -/
def imgContent (b : List Byte) : Content :=
  { Config.imageContents b with nodeId := beAt b 16 1, secs := (secEnts b).map (·.ty) }

/-! ### The integrity stage (stage 1 of R488) -/

/-- Every failure of the integrity stage with the section type it concerns: format, hashes, signatures, version, release (R480, R482,
R484, R579). -/
def State.integrity (s : State) (b : List Byte) : List (Reason × Nat) :=
  let no := fun (ok : Bool) (r : Reason) (t : Nat) => if ok then [] else [(r, t)]
  let len := b.length
  let inImg := fun (e : SecEnt) => decide (e.ofs + e.len ≤ len)
  let hdg := (secOfType b 5).getD []
  no (beAt b 0 4 == 0x585A4331 && beAt b 4 2 == 2 && beAt b 6 1 == 1 && beAt b 24 8 == len && decide (512 ≤ len) &&
      decide (len ≤ 16777216)) .cfgFormat 0 ++
    (secEnts b).flatMap (fun e => no (inImg e && (sha256 (e.bytes b)).take 20 == e.hash) .cfgHash e.ty) ++
    no (match s.sys.key1 with
        | some k => ecdsaOk k (sha256 (b.take 288)) ((b.drop 288).take 64)
        | none => false) .cfgSignature 0 ++
    (if imgRef b then no (hdg.length == 32 && natOfBytes hdg == s.hdg.secHash) .cfgHdgRef 5
     else no (match s.sys.key2 with
        | some k => ecdsaOk k (sha256 hdg) ((b.drop 352).take 64)
        | none => false) .cfgHdgSignature 5) ++
    no (decide (s.pn gCFG 5 ≤ imgVersion b)) .cfgRollback 0 ++
    no (decide (beAt b 12 4 ≤ (Config.fwRelease s.sys.fwB).toNat)) .cfgRelease 0

/-! ### Transfers (R481 to R484, R505) -/

/-- Longest image of a kind: CONFIG 16 MiB (header table), firmware slot and staging area as their partitions (R516). -/
def imgMax : Nat → Nat
  | 1 => 16777216 | 4 => 67108864 | _ => 33554432

/-- Index of the slot that the module is not running. -/
def otherSlot (b : Bool) : Nat := if b then 0 else 1

/-- An image command's record (event type 0x11). -/
def State.imgLog (s : State) (op : Nat) (a : Author) (old new : Int) (r : Reply) : State × Reply :=
  (s.audit 0x11 (s.whoAct a.ch a.sess a.cred) op old new 0 r.st.code r.why.toList, r)

/-- Blocks of Peat, both copies, for `n` bytes. -/
def imgBlocks (n : Nat) : Nat := 2 * ((n + 262143) / 262144)

/-- IMAGE_BEGIN (R482, R483): the transfer opens and the slot that is not running is erased. -/
def State.imgBegin (s : State) (a : Author) (kind len : Nat) : State × Reply :=
  let bad := fun (r : Reply) => s.imgLog 0x40 a kind len r
  if kind == 0 || 4 < kind || imgMax kind < len then bad (refuse .mbxRange)
  else if (kind == 2 || kind == 3) && a.role != .guardian then bad { st := .privilege }
  else if s.sys.life != .provisioned && kind != 3 then bad (refuse .cfgState)
  else if s.sys.xfer.isSome then bad (refuse .cfgBusy)
  else
    let s := s.modSys (fun y => { y with xfer := some { Xfer.reset with ch := a.ch, kind := kind, len := len } })
    let s :=
      if kind == 1 then
        let k := otherSlot s.sys.runB
        (s.modSys (fun y => { y with slots := y.slots.set k Slot_.reset })).modPeat (fun p => p.drop s.now 1 k)
      else if kind == 4 then
        let k := otherSlot s.sys.fwB
        (s.modSys (fun y => { y with fwOk := y.fwOk.set k false })).modPeat (fun p => p.drop s.now 0 k)
      else s
    (s.carryCmd 0x40 a s.fr len [] kind).imgLog 0x40 a kind len {}

/-- IMAGE_BEGIN. -/
def execImageBegin (ch kind len : Nat) (s : State) : Host.Outcome State Fault Refusal :=
  .next (s.command ch 0x40 (fun s _ a => s.imgBegin a kind len))

/-- IMAGE_BLOCK (R482, R483): the offset equals the end of the previous block; from the block that shows HDG_REF 0 on, the transfer needs
a GUARDIAN session. -/
def State.imgBlock (s : State) (a : Author) (ofs : Nat) (bytes : List Byte) : State × Reply :=
  let bad := fun (r : Reply) => s.imgLog 0x41 a ofs bytes.length r
  match s.sys.xfer with
  | none => bad (refuse .cfgSequence)
  | some x =>
    let data := x.data ++ bytes
    let hdg := x.hdg || (x.kind == 1 && decide (8 ≤ data.length) && !imgRef data)
    if x.ch != a.ch then bad (refuse .cfgBusy)
    else if (hdg || x.kind == 2 || x.kind == 3) && a.role != .guardian then bad { st := .privilege }
    else if ofs != x.data.length || 4032 < bytes.length || x.len < data.length then bad (refuse .cfgSequence)
    else
      let s := s.modSys (fun y => { y with xfer := some { x with data := data, hdg := hdg } })
      (s.carryCmd 0x41 a s.fr ofs (bytes.map (·.setWidth 32))).imgLog 0x41 a ofs bytes.length {}

/-- IMAGE_BLOCK. -/
def execImageBlock (ch ofs : Nat) (bytes : List Byte) (s : State) : Host.Outcome State Fault Refusal :=
  .next (s.command ch 0x41 (fun s _ a => s.imgBlock a ofs bytes))

/-- A stored CONFIG image that passes the integrity stage (R482). -/
def State.storeConfig (s : State) (b : List Byte) : State :=
  let k := otherSlot s.sys.runB
  let slot : Slot_ := { Slot_.reset with
    complete := true, bytes := b, cont := some (imgContent b), sha8 := imgSha8 b, version := imgVersion b, tool := beAt b 20 4
    topo := imgTopo b }
  (s.modSys (fun y => { y with slots := y.slots.set k slot })).modPeat (fun p => p.takeN s.now 1 k (imgBlocks b.length))

/-- A KEYS image takes effect: every other session closes, slots 1 to 34 are replaced as a whole (R481). -/
def State.storeKeys (s : State) (a : Author) (b : List Byte) : State :=
  let k := Config.keysOf b
  let s := forAll ((List.range 8).filter (fun c => c != a.ch)) (fun s c => s.sessionClose c 3) s
  (s.modSys (fun y => { y with
    key1 := k.1, key2 := k.2.1, creds := (k.2.2 ++ List.replicate 32 Cred.reset).take 32 })).audit 0x13
      (s.whoAct a.ch a.sess a.cred) 0x42 0 2

/-- A KEYS image without signature is accepted: slot 1 is empty, the channel is a PCIe one, the session GUARDIAN with credential 0
(R481). -/
def State.bareKeys (s : State) (a : Author) : Bool :=
  s.sys.key1.isNone && s.onPcie a.ch && a.role == .guardian && a.cred == 0

/-- What an image other than CONFIG fails (R480, R481, table of image kinds); a module that answers only GET_INFO takes none (R506). -/
def State.otherBad (s : State) (a : Author) (kind : Nat) (b : List Byte) : Option Reason :=
  let x := Config.otherImage kind b
  let good := fun (k : Nat) => ecdsaOk k (sha256 x.2.1) x.2.2
  if s.mute then some .mbxState
  else if !x.1 then some .cfgFormat
  else if kind == 4 then (if good s.sys.key0 then none else some .cfgSignature)
  else
    match s.sys.key1 with
    | some k => if good k then none else some .cfgSignature
    | none => if kind == 2 && s.bareKeys a then none else some .cfgSignature

/-- IMAGE_COMMIT (R481 to R484, R505, R524): the integrity stage on the stored image; Peat commits its journal. -/
def State.imgCommit (s : State) (a : Author) (sha : List Byte) : State × Reply :=
  let bad := fun (s : State) (r : Reply) => s.imgLog 0x42 a 0 0 r
  match s.sys.xfer with
  | none => bad s (refuse .cfgSequence)
  | some x =>
    if x.ch != a.ch then bad s (refuse .cfgBusy)
    else if (x.hdg || x.kind == 2 || x.kind == 3) && a.role != .guardian then bad s { st := .privilege }
    else if x.data.length != x.len then bad s (refuse .cfgSequence)
    else
      let s := (s.modSys (fun y => { y with xfer := none })).carryCmd 0x42 a s.fr 0 (sha.map (·.setWidth 32))
      if sha256 x.data != sha then bad s (refuse .cfgHash)
      else if x.kind == 1 then
        match s.integrity x.data with
        | [] => ((s.storeConfig x.data).journalCommit).imgLog 0x42 a 1 (imgVersion x.data) {}
        | f :: _ => bad s (refuse f.1)
      else
        match s.otherBad a x.kind x.data with
        | some r => bad s (refuse r)
        | none =>
          let s :=
            if x.kind == 2 then s.storeKeys a x.data
            else if x.kind == 3 then s.modSys (fun y => { y with lifeReq := some (Config.lifeOf x.data) })
            else
              let k := otherSlot s.sys.fwB
              (s.modSys (fun y => { y with fwOk := y.fwOk.set k true })).modPeat (fun p => p.takeN s.now 0 k (imgBlocks x.data.length))
          (s.journalCommit).imgLog 0x42 a x.kind 0 {}

/-- IMAGE_COMMIT. -/
def execImageCommit (ch : Nat) (sha : List Byte) (s : State) : Host.Outcome State Fault Refusal :=
  .next (s.command ch 0x42 (fun s _ a => s.imgCommit a sha))

/-! ### Selection (R483, R485, R486) -/

/-- Number under which a selection with ACTIVATE waits for its boundary: the opcode, the kind of slot and the slot. -/
def selCode (fw slotB : Bool) : Nat := 0x43 + (if fw then 256 else 0) + (if slotB then 512 else 0)

/-- The slot is recorded: configuration for the next start, firmware for the next boot (R485). -/
def State.selSet (s : State) (fw slotB : Bool) : State :=
  s.modSys (fun y => if fw then { y with fwSelB := slotB, bootBad := 0 } else { y with startB := slotB })

/-- The slot named can start. -/
def State.selReady (s : State) (fw slotB : Bool) : Bool :=
  let k := if slotB then 1 else 0
  if fw then s.sys.fwOk.getD k false else (s.sys.slots.getD k Slot_.reset).complete

/-- IMAGE_SELECT (R483, R485). -/
def State.imgSelect (s : State) (a : Author) (fw slotB activate : Bool) : State × Reply :=
  let slot := s.sys.slots.getD (if slotB then 1 else 0) Slot_.reset
  let bad := fun (r : Reply) => s.imgLog 0x43 a (selCode fw slotB) 0 r
  if !s.selReady fw slotB then bad (refuse .cfgSlotEmpty)
  else if !fw && !imgRef slot.bytes && a.role != .guardian then bad { st := .privilege }
  else if s.sys.st == .running then bad (refuse .cfgState)
  else
    let f := s.nextSup s.fr
    let s := s.carryCmd 0x43 a f (selCode fw slotB) [] (if activate then 1 else 0)
    if activate then
      (s.modPar (fun p => { p with cmds := p.cmds ++ [(selCode fw slotB, a.role, a.ch, f)] })).imgLog 0x43 a (selCode fw slotB) f
        { st := .accepted, pay := p8 f }
    else (s.selSet fw slotB).imgLog 0x43 a (selCode fw slotB) 0 {}

/-- IMAGE_SELECT. -/
def execImageSelect (ch : Nat) (fw slotB activate : Bool) (s : State) : Host.Outcome State Fault Refusal :=
  .next (s.command ch 0x43 (fun s _ a => s.imgSelect a fw slotB activate))

end Sys2Proof.Machine
end

