-- ==== Sys2Proof/Machine/Load.lean ====
section
/-!
DEFINITION. Loading a CONFIG image into the module (R443, R479, R490): parameters, channels, program, banks and what is derived from
them.
-/
namespace Sys2Proof.Machine
open Sys2Proof

/-- Code of SYS.001. -/
def roleCode (r : Role) : Nat := r.code

/-- The entry of the module's own node in the topology section (R479). -/
def Content.own (c : Content) : Option TopoNode := c.nodes.find? (fun n => n.id == c.nodeId)

/-- A value of an image as it is stored: reserved bits are ignored (R6). -/
def PVal.stored (v : PVal) : PVal := { v with v := storedVal v.id v.v.toInt }

/-- Puts a list of values over another. -/
def pvOver (base l : List PVal) : List PVal := l.foldl (fun b v => pvPut v b) base

/-- Parameter values once image `c` is loaded: those it sets, every other at its default; role and wiring from its node's entry;
`CFG.005` only rises; a Hedgerow reference keeps the group HDG as it runs (R479, R484). -/
def State.imageVals (s : State) (c : Content) (ref : Bool) : List PVal :=
  let keep := if ref then s.par.vals.filter (fun v => v.id.g == gHDG) else []
  let own := match c.own with
    | some n => [⟨⟨gSYS, 1⟩, 0, BitVec.ofNat 64 (roleCode n.role)⟩, ⟨⟨gSYS, 2⟩, 0, BitVec.ofNat 64 n.id⟩,
                 ⟨⟨gSYS, 3⟩, 0, BitVec.ofNat 64 n.parent⟩, ⟨⟨gSYS, 7⟩, 0, BitVec.ofNat 64 n.arms⟩]
    | none => []
  let l := pvOver (pvOver [] ((c.params.filter (fun v => !(ref && v.id.g == gHDG))).map PVal.stored)) (keep ++ own)
  let v5 := max (s.pn gCFG 5) ((pStored l ⟨gCFG, 5⟩ 0).getD 0).toNat
  if v5 == 0 then l else pvPut ⟨⟨gCFG, 5⟩, 0, BitVec.ofNat 64 v5⟩ l

/-- Cells of the module's own node in channel order: by port, then by position counted from the head (notes/assumptions/15.md). -/
def Content.ownCells (c : Content) : List TopoCell :=
  let l := c.cells.filter (fun x => x.node == c.nodeId)
  (l.mergeSort (fun a b => decide (a.port < b.port) || (a.port == b.port && decide (a.pos ≤ b.pos)))).take 512

/-- A channel as an image configures it. -/
def Cell.ofTopo (t : TopoCell) : Cell :=
  { Cell.reset with conf := true, arm := t.arm, port := t.port, pos := t.pos, fb := t.fb, ratedV := t.ratedV, capUF := t.capUF
                    serial := t.serial.getD 0 }

/-- The channels of an image. -/
def Content.channels (c : Content) : List Cell :=
  let l := c.ownCells.map Cell.ofTopo
  l ++ List.replicate (512 - l.length) Cell.reset

/-! ### Fibre and times of a chain (R226, R249, R313, DIA.129) -/

/-- Exact fibre delay of `dm` tenths of a metre, as a fraction of ns. -/
def State.fibreQ (s : State) (dm : Nat) : Int × Nat := let q := fToQ (s.pf gLNK 11); ((dm : Int) * q.1, 10 * q.2)

/-- DIA.129: the time at which the last cell of the chain is reached by BLOCK_ALL, whole ns, halves to even (R249). -/
def State.reachOf (s : State) (port : Nat) : Nat :=
  let p := s.headPort port
  let n := s.chainLen p
  let all := s.fibreTo p n
  let cell := fun (i : Nat) =>
    let near := (s.fibreTo p i, i)
    let far := (all - s.fibreTo p i, n - 1 - i)
    let t := fun (x : Nat × Nat) => let q := s.fibreQ x.1; (q.1 + ((60 + 40 * x.2 : Nat) : Int) * q.2, q.2)
    let a := t near
    let b := t far
    -- both fractions have the same denominator
    if 2 ≤ s.topoOf p && decide (b.1 < a.1) then b else a
  ((List.range n).map (fun i => (divEven (cell i).1 (cell i).2).toNat)).foldl max 0

/-- DIA.129 of every port. -/
def State.setReach (s : State) : State :=
  s.modLink (fun l => { l with ports := l.ports.mapIdx (fun p x => { x with reach := if s.cellPort p then s.reachOf p else 0 }) })

/-! ### Units that self-test marks (R503, R513) -/

/-- Usable lanes, one bit each (R125). -/
def State.lanesOk (s : State) : Nat :=
  ((List.range 4).map (fun k => if (s.sys.tests.getD k SliceS.reset).unusable then 0 else 2 ^ k)).sum

/-! ### Loading -/

/-- Both Hedgerow channels hold a valid parameter set: that of the Hedgerow section loaded or referred to (R378, R479). -/
def State.hdgValid (s : State) : State :=
  s.modHdg (fun h => { h with sa := { h.sa with valid := true }, sb := { h.sb with valid := true } })

/-- The trackers start anew with an image or without one; a compare that was armed is disarmed by it (R78, R90 CMP_DISARMED). -/
def State.trkLoad (s : State) : State :=
  let s := forAll (List.range 4) (fun s t => s.when (s.tracker t).set.armed (fun s => s.rcSet 44 t 11)) s
  s.modTrk (fun l => l.map (fun _ => Trk.fresh s.now))

/-- The image is loaded: parameters, channels, program, banks, kernel, trackers (R443, R585). The Hedgerow section loaded is the one that
the module runs (R479), unless `keep` says that it stays as it is. -/
def State.loadImage (s : State) (c : Content) (b : List Byte) (keep : Bool := false) : State :=
  let ref := keep || imgRef b
  let vals := s.imageVals c ref
  let s := (s.modSys (fun y => { y with run := some c })).modPar (fun p => { p with vals := vals, bankW := [] })
  let s := s.modArm (fun a => { a with cells := c.channels, seed := 0, refs := a.refs.map (fun r => { r with vPrev := 0, vNew := 0 }) })
  let s := if ref then s else s.modHdg (fun h => { h with secHash := natOfBytes (sha256 ((secOfType b 5).getD [])) })
  let s := s.hdgValid
  let bankB := s.pn gLPE 7 == 1
  let s := s.modEng (Eng.load c s.lanesOk bankB)
  let s := (s.modKern Kern.load).trkLoad
  let seed := s.pn gPWM 20
  let s := s.modArm (fun a => { a with seed := seed, cells := a.cells.mapIdx (fun i x => { x with lfsr := lfsrInit seed i }) })
  s.ocRefresh.setReach

/-- No image is loaded: every parameter at its default but those that a load keeps, and no channel (R491). -/
def State.noImage (s : State) : State :=
  let v5 := s.pn gCFG 5
  let keep := s.par.vals.filter (fun v => v.id.g == gHDG) ++
    (if v5 == 0 then [] else [⟨⟨gCFG, 5⟩, 0, BitVec.ofNat 64 v5⟩])
  let s := (s.modSys (fun y => { y with run := none })).modPar (fun p => { p with vals := pvOver [] keep })
  ((s.modArm (fun a => { a with cells := List.replicate 512 Cell.reset })).modEng (Eng.load {} s.lanesOk false)).trkLoad

end Sys2Proof.Machine
end

