-- ==== Sys2Proof/Machine/Validate.lean ====
section
/-!
DEFINITION. Validation of a CONFIG image (chapter 14, R488): stages 2 to 5 on the loaded image. The integrity stage is in Images.lean, the
identity match in Identity.lean.
-/
namespace Sys2Proof.Machine
open Sys2Proof

/-- A finding, where `b` says that the check fails. -/
def findIf (b : Bool) (stage : Nat) (r : Reason) (sec : Nat) (d1 : Int := 0) (d2 : Int := 0) : List Find :=
  if b then [⟨stage, r, sec, d1, d2⟩] else []

/-- A stored value by its parameter's type. -/
def valOf (ty : PTy) (v : Raw) : Int :=
  match ty with
  | .s16 | .s32 | .s64 | .time => v.toInt
  | _ => (v.toNat : Int)

/-- Section that sets a group (table of CONFIG sections). -/
def secOfGroup (g : Nat) : Nat :=
  if g == gSYS || g == gLNK || g == gNST || g == gTWN then 1
  else if g == gLPE || g == gGFM || g == gARM || g == gPWM then 2
  else if g == gPRT then 4
  else if g == gHDG then 5
  else if g == gACQ then 7
  else if g == gTIM then 8
  else 6

/-- Indexes below `n`. -/
def upTo (n : Nat) : List Nat := List.range n

/-! ### Stage 2: structure -/

/-- A value of an image names a parameter within its array bounds. -/
def State.pvalKnown (s : State) (v : PVal) : Bool :=
  match s.idLen v.id with
  | some n => v.id.g != gDIA && decide (v.e < n)
  | none => false

/-- Nodes whose number of children, or whose place in the tree, the role table does not allow (R15, R18): an ARM and a COMPACT have none,
an AGGREGATOR has 2 to 32, a POLE 1 to 32; a POLE and a COMPACT have no parent, any other has one; one root. -/
def Content.treeBad (c : Content) : List Nat :=
  let kids := fun (n : TopoNode) => (c.nodes.filter (fun m => m.parent == n.id && m.id != n.id)).length
  let root := fun (n : TopoNode) => n.role == .pole || n.role == .compact
  ((c.nodes.filter (fun n =>
    (match n.role with
     | .arm | .compact => kids n != 0
     | .aggregator => kids n < 2 || 32 < kids n
     | .pole => kids n < 1 || 32 < kids n) ||
    (if root n then n.parent != 0 else !(c.nodes.map (·.id)).contains n.parent || n.parent == n.id))).map (·.id)) ++
  (if (c.nodes.filter root).length == 1 then [] else [0])

/-- Stage 2. -/
def State.stage2 (s : State) (c : Content) : List Find :=
  (upTo 8).flatMap (fun k => findIf ((c.secs.filter (fun t => t == k + 1)).length != 1) 2 .cfgSection (k + 1)) ++
    findIf (!c.typed) 2 .cfgParam 0 ++
    (c.params.filter (fun v => !s.pvalKnown v)).flatMap (fun v => findIf true 2 .cfgParam (secOfGroup v.id.g) (v.id.code v.e)) ++
    findIf c.own.isNone 2 .cfgNode 1 c.nodeId ++ c.treeBad.flatMap (fun n => findIf true 2 .cfgNode 1 (n : Nat))

/-! ### Stage 3: ranges and pairwise limits -/

/-- A value of an image lies in its range (R12); the mask of a condition is judged at stage 4 (R397). -/
def State.pvalOk (s : State) (v : PVal) : Bool :=
  match prow v.id with
  | some r =>
    let x := valOf r.ty v.v
    if v.id == ⟨gACQ, 45⟩ then decide (r.lo ≤ x) && decide (x ≤ r.hi)
    else if v.id == ⟨gSYS, 3⟩ then decide (r.lo ≤ x) && decide (x ≤ r.hi) && (!s.isRoot || x == 0)
    else if v.id == ⟨gSYS, 7⟩ then decide (r.lo ≤ x) && decide (x ≤ r.hi) && (s.role != .aggregator || x == 1)
    else s.inRange v.id v.e r x
  | none => true

/-- Stage 3 (R12, R114, R171, R289, R293, R294, R311, R322). -/
def State.stage3 (s : State) (c : Content) : List Find :=
  let pad := fun (l : List Word) => (l ++ List.replicate 8192 0).take 8192
  let clamp := fun (bank : List Word) (x : Inst) => clampsOk x.ty (bank.drop x.coef)
  (s.par.vals.filter (fun v => !s.pvalOk v)).flatMap (fun v =>
      findIf true 3 .cfgRange (secOfGroup v.id.g) (v.id.code v.e) v.v.toInt) ++
    (if c.gfmSet then findIf (s.gfmRangeBad false || s.gfmRangeBad true) 3 .gfmRange 2 else []) ++
    (c.prog.zipIdx).flatMap (fun x =>
      findIf (!clamp (pad c.bankA) x.1) 3 .lpeRange 3 x.2 0 ++ findIf (!clamp (pad c.bankB) x.1) 3 .lpeRange 3 x.2 1) ++
    findIf (decide (s.pn gNST 61 ≤ s.pn gNST 60)) 3 .nstRange 1 (s.pn gNST 60) (s.pn gNST 61) ++
    findIf (!fLt (s.pf gPRT 22) (s.pf gPRT 21)) 3 .prtRange 4 ((⟨gPRT, 22⟩ : Pid).code) ++
    (c.params.filter (fun v =>
      (v.id == ⟨gPRT, 1⟩ && (v.e / 16 == 4 || ((v.e / 16 == 30 || v.e / 16 == 31) && decide (1 < v.v.toNat)))) ||
      (v.id == ⟨gPRT, 2⟩ && v.e == 4))).flatMap (fun v => findIf true 3 .prtRange 4 (v.id.code v.e) v.v.toInt) ++
    (if s.isLeaf then (upTo s.nArms).flatMap (fun a =>
        findIf (s.ocCodeBad a (s.pf gPRT 11 a)) 3 .prtRange 4 ((⟨gPRT, 11⟩ : Pid).code a) ++
        findIf (s.ocCodeBad a (s.pf gPRT 12 a)) 3 .prtRange 4 ((⟨gPRT, 12⟩ : Pid).code a))
      else [])

/-! ### Stage 4: cross-consistency -/

/-- Role of a node of the topology. -/
def Content.roleOf (c : Content) (id : Nat) : Option Role := (c.nodes.find? (fun n => n.id == id)).map (·.role)

/-- The image sets a parameter that its role does not hold (R174). -/
def State.armRoleBad (s : State) (v : PVal) : Bool :=
  let ref := v.id.g == gARM && 3 ≤ v.id.n && v.id.n ≤ 5
  if ref then !s.isRoot else (v.id.g == gPWM || (v.id.g == gARM && v.id.n != 1)) && !s.isLeaf

/-- Kernel inputs and trackers (R133, R170). -/
def State.gfmInputBad (s : State) (c : Content) : Bool :=
  let three := fun (l : List Src) => l.length == 3 && l.all (fun x => x != .none)
  (match c.kern with
   | some k => !(three k.v && three k.i && k.vdc != .none)
   | none => true) ||
  !s.trkOn (s.pn gGFM 6 - 1) || (s.pn gGFM 5 != 0 && !s.trkOn (s.pn gGFM 5 - 1))

/-- Modulation mode of an arm against role, cells and split (R183). -/
def State.armModeBad (s : State) (c : Content) (a : Nat) : Bool :=
  let cs := (s.channels a).map s.cell
  match s.pn gARM 1 a with
  | 1 => s.role == .aggregator || c.roleOf (s.pn gSYS 3) == some .aggregator
  | 2 => s.role != .compact || decide (64 < cs.length) || cs.any (·.fb)
  | _ => false

/-- The children and sections that present converter arm `e` at a POLE, by NST.004 and the children's number of arms. -/
def State.presents (s : State) (c : Content) (e : Nat) : List Nat :=
  s.kidIdx.filter (fun i => (List.range (max 1 (((c.nodes.find? (fun n => n.id == s.pn gNST 3 i)).map (·.arms)).getD 1))).any (fun j =>
    s.pn gNST 4 (2 * i + j) == e))

/-- Converter arms of a POLE with a mode that R183 refuses: PSC, or NLM+PWM for an arm split over leaves. -/
def State.poleModes (s : State) (c : Content) : List Nat :=
  (List.range 12).filter (fun e =>
    let l := s.presents c e
    s.pn gARM 1 e == 2 ||
      (s.pn gARM 1 e == 1 && (decide (1 < l.length) || l.any (fun i => c.roleOf (s.pn gNST 3 i) == some .aggregator))))

/-- Nodes and ports that R580 refuses: more than 512 cells, or an arm index that the node does not own. -/
def Content.cellsBad (c : Content) : List (Nat × Nat) :=
  c.nodes.flatMap (fun n =>
    let l := c.cells.filter (fun x => x.node == n.id)
    (if 512 < l.length then [(n.id, ((l.drop 512).head?.map (·.port)).getD 0)] else []) ++
      ((l.filter (fun x => n.arms ≤ x.arm)).map (fun x => (n.id, x.port))).eraseDups)

/-- Triggers of input `i` (R49, R52). -/
def State.triggerBad (s : State) (i : Nat) : Bool :=
  s.delayBad i || (s.pn gMEA 2 i == 1 && !s.isLeaf) ||
    (i % 2 == 0 && s.pairEven i && s.pn gMEA 2 i != 2)

/-- Sources of tracker `t` (R71). -/
def State.angSourceBad (s : State) (t : Nat) : Bool :=
  let l := [s.pn gANG 3 t, s.pn gANG 4 t, s.pn gANG 5 t]
  let same := fun (f : Nat → Nat) => l.any (fun k => f k != f (s.pn gANG 3 t))
  s.trkOn t && (match s.pn gANG 2 t with
    | 0 => same (fun k => s.pn gMEA 2 k) || same (fun k => s.pn gMEA 3 k) ||
      (s.pn gMEA 2 (s.pn gANG 3 t) == 1 && (same (fun k => s.pn gMEA 4 k) || same (fun k => s.pn gMEA 5 k)))
    | 1 => same (fun k => s.pn gMEA 42 k) || l.any (fun k => 8 ≤ k)
    | _ => decide (8 ≤ s.pn gANG 3 t))

/-- A port's topology and number of cells break R227. -/
def State.chainBad (s : State) (p : Nat) : Bool :=
  let n := s.chainLen p
  let tooMany := fun (k : Nat) => n == 0 || decide (k < n) || decide (k < s.pn gLNK 2 p)
  match s.topoOf p with
  | 1 => tooMany 16
  | 2 => p % 2 != 0 || s.topoOf (p + 1) != 3 || tooMany 32
  | 3 => p % 2 != 1 || s.topoOf (p - 1) != 2 || !(s.portCells p).isEmpty
  | 4 => !s.pb gTWN 1 || tooMany 16
  | _ => !(s.portCells p).isEmpty

/-- The fibre or the return time of a chain breaks R238. -/
def State.budgetBad (s : State) (p : Nat) : Bool :=
  let n := s.chainLen p
  let q := s.fibreQ (s.fibre p)
  let room : Int := 2 * (s.tf : Int) - 400 - 1112 - 40 * (n : Int)
  s.cellPort p && s.topoOf p != 3 &&
    ((upTo 33).any (fun k => decide (4000 < s.pn gLNK 10 (33 * p + k))) || decide (6000 < s.fibre p) ||
      decide (room * (q.2 : Int) < q.1))

/-- Nest ports in use: those to the parent and to the children. -/
def State.nestPorts (s : State) : List Nat := (if s.hasParent then s.parNamed else []) ++ s.kidIdx.flatMap s.kidNamed

/-- A nest link breaks its budget (R266): 680 ns on the line plus the fibre. -/
def State.nestBad (s : State) (p : Nat) : Bool :=
  let q := s.fibreQ (s.pn gNST 5 p)
  decide (((s.tf : Int) - 800 - 680) * (q.2 : Int) < q.1)

/-- A nest connection names fewer than two ports although the far node is a pair: it does not reach each of its members (R268, R326). -/
def State.pairLinkBad (s : State) (c : Content) : Bool :=
  let pair := fun (id : Nat) => c.nodes.any (fun n => n.id == id && n.pair)
  (s.hasParent && pair (s.pn gSYS 3) && decide (s.parNamed.length < 2)) ||
    s.kidIdx.any (fun i => pair (s.pn gNST 3 i) && decide ((s.kidNamed i).length < 2))

/-- Sources of raw channel `r` (R394). -/
def State.rawBad (s : State) (r : Nat) : Bool :=
  match s.rawIn r with
  | some i => s.pn gMEA 2 i != 2 || s.pairOdd i
  | none => false

/-- The kernel's limits against those of Hedgerow (R370). -/
def State.hdgKernelBad (s : State) (c : Content) : Bool :=
  c.gfmSet &&
    (fLt (fMul c.fNom (s.pf gGFM 22)) (s.pf gHDG 11) || fGt (fMul c.fNom (s.pf gGFM 23)) (s.pf gHDG 12) ||
      (s.pb gHDG 10 1 && !decide (s.pn gGFM 45 < s.pn gHDG 21)))

/-- Trackers that name output `o` (ANG.024). -/
def State.cmpNames (s : State) (o : Nat) : Nat := ((upTo 4).filter (fun t => s.pn gANG 24 t == o + 1)).length

/-- Source of output `o` (R546): COMPARE is 2. -/
def State.fioSourceBad (s : State) (o : Nat) : Bool :=
  if s.pn gFIO 20 o == 2 then s.cmpNames o != 1 else decide (0 < s.cmpNames o)

/-- Bytes of the largest supervisory entry (R472, R474): header, missing nodes, suppliers, payload, trailer. -/
def snapSize (payload : Nat) : Nat := 32 + 32 + 1024 + payload + 4

/-- Stage 4. -/
def State.stage4 (s : State) (c : Content) : List Find :=
  let arms := if s.isLeaf then upTo s.nArms else []
  let ports := upTo 32
  let np := s.nestPorts
  let tw := s.pb gTWN 1
  findIf (c.gfmSet && !s.isRoot) 4 .gfmRole 2 ++
    findIf (c.gfmSet && s.isRoot && s.gfmInputBad c) 4 .gfmInput 2 ++
    (c.params.filter s.armRoleBad).flatMap (fun v => findIf true 4 .armRole 2 (v.id.code v.e)) ++
    arms.flatMap (fun a =>
      findIf ((pStored s.par.vals ⟨gARM, 13⟩ a).isNone || !s.aiOn (s.pn gARM 13 a)) 4 .armInput 2 a ++
      findIf ((pStored s.par.vals ⟨gPRT, 10⟩ a).isNone || !s.aiOn (s.pn gPRT 10 a) || s.pn gMEA 2 (s.pn gPRT 10 a) != 2) 4 .prtInput 4 a) ++
    (upTo s.nArms).flatMap (fun a => findIf (s.armModeBad c a) 4 .armMode 1 a) ++
    (if s.role == .pole then (s.poleModes c).flatMap (fun a => findIf true 4 .armMode 1 (a : Nat)) else []) ++
    c.cellsBad.flatMap (fun x => findIf true 4 .armCells 1 x.1 x.2) ++
    (upTo 24).flatMap (fun i => findIf (s.triggerBad i) 4 .meaTrigger 6 i) ++
    (upTo 4).flatMap (fun t => findIf (s.angSourceBad t) 4 .angSource 6 t) ++
    findIf (decide (s.nc < s.dc)) 4 .lpeDeadline 2 s.dc s.nc ++
    ports.flatMap (fun p => findIf (s.chainBad p || s.budgetBad p) 4 .lnkBudget 1 p) ++
    np.flatMap (fun p => findIf (s.nestBad p) 4 .nstBudget 1 p) ++
    findIf (decide (s.tch < 5000)) 4 .acqRate 7 s.tch ++
    (upTo 4).flatMap (fun r => findIf (s.rawBad r) 4 .acqSource 7 r) ++
    findIf (decide (268435456 < s.sRec) || decide (10000000000 < s.pn gACQ 4 + s.pn gACQ 5)) 4 .acqSize 7 s.sRec ++
    (upTo 16).flatMap (fun i => findIf (decide (2 ^ i ≤ s.pn gACQ 45 i)) 4 .acqCond 7 i) ++
    findIf (s.hdgKernelBad c) 4 .hdgKernel 5 ++
    findIf ((upTo 4).any s.hdgSlow || !fLt (s.pf gHDG 11) (s.pf gHDG 12)) 4 .hdgResponse 5 ++
    findIf (s.pb gHDG 72 != tw) 4 .hdgParallel 5 ++
    (if tw then
      findIf (ports.any (fun p => s.cellPort p && s.topoOf p != 4) || s.pairLinkBad c || !c.hdgLinked) 4 .twnTopology 1 ++
      findIf (decide (300 < s.pn gTWN 5)) 4 .twnLink 1 (s.pn gTWN 5) ++
      findIf (decide (s.pn gLPE 4 < 10)) 4 .twnMargin 2 (s.pn gLPE 4)
     else []) ++
    findIf (decide (262144 < snapSize c.snapBytes)) 4 .mbxSnapshotSize 2 c.snapBytes ++
    (upTo 16).flatMap (fun o => findIf (s.fioSourceBad o) 4 .fioSource 6 o ++ findIf (s.safeBad o) 4 .fioSafeState 6 o) ++
    findIf (c.fibreDup || np.eraseDups.length != np.length || np.any (fun p => !s.nestPort p)) 4 .cfgPort 1

/-! ### Stage 5: fit -/

/-- An input reads a current signal of its own group that is not produced earlier in the schedule (R584). -/
def orderBad (prog : List Inst) (i : Nat) (x : Inst) (r : InRef) : Bool :=
  match r.src with
  | .sig j _ => !r.prev && (match prog[j]? with
      | some y => y.grp == x.grp && decide (i ≤ j)
      | none => false)
  | _ => false

/-- The schedule of instance `i` breaks R584. -/
def instOrderBad (prog : List Inst) (i : Nat) (x : Inst) : Bool :=
  (x.ins ++ (match x.enable with | some r => [r] | none => []) ++ (match x.track with | some r => [r.1, r.2] | none => [])).any
    (orderBad prog i x)

/-- Lanes that self-test has marked unusable. -/
def State.badLanes (s : State) : List Nat := (upTo 4).filter (fun k => !s.lanesOk.testBit k)

/-- LPE_LANES (R124, R125). -/
def State.lanesBad (s : State) (c : Content) : Bool :=
  match s.badLanes with
  | [] => false
  | [k] => !s.pb gLPE 5 || !c.lanes3.getD k false
  | _ => true

/-- Stated makespans for the lanes in use. -/
def State.spansFor (s : State) (c : Content) : List Nat :=
  match s.badLanes with
  | [] => c.spans4
  | k :: _ => c.spans3.getD k []

/-- LPE_FIT (R100, R123, R336): for each group the available and the required cycles; the available ones are hundredths. In a twin pair
C_f is 560 cycles less. -/
def State.fitRows (s : State) (c : Content) : List (Nat × Int × Int) :=
  let w := s.spansFor c
  let wf : Int := w.getD 0 0
  let sc : Int := w.getD 1 0
  let ss : Int := w.getD 2 0
  let cf : Int := ((s.tf * 4 / 5 : Nat) : Int) - (if s.pb gTWN 1 then 720 else 160)
  let m : Int := 100 - (s.pn gLPE 4 : Int)
  let per : Int := (((s.fpms + s.nc - 1) / s.nc : Nat) : Int)
  [(0, m * cf, wf), (1, m * (s.dc : Int) * (cf - wf), sc), (2, m * ((s.fpms : Int) * (cf - wf) - per * sc), ss)]

/-- First detail of LPE_FIT: the failing group (0 frame, 1 control, 2 supervisory) in bits 31 to 28 and the available cycles below. -/
def fitDetail (g : Nat) (avail : Int) : Int := (g : Int) * 268435456 + max 0 avail

/-- Latencies in 1/4,096 ns: L of R43 and A of R44. -/
def State.latencies (s : State) : Nat × Nat :=
  (((s.dc + s.hmax + 3) * 4096 + s.tOff) * s.tf, (s.hmax + 2) * s.tf * 4096)

/-- t_B of owned arm `a` in ns (R312, R313). -/
def State.blockTime (s : State) (a : Nat) : Nat :=
  let ts := if s.pairEven (s.pn gPRT 10 a) then 250 else 500
  let reach := ((upTo 32).filter (fun p => s.cellPort p && s.portServes (s.headPort p) a)).map (fun p => (s.port p).reach)
  (s.filterOf a + 1) * ts + 540 + reach.foldl max 0

/-- Self-test slice `k` has marked its block unusable. -/
def State.sliceBad (s : State) (k : Nat) : Bool := (s.sys.tests.getD k SliceS.reset).unusable

/-- Inputs that the image uses and self-test has marked: analog inputs enabled. -/
def State.aiUnusable (s : State) : Bool := (upTo 24).any (fun i => s.aiOn i && s.sys.badAi.testBit i)

/-- Units marked unusable that the image needs (R503): ports, inputs, PWM blocks, engine memories, selection, ledger, recorder memory. -/
def State.unusable (s : State) (c : Content) : List Nat :=
  let pwm := (upTo 16).any (fun b => s.sys.badPwm.testBit b &&
    (upTo 32).any (fun k => let x := s.cell (32 * b + k); x.conf))
  ((upTo 37).filter (fun p => c.needPorts.testBit p && s.sys.badPorts.testBit p)) ++
    (if s.aiUnusable then [100] else []) ++ (if pwm then [107] else []) ++
    (if s.sliceBad 4 && !c.prog.isEmpty then [104] else []) ++ (if s.sliceBad 5 && !c.prog.isEmpty then [105] else []) ++
    (if s.sliceBad 6 && s.isLeaf then [106] else []) ++ (if s.sliceBad 8 && s.isLeaf then [108] else []) ++
    (if s.sliceBad 12 && decide (0 < s.nCh) then [112] else [])

/-- Stage 5. The kernel counts with the rest of the program: 58 instances and 214 words (chapter 04, R111). -/
def State.stage5 (s : State) (c : Content) : List Find :=
  let insts := c.prog.length + (if c.gfmSet then 58 else 0)
  let words := max (max c.bankA.length c.bankB.length) (max ((c.prog.map (fun x => x.coef + blkWords x.ty x.opts)).foldl max 0)
    ((c.prog.map (fun x => blkWords x.ty x.opts)).sum + (if c.gfmSet then 214 else 0)))
  let budget := s.pn gSYS 6 * s.tsNs * 4096
  let lat := s.latencies
  findIf (decide (2048 < insts) || decide (8192 < words) || !c.sramFits) 5 .lpeResource 2 insts words ++
    (c.prog.zipIdx).flatMap (fun x => findIf (instOrderBad c.prog x.2 x.1) 5 .lpeOrder 2 x.2) ++
    (if s.lanesBad c then findIf true 5 .lpeLanes 2 s.lanesOk
     else (s.fitRows c).flatMap (fun r => findIf (decide (r.2.1 < 100 * r.2.2)) 5 .lpeFit 2 (fitDetail r.1 (r.2.1 / 100)) r.2.2)) ++
    findIf (decide (budget < lat.1)) 5 .latencyForward 1 (divEven lat.1 4096) ++
    findIf (decide (budget < lat.2)) 5 .latencyFeedback 1 (divEven lat.2 4096) ++
    (if s.isLeaf then (upTo s.nArms).flatMap (fun a =>
        findIf (decide (s.pn gPRT 13 < s.blockTime a)) 5 .prtBlockTime 4 a (s.blockTime a))
      else []) ++
    findIf (s.pb gTWN 1 && decide (65536 < c.stateSize)) 5 .twnStateSize 2 c.stateSize ++
    (s.unusable c).flatMap (fun u => findIf true 5 .cfgUnusable 0 (u : Nat))

/-- Stages 2 to 5 in order: the findings of the first that fails (R488). -/
def State.stages2to5 (s : State) (c : Content) : List Find :=
  match s.stage2 c with
  | f :: l => f :: l
  | [] =>
    match s.stage3 c with
    | f :: l => f :: l
    | [] =>
      match s.stage4 c with
      | f :: l => f :: l
      | [] => s.stage5 c

end Sys2Proof.Machine
end

