-- ==== Sys2Proof/Machine/Identity.lean ====
section
/-!
DEFINITION. Enumeration, ranging and the identity match (R239 to R241, R258, R259, R325, R489, R492): stage 6 of validation.
-/
namespace Sys2Proof.Machine
open Sys2Proof

/-! ### What enumeration found (R258) -/

/-- Ports on which cells are enumerated: rings, heads of dual-ended chains, twin chains. -/
def State.enumPorts (s : State) : List Nat := (upTo 32).filter (fun p => s.cellPort p && s.topoOf p != 3)

/-- What enumeration found at port `p`. -/
def seenAt (l : List SeenPort) (p : Nat) : SeenPort := (l.find? (fun x => x.port == p)).getD ⟨p, [], 0⟩

/-- What enumeration found of channel `c`: positions count from the module's own end (R228, R230). -/
def State.seenCell (s : State) (l : List SeenPort) (c : Nat) : Option SeenCell :=
  let y := s.cell c
  ((seenAt l y.port).cells)[s.posFrom y.port y.pos s.twin.sideB]?

/-- Numbers of the configured channels. -/
def State.confChans (s : State) : List Nat := (upTo 512).filter (fun c => (s.cell c).conf)

/-! ### The identity match of a cell (R259) -/

/-- The record of a cell fails the identity match (R259). -/
def State.idBad (s : State) (y : Cell) (capUF : Nat) (x : SeenCell) : Bool :=
  let r := x.idr
  !r.crcOk || r.format != 1 || r.profile != 1 || r.hold < 20 || 1000 < r.hold || r.cellType != (if y.fb then 2 else 1) ||
    r.ratedV != y.ratedV || decide (s.pn gLNK 25 * capUF < 100 * (r.capUF - capUF + (capUF - r.capUF))) ||
    decide (r.fw < s.pn gLNK 26)

/-- Positions for which the topology section lists a serial number. -/
def State.serialAt (s : State) (serial : Nat) : List TopoCell :=
  ((s.sys.run.map (·.cells)).getD []).filter (fun t => t.serial == some serial)

/-- A serial number listed for no position of the tree (R489). -/
def State.unlistedSer (s : State) (serial : Nat) : Bool := (s.serialAt serial).isEmpty

/-- Another position for which the topology lists the serial number found at port `p`, position `q` from the head (R489). -/
def State.misplaced (s : State) (p q serial : Nat) : Option TopoCell :=
  (s.serialAt serial).find? (fun t => !(t.node == s.pn gSYS 2 && t.port == p && t.pos == q))

/-- Capacitance that the topology gives a channel. -/
def State.topoCap (s : State) (y : Cell) : Nat :=
  ((((s.sys.run.map (·.cells)).getD []).find? (fun t =>
    t.node == s.pn gSYS 2 && t.port == y.port && t.pos == y.pos)).map (·.capUF)).getD y.capUF

/-! ### What enumeration takes over and asks (R241, R242, R258) -/

/-- The record of a cell and its offsets are taken over; exclusions IDENTITY and BYPASS_SWITCH are judged anew, and an offset that does not
read back as written is an identity failure (R196, R241, R259, R489). -/
def State.takeIdent (s : State) (l : List SeenPort) (c : Nat) : State :=
  let y := s.cell c
  match s.seenCell l c with
  | none => s.updCell c (fun z => { z with exIdent := false, exByp := false, fresh := false })
  | some x =>
    let a := s.arrivals y.port y.pos (seenAt l y.port).loopNs x.delta
    let back := x.rbH == a.1 && (s.topoOf y.port == 1 || x.rbT == a.2)
    let bad := s.idBad y (s.topoCap y) x || (s.pn gCFG 12 == 2 && s.unlistedSer x.idr.serial) || !back
    s.updCell c (fun z => { z with
      exIdent := bad, exByp := x.bypClosed, byp := x.bypClosed, serial := x.idr.serial, capUF := x.idr.capUF, gain := x.idr.gain
      off := x.idr.offset, tempco := x.idr.tempco, hold := x.idr.hold, arrH := a.1, arrT := a.2, delta := x.delta })

/-- The identity cache holds the record whose serial number and CRC-32 the cell's READ_DIGEST returns (R258). -/
def cached (cache : List (Nat × IdRec)) (x : IdRec) : Option IdRec :=
  (cache.find? (fun r => r.1 == x.serial && r.2.crc == x.crc)).map (·.2)

/-- What enumeration has found, each record from the cache where it holds it, else as read from the cell (R258). -/
def withCache (cache : List (Nat × IdRec)) (l : List SeenPort) : List SeenPort :=
  l.map (fun x => { x with cells := x.cells.map (fun y => { y with idr := (cached cache y.idr).getD y.idr }) })

/-- The identity cache takes the records of enumeration, the most recently used first, at most 16,384 (R258, R518). -/
def cacheUse (cache : List (Nat × IdRec)) (l : List SeenPort) : List (Nat × IdRec) :=
  (l.flatMap (·.cells)).foldl (fun k x =>
    if x.idr.crcOk then ((x.idr.serial, x.idr) :: k.filter (fun r => r.1 != x.idr.serial)).take 16384 else k) cache

/-- Requests to the cell at position `q` of port `p`, counted from the module's end: READ_DIGEST; five READ_ID where the cache does not hold
the record; of a configured cell Δ, where its chain measures it, and the offsets, written and read back (R239 to R241, R258). -/
def State.enumCell (s : State) (cache : List (Nat × IdRec)) (x : SeenPort) (q : Nat) (y : SeenCell) : List Msg :=
  let m := fun (ty adr len : Nat) => ({ mtype := ty, target := q, seq := 0, addr := adr, payload := [], len := len } : Msg)
  let ring := s.topoOf x.port == 1
  let i := s.posFrom x.port q s.twin.sideB
  m 2 0 0 :: (if (cached cache y.idr).isSome then [] else [m 1 0 56, m 1 56 56, m 1 112 56, m 1 168 56, m 1 224 32]) ++
    (if q < s.chainLen x.port then (if ring then [] else [m 3 8 0]) ++ offsetMsgs ring q (s.arrivals x.port i x.loopNs y.delta) else [])

/-- Requests of the enumeration of a port, numbered from its SEQ; on a twin chain only a member whose partner does not lead issues any
(R256, R258). -/
def State.enumMsgs (s : State) (cache : List (Nat × IdRec)) (leads : Bool) (x : SeenPort) : List (Nat × Msg) :=
  if s.topoOf x.port == 4 && leads then []
  else ((x.cells.zipIdx.flatMap (fun y => s.enumCell cache x y.2 y.1)).zipIdx).map (fun m =>
    (x.port, { m.1 with seq := ((s.port x.port).seq + m.2) % 256 }))

/-- Enumeration and ranging of the ports `now`, with what it found there and what is known of the others, `l` (R258): ENUM frames go out on their chains, from each end to 16 positions
(notes/assumptions/114.md), requests are issued and all answered, records taken over and the cache updated. -/
def State.enumerate (s : State) (now : List Nat) (l : List SeenPort) (leads : Bool) : State :=
  let cache := s.sys.cache
  let seen := withCache cache l
  let s := s.modSys (fun y => { y with seenP := seen, cache := cacheUse y.cache seen })
  let reqs := (l.filter (fun x => now.contains x.port)).flatMap (s.enumMsgs cache leads)
  let ports := (upTo 32).filter (fun p => s.cellPort p && now.contains (s.headPort p))
  let s := s.modLink (fun k => { k with enumTx := ports.map (fun p => s.downFrame p 3 (0, 16, 0) none), enumReq := reqs })
  let s := forAll s.confChans (fun s c => s.takeIdent seen c) s
  s.modLink (fun k => { k with ports := k.ports.mapIdx (fun p x =>
    if s.cellPort p then
      let n := (seenAt l (s.headPort p)).loopNs
      { x with loopNs := n, ttrav := n, seq := (x.seq + (reqs.filter (fun r => r.1 == p)).length) % 256 }
    else x) })

/-! ### Stage 6 (R489) -/

/-- Configured cells of owned arm `a` that count against the redundancy: absent, or excluded with IDENTITY or BYPASS_SWITCH. -/
def State.missingCells (s : State) (l : List SeenPort) (a : Nat) : List Nat :=
  (s.channels a).filter (fun c => (s.seenCell l c).isNone || (s.cell c).exIdent || (s.cell c).exByp)

/-- Cells of owned arm `a` with unlisted serial numbers that are accepted. -/
def State.unlistedCells (s : State) (l : List SeenPort) (a : Nat) : List Nat :=
  if s.pn gCFG 12 != 1 then []
  else (s.channels a).filter (fun c => match s.seenCell l c with
    | some x => s.unlistedSer x.idr.serial && !(s.cell c).exIdent && !(s.cell c).exByp
    | none => false)

/-- A position in one number: node, port and position. -/
def posCode (node p q : Nat) : Nat := node * 65536 + p * 256 + q

/-- Cells of port `p` that report a serial number listed for another position. -/
def State.wiring (s : State) (l : List SeenPort) (p : Nat) : List Find :=
  if s.pn gCFG 12 == 0 then []
  else ((seenAt l p).cells.zipIdx).flatMap (fun x =>
    let q := s.posFrom p x.2 s.twin.sideB
    match s.misplaced p q x.1.idr.serial with
    | some t => [⟨6, .cfgWiring, 1, posCode (s.pn gSYS 2) p q, posCode t.node t.port t.pos⟩]
    | none => [])

/-- Port `p` has a failure that a repetition of the identity match can mend (R492). -/
def State.portFails (s : State) (l : List SeenPort) (p : Nat) : Bool :=
  (s.portCells p).any (fun c => (s.seenCell l c).isNone || (s.cell c).exIdent || (s.cell c).exByp) ||
    decide ((s.portCells p).length < (seenAt l p).cells.length) || !(s.wiring l p).isEmpty ||
    (s.topoOf p == 1 && s.rangingBad p (seenAt l p).loopNs)

/-- What formation finds amiss at a wake (R325). -/
def State.twinFinds (s : State) (obs : WakeObs) : List Find :=
  if !s.pb gTWN 1 then []
  else match obs.partner with
    | some p =>
      findIf (p.sideB == s.twin.sideB) 6 .twnIdConflict 1 ++
        findIf (p.sideB != s.twin.sideB && s.twin.sideB && p.digest != s.imageDigest) 6 .twnImage 1
    | none => []

/-- The NEST_DOWN frames held are those of the parent that the topology names (R489). -/
def State.parentGood (s : State) (obs : WakeObs) : Bool :=
  match obs.parent with
  | some h => h.ftype == 4 && h.nodeId == s.pn gSYS 3 && h.digest == s.topoDigest
  | none => false

/-- The NEST_UP frames held of child `i` are those that the topology expects of it (R489). -/
def State.childGood (s : State) (obs : WakeObs) (i : Nat) : Bool :=
  obs.kids.any (fun x => x.1 == i && x.2.ftype == 5 && x.2.nodeId == s.pn gNST 3 i && x.2.childIdx == i &&
    x.2.dsub == heightOf s.nodes 16 (s.pn gNST 3 i) && x.2.digest == s.topoDigest)

/-- Stage 6 on what enumeration found (R240, R325, R489). -/
def State.stage6 (s : State) (obs : WakeObs) : List Find :=
  let l := s.sys.seenP
  let arms := if s.isLeaf then upTo s.nArms else []
  arms.flatMap (fun a =>
      let m := s.missingCells l a
      let f := m.filter (fun c => (s.cell c).fb)
      findIf (decide (s.pn gCFG 10 a < m.length) || decide (s.pn gCFG 11 a < f.length)) 6 .cfgCells 1 a m.length) ++
    s.enumPorts.flatMap (fun p =>
      findIf (decide (s.chainLen p < (seenAt l p).cells.length)) 6 .cfgExtra 1 p (seenAt l p).cells.length ++ s.wiring l p ++
      findIf (s.topoOf p == 1 && s.rangingBad p (seenAt l p).loopNs) 6 .lnkRanging 1 p (seenAt l p).loopNs) ++
    findIf (s.hasParent && !s.parentGood obs) 6 .cfgParent 1 (s.pn gSYS 3) ++
    (s.kidIdx.filter (fun i => !s.childGood obs i)).flatMap (fun (i : Nat) => findIf true 6 .cfgChild 1 (i : Nat) ((s.pn gNST 3 i : Nat) : Int)) ++
    s.twinFinds obs

/-- The counts of DIA.223. -/
def State.countIdent (s : State) : State :=
  let l := s.sys.seenP
  let n := fun (f : Nat → List Nat) => (upTo 2).map (fun a => (f a).length)
  s.modSys (fun y => { y with
    redun := n (s.missingCells l), redunF := n (fun a => (s.missingCells l a).filter (fun c => (s.cell c).fb))
    unlisted := n (s.unlistedCells l) })

/-- Enumeration and the identity match: at a wake of every port, at a repetition (R492) of the ports with failures. -/
def State.identity (s : State) (obs : WakeObs) (again : Bool) : State × List Find :=
  let old := s.sys.seenP
  let now := if again then s.enumPorts.filter (s.portFails old) else s.enumPorts
  let ports := if again then s.enumPorts.map (fun p => if now.contains p then seenAt obs.ports p else seenAt old p) else obs.ports
  let leads := (obs.partner.map (·.leading)).getD false
  let s := (s.enumerate now ports leads).countIdent
  (s.modTwin (fun t => { t with partner := if s.pb gTWN 1 then obs.partner else t.partner }), s.stage6 obs)

end Sys2Proof.Machine
end

