-- ==== Sys2Proof/Machine/Power.lean ====
section
/-!
DEFINITION. Power states, wake and shut-down, self-test, life cycle, loss of lock (chapters 12 and 14: R424 to R426, R441 to R446, R486,
R487, R490 to R507).
-/
namespace Sys2Proof.Machine
open Sys2Proof

/-! ### Loss of lock (R424, R425) -/

/-- PLL_LOSS (R298, R424, R425): the domains go to their backup, PLL_LOSS stands, SO2 falls with PLL-L, the host links with PLL-H; a LEAD
that loses PLL-C or PLL-L declares itself failed. -/
def execPllLoss (p : Pll) (s : State) : Host.Outcome State Fault Refusal :=
  .next (
    if !(s.up && s.clk.pow p && s.clk.lock p) then s
    else
      let s := s.modClk (fun c => { (c.setPll p true false true) with
        lossN := c.lossN.modify p.ix (fun n => wrap32 (n + 1)), pllStand := c.pllStand.set p.ix true })
      let s := s.rcSet 200 0 (9 + p.ix)
      let s := s.openReq
      let s := s.when (p == .l) (fun s => s.modLink (fun k => { k with ports := k.ports.map (fun x => { x with linkUp := false }) }))
      let s := if p == .h then
          let s := s.e1DropAll
          if s.clk.tstate == .locked && (s.clk.source == 1 || s.clk.source == 2) then
            s.modClk (fun c => { ((c.setRho c.rhoMean).setState .holdover) with source := 0, rateLimited := false })
          else s
        else s
      if p != .h && s.awake && s.pb gTWN 1 && !s.twin.shadow then s.selfFail 14 else s)

/-! ### Self-test results at a wake (R503, R504, R513) -/

/-- Slices of the self-test, 0 to 12. -/
def sliceCount : Nat := 13

/-- Budget of a slice in ms (table of self-test slices). -/
def sliceBudget : Nat → Nat
  | 4 => 2000 | 5 => 1000 | 6 => 800 | 7 => 1200 | 8 => 400 | 9 => 3200 | 10 => 600 | 11 => 500 | 12 => 12000 | _ => 1500

/-- The newest result of a slice that repair and marking use (R502, R503): SKIPPED and INTERRUPTED keep the one before. -/
def SliceS.newest (x : SliceS) : TestRes := if x.res == .skipped || x.res == .interrupted then x.last else x.res

/-- A slice marks its block unusable (R503). -/
def SliceS.bad (x : SliceS) : Bool := x.newest == .fail || x.newest == .timeout || decide (x.spares < x.fails)

/-- Failing units of a block, all of them after a TIMEOUT (R500, R503). -/
def SliceS.unitsBad (x : SliceS) (n : Nat) : Nat :=
  if x.newest == .timeout then 2 ^ n - 1 else if x.newest == .notRun then 0 else x.units % 2 ^ n

/-- Soft repair (R503, R504): blocks and units marked, old results flagged. -/
def State.softRepair (s : State) : State :=
  let tests := s.sys.tests.map (fun x => { x with
    unusable := x.bad, aged := x.okTai != 0 && decide (x.okTai + s.pn gBST 4 < s.now) })
  let t := fun (k : Nat) => tests.getD k SliceS.reset
  (s.modSys (fun y => { y with
    tests := tests, badPorts := (t 9).unitsBad 32 + (t 10).unitsBad 5 * 2 ^ 32, badAi := (t 11).unitsBad 24
    badPwm := (t 7).unitsBad 16 })).publishSys true

/-! ### Wake (R417, R443, R486, R490 to R492) -/

/-- Units that start anew at a transition from STANDBY to READY: ports, nest links, arms, kernel references, twin roles, inputs, recorder
(R197, R279, R284, R324, R329, R400, R582, R585). Bramble's latches stay (R301). -/
def State.freshUnits (s : State) : State :=
  let s := s.modLink (fun l => { Link.reset with ports := l.ports.map Port.kept })
  let s := s.modNest (fun n => { Nest.reset with resetCount := n.resetCount })
  let s := s.modArm (fun a => { a with arms := List.replicate 2 ArmS.reset, refs := List.replicate 12 RefA.reset, test := false })
  let s := s.modProt (fun p => { p with
    cond := Prot.reset.cond, onN := Prot.reset.onN, offN := Prot.reset.offN, raised := Prot.reset.raised, ocMax := Prot.reset.ocMax
    acted := Prot.reset.acted, ocSent := Prot.reset.ocSent })
  let s := s.modTwin (fun t => { Twin.reset with
    sideB := t.sideB, epoch := t.epoch, selfFailed := t.selfFailed, nForced := t.nForced, nPlan := t.nPlan, nCrc := t.nCrc, nOwn := t.nOwn
    nOver := t.nOver, nSync := t.nSync, durSync := t.durSync, nDual := t.nDual, nMis := t.nMis, lastChg := t.lastChg, chgF := t.chgF })
  (s.modMeas Meas.restart).modAcq (fun a => { a with
    st := .disarmed, ring := [], hist := [], cur := none, held := false, rawRing := Acq.reset.rawRing, rawN := Acq.reset.rawN
    prev := Acq.reset.prev, manual := false, lastS := none })

/-- Channel groups of the image (PWM.001, PWM.002) exclude what they disable, and a BYPASS that stands excludes what it covers (R296, R301). -/
def State.groupsApply (s : State) : State :=
  { s with arm := { s.arm with cells := s.arm.cells.mapIdx (fun i c =>
      if c.conf then { c with exGroup := !(s.raw gPWM 2).getLsbD (s.pn gPWM 1 i), exProt := s.bypCh i } else c) } }

/-- The findings of a validation with its audit record (R488, R491). -/
def State.record (s : State) (finds : List Find) (retry : Bool) : State :=
  let stage := (finds.head?.map (·.stage)).getD 0
  let news := finds != s.sys.finds || retry != s.sys.retry
  let s := s.modSys (fun y => { y with stage := stage, finds := finds, retry := retry, retryAt := if retry then s.now + s.pn gCFG 20 else 0 })
  s.when (news || finds.isEmpty) (fun s => s.audit 0x12 {} stage 0 finds.length 0 0 (finds.map (·.why)))

/-- CONFIG_PENDING (R491): the outputs fall, the chains carry KEEPALIVE. -/
def State.toPending (s : State) (finds : List Find) (retry : Bool) : State :=
  let s := (s.record finds retry).modLink (fun l => { l with txOn := true })
  (((if s.sys.st == .configPending then s else s.enter .configPending).openReq)).publishSys false

/-- READY after a validation that has passed (R10, R279, R280, R329, R431, R490): Restart writes take effect, books are opened, a twin
pair forms. -/
def State.passReady (s : State) : State :=
  let s := ((s.record [] false).applyRestart).modLink (fun l => { l with txOn := true })
  let s := s.modEng (fun e => { e with degraded := e.laneOk != 15 })
  let s := s.modTwin (fun t => { t with formTai := if s.pb gTWN 1 then some s.now else none, shadow := s.pb gTWN 1 })
  let s := s.mapCells (fun _ c => { c with acctOk := false, idle := 0 })
  (((if s.pb gACQ 12 then s.acqArm else s).toReady)).publishSys false

/-- What the topology section alone says: every other parameter keeps its default. -/
def Content.topology (c : Content) : Content :=
  { ({} : Content) with
    nodeId := c.nodeId, secs := c.secs, params := c.params.filter (fun v => secOfGroup v.id.g == 1), nodes := c.nodes, cells := c.cells
    fNom := c.fNom, needPorts := c.needPorts }

/-- Image, program and banks are loaded and validated; where stages 2 and 3 find nothing amiss with the topology section, an image refused
there still gives the wiring (R491); the cells enumerated (R443, R488, R490). -/
def State.validate (s : State) (obs : WakeObs) : State :=
  let slot := s.sys.slots.getD (if s.sys.startB then 1 else 0) Slot_.reset
  let s := s.modSys (fun y => { y with runB := y.startB, redun := [0, 0], redunF := [0, 0], unlisted := [0, 0] })
  let one := if slot.complete then (s.integrity slot.bytes).map (fun f => (⟨1, f.1, f.2, 0, 0⟩ : Find)) else [⟨1, .cfgSlotEmpty, 0, 0, 0⟩]
  match slot.cont, one with
  | some c, [] =>
    let t := ((s.loadImage c slot.bytes).groupsApply).pwmRestart
    match t.withRestart.stages2to5 c with
    | [] =>
      match t.identity obs false with
      | (u, []) => u.passReady
      | (u, l) => u.toPending l true
    | f :: l =>
      let u :=
        if 3 < f.stage then t
        else if (f :: l).any (fun x => x.sec ≤ 1) then s.noImage
        else (s.loadImage c.topology slot.bytes true).groupsApply
      u.toPending (f :: l) false
  | _, l => s.noImage.toPending l false

/-- The wake sequence from STANDBY (R415, R417, R443, R490, R503, R504, R522). -/
def State.wakeSeq (s : State) (obs : WakeObs) : State :=
  let s := s.modClk (fun c => { c with
    powC := true, lockC := true, backC := false, powL := true, lockL := true, backL := false
    pllStand := (c.pllStand.set 0 false).set 1 false, refFallback := c.refFallback && !obs.refOk })
  let s := s.modSys (fun y => { y with coldHold := false, wakeWait := false, activ := false })
  let s := ((s.freshUnits.softRepair).scrubAtWake).validate obs
  s.modClk (fun c => { c with refinLocked := c.refinLocked && s.pn gTIM 1 == 1 })

/-- A wake source acts (R442, R574): in STANDBY the module wakes, held back while its base is colder than -25 °C; during a shut-down the
wake waits. -/
def State.wakeUp (s : State) (obs : WakeObs) : State :=
  if s.sys.st == .standby then
    if fLt s.hw.base (degC (-25)) then s.modSys (fun y => { y with coldHold := true }) else s.wakeSeq obs
  else if s.sys.shut != 0 then s.modSys (fun y => { y with wakeWait := true })
  else s

/-- WAKE (R442): it wakes the module from STANDBY, or waits for the end of a shut-down. -/
def execWake (ch : Nat) (obs : WakeObs) (s : State) : Host.Outcome State Fault Refusal :=
  .next (s.command ch 0x33 (fun s q a =>
    if (s.raw gPWR 1).getLsbD 0 && (s.sys.st == .standby || s.sys.shut != 0) then
      let s := s.audit 0x02 (s.whoAct a.ch a.sess a.cred) q.op
      (s.wakeUp obs, {})
    else State.logged (fun s _ _ => (s, refuse .mbxState)) s q a))

/-- WAKE_INPUT_EDGE (R442): a rising edge on the input of PWR.002. -/
def execWakeInputEdge (obs : WakeObs) (s : State) : Host.Outcome State Fault Refusal :=
  .next (if s.up && s.pn gPWR 2 != 0 && (s.raw gPWR 1).getLsbD 2 then s.wakeUp obs else s)

/-- BLACK_START_REQUEST_EDGE (R153, R442): the edge is latched outside RUNNING, and wakes the module from STANDBY. -/
def execBlackStartRequestEdge (obs : WakeObs) (s : State) : Host.Outcome State Fault Refusal :=
  .next (
    if !s.up || s.pn gGFM 3 == 0 then s
    else
      let s := s.modKern (fun k => { k with bsEdge := true })
      if (s.raw gPWR 1).getLsbD 1 then s.wakeUp obs else s)

/-- COLD_WAKE_RELEASE (R574): the base has reached -25 °C. -/
def execColdWakeRelease (obs : WakeObs) (s : State) : Host.Outcome State Fault Refusal :=
  .next (if s.sys.st == .standby && s.sys.coldHold && !fLt s.hw.base (degC (-25)) then s.wakeSeq obs else s)

/-- IDENTITY_RETRY (R492): the ports with failures are enumerated again, and the identity match is repeated. -/
def execIdentityRetry (obs : WakeObs) (s : State) : Host.Outcome State Fault Refusal :=
  .next (
    if !(s.sys.st == .configPending && s.sys.retry && decide (s.sys.retryAt ≤ s.now)) then s
    else match s.identity obs true with
      | (u, []) => u.passReady
      | (u, l) => u.toPending l true)

/-! ### Life cycle (R505 to R507) -/

/-- The key slots are erased. -/
def Sys.eraseKeys (y : Sys) : Sys := { y with key0 := 0, key1 := none, key2 := none, creds := List.replicate 32 Cred.reset }

/-- Code of a life-cycle state in SYS_STATE. -/
def Life.code : Life → Nat
  | .manufacture => 0 | .provisioned => 1 | .service => 2 | .retired => 3

/-- A requested life-cycle change takes effect at an entry into STANDBY (R505, R506, R508). -/
def State.lifeApply (s : State) : State :=
  let old := s.sys.life
  let note := fun (new : Life) (s : State) => s.audit 0x13 {} 0 old.code new.code
  let s1 := s.modSys (fun y => { y with lifeReq := none })
  match s.sys.lifeReq, old with
  | some .service, .provisioned =>
    note .service (s1.modSys (fun y => { y.eraseKeys with life := .service, scan := true }))
  | some .retired, .provisioned | some .retired, .service =>
    note .retired ((s1.modSys (fun y => { y.eraseKeys with
      life := .retired, scan := false, slots := [Slot_.reset, Slot_.reset], cache := [], log := [] })).modPeat (fun p =>
        { ((((p.drop s.now 1 0).drop s.now 1 1).drop s.now 2 0).drop s.now 4 0).drop s.now 5 0 with
          recs := [], recUsed := 0, blocks := (p.blocks.filter (fun x => x.2.1 != 8 && x.2.1 != 1 && x.2.1 != 2 && x.2.1 != 4 && x.2.1 != 5)) }))
  | _, _ => s1

/-- SUSTO_WORKS_PROCEDURE (R507, table of life-cycle states): key slot 0 and credential 0 are written, the state becomes PROVISIONED. -/
def execSustoWorksProcedure (key0 cred0 : Nat) (s : State) : Host.Outcome State Fault Refusal :=
  .next (
    if s.sys.life == .manufacture || s.sys.life == .service then
      let old := s.sys.life
      let s := s.modSys (fun y => { y with
        key0 := key0, life := .provisioned, scan := false
        creds := y.creds.set 0 { key := bytesOfNat 32 cred0, role := .guardian, on := true } })
      s.audit 0x13 {} 0 old.code Life.provisioned.code
    else s)

/-! ### Shut-down and self-test (R486, R496 to R502) -/

/-- STANDBY (R441, R497): CORE and LINK are gated, the transmitters are silent; a life-cycle change takes effect (R505). -/
def State.toStandby (s : State) : State :=
  let s := s.endTest
  let s := s.modClk (fun c => { c with
    powC := false, lockC := false, backC := false, powL := false, lockL := false, backL := false
    pllStand := (c.pllStand.set 0 false).set 1 false })
  let s := s.modLink (fun l => { l with txOn := false, tx := [], ports := l.ports.map (fun p => { p with linkUp := false }) })
  let s := s.modNest (fun n => { n with txDown := [], txUp := none, txNest := [] })
  let s := s.modTwin (fun t => { t with ready := false, paired := false, formTai := none, phase := 0, txT := [] })
  let s := s.mapCells (fun _ c => { c with readmit := false })
  let s := s.modSys (fun y => { y with
    shut := 0, keep := 0, sliceGo := false, retry := false
    fwB := if y.activFw then y.fwSelB else y.fwB, activFw := false })
  ((s.enter .standby).lifeApply.openReq).publishSys false

/-- Slices still to come, in ascending order from the one after the last that ran (R498). `sliceN` counts those dealt with. -/
def State.sliceOrder (s : State) : List Nat :=
  (upTo (sliceCount - s.sys.sliceN)).map (fun k => (s.sys.lastSl + 1 + k) % sliceCount)

/-- The slice that runs next: the first that BST.003 enables (R498, R513). -/
def State.sliceNext (s : State) : Option Nat := s.sliceOrder.find? (fun k => (s.raw gBST 3).getLsbD k)

/-- Slices not reached keep their result, marked SKIPPED (R498). -/
def State.sliceSkip (s : State) : State :=
  let left := s.sliceOrder.filter (fun k => (s.raw gBST 3).getLsbD k)
  s.modSys (fun y => { y with tests := y.tests.mapIdx (fun k x => if left.contains k then { x with last := x.newest, res := .skipped } else x) })

/-- The end of the shut-down: journal and STANDBY (R497). -/
def State.shutEnd (s : State) : State := s.journalCommit.toStandby

/-- The next slice starts, or the self-test ends (R498). -/
def State.sliceStart (s : State) : State :=
  match s.sliceNext with
  | some k =>
    if decide ((s.sys.sliceMs + sliceBudget k) * 1000000 ≤ s.pn gBST 2) then
      s.modSys (fun y => { y with slice := k, sliceGo := true })
    else s.sliceSkip.shutEnd
  | none => s.shutEnd

/-- After 16 KEEPALIVE frames the transmitters stop and the self-test runs, unless the sequence serves an ACTIVATE or BST.001 is false
(R486, R497). -/
def State.shutFrame (s : State) : State :=
  if s.sys.shut != 1 then s
  else if 1 < s.sys.keep then s.modSys (fun y => { y with keep := y.keep - 1 })
  else
    let s := (s.modLink (fun l => { l with txOn := false })).modSys (fun y => { y with keep := 0 })
    if s.sys.activ || !s.pb gBST 1 then s.shutEnd
    else (s.modSys (fun y => { y with shut := 2, sliceN := 0, sliceMs := 0 })).sliceStart

/-- The shut-down sequence starts (R486, R497). -/
def State.shutStart (s : State) : State :=
  (s.recFlush.endTest).modSys (fun y => { y with shut := 1, keep := 16, retry := false })

/-- SLEEP as a request (R441, R496). -/
def State.sleepReq (s : State) : State × Reply :=
  if s.sys.st == .running then (s, refuse .pwrRunning)
  else if !s.awake || s.sys.shut != 0 then (s, refuse .mbxState)
  else (s, {})

/-- SLEEP (R496, R497): the audit record comes first, then the sequence. -/
def execSleep (ch : Nat) (s : State) : Host.Outcome State Fault Refusal :=
  .next (s.command ch 0x32 (fun s q a =>
    let r := State.logged (fun s _ _ => s.sleepReq) s q a
    if r.2.st == .ok then ((r.1.carryCmd 0x32 a s.fr 0 []).shutStart, r.2) else r))

/-- What the running slice leaves in the module (R499): memories under test are cleared. -/
def State.sliceClear (s : State) (k : Nat) : State :=
  match k with
  | 4 => s.modEng (fun e => { e with outs := [], sts := [], runs := [none, none, none, none] })
  | 5 => s.modEng (fun e => { e with bankA := List.replicate 8192 0, bankB := List.replicate 8192 0 })
  | 7 => s.pwmRestart
  | _ => s

/-- A slice's result is written, with its audit record, and the next one starts (R498, R501). -/
def State.sliceDone (s : State) (r : SliceRes) : State :=
  let k := s.sys.slice
  let good := r.outcome == .pass || r.outcome == .repaired
  let s := s.modSys (fun y => { y with
    sliceGo := false, lastSl := k, sliceN := y.sliceN + (k + sliceCount - y.lastSl - 1) % sliceCount + 1, sliceMs := y.sliceMs + r.ms
    tests := y.tests.modify k (fun x => { x with
      res := r.outcome, last := r.outcome, aged := false, spares := min 255 r.spares, fails := min 255 r.fails, units := r.units
      tai := s.now, ms := r.ms, okTai := if good then s.now else x.okTai, addr := r.failAddr, bit := r.failBit }) })
  let s := s.modPeat (fun p => { p with dirty := p.dirty + 1 })
  let code : Nat := match r.outcome with | .pass => 1 | .repaired => 2 | .fail => 3 | .timeout => 4 | _ => 0
  ((s.audit 0x53 {} k 0 code r.fails).sliceClear k).sliceStart

/-- SELF_TEST_SLICE_END (R501). -/
def execSelfTestSliceEnd (r : SliceRes) (s : State) : Host.Outcome State Fault Refusal :=
  .next (if s.sys.shut == 2 && s.sys.sliceGo && (r.outcome == .pass || r.outcome == .repaired || r.outcome == .fail) then s.sliceDone r else s)

/-- SLICE_TIMEOUT (R500). -/
def execSliceTimeout (s : State) : Host.Outcome State Fault Refusal :=
  .next (if s.sys.shut == 2 && s.sys.sliceGo then
      s.sliceDone { outcome := .timeout, spares := 0, fails := 0, ms := sliceBudget s.sys.slice }
    else s)

/-! ### ACTIVATE (R469, R485, R486) -/

/-- A selection with ACTIVATE takes effect: the slot is recorded, and a module that is awake goes through STANDBY without self-test. In
STANDBY the management processor starts from a firmware slot at once. -/
def State.activate (s : State) (fw slotB : Bool) : State :=
  let s := s.selSet fw slotB
  if s.sys.st == .standby then s.modSys (fun y => { y with fwB := if fw then slotB else y.fwB })
  else if s.awake && s.sys.shut == 0 then s.shutStart.modSys (fun y => { y with activ := true, activFw := fw })
  else s

/-! ### Loss and return of supply (R441, R444 to R446, R487, R507, R525 to R529, R531) -/

/-- Audit records in the page buffer are written, both copies (R526, R527). -/
def State.flushAudit (s : State) : State := (upTo (s.peat.pageN / 64 + 1)).foldl (fun s _ => if s.peat.pageN == 0 then s else s.auditPage) s

/-- A record that is not completely in Peat is lost: its number and trigger time stay in the index (R529). -/
def State.loseRecords (s : State) : State :=
  let lost := ((match s.acq.cur with | some r => [r] | none => []) ++ s.acq.done_.reverse).map (fun r =>
    { r with status := 2, data := [], redu := [], raw := [], size := 0 })
  (s.modPeat (fun p => { p with recs := lost ++ p.recs, nLost := wrap32 (p.nLost + lost.length) })).modAcq (fun a =>
    { a with cur := none, done_ := [], held := false, st := .disarmed })

/-- Source number of a FAIL that no Bramble source has caused: a power failure (R444, notes/assumptions/118.md). -/
def noSource : Nat := 64

/-- The first 50 µs of a power failure (R308, R344, R444): a member of a working pair declares itself failed and falls silent, any other
module blocks its cells and demands the same of its children; SO1 and SO2 fall. -/
def State.failOutputs (s : State) : State :=
  let pair := s.pb gTWN 1 && s.awake && (s.twin.shadow || s.inStep)
  let s :=
    if pair then
      ((s.selfFail noSource).modLink (fun l => { l with txOn := false })).modNest (fun n => { n with txDown := [], txNest := [], txUp := none })
    else (forAll (upTo 32) (State.sendBlockAll s.actU) s).sendDown
  let off := fun (o : HOut) => { o with hs := false, ls := false }
  s.modHdg (fun h => { h with outs := h.outs.map off })

/-- Only the AO domain is powered (R14, R441): every register and memory of the other domains is at reset; the AO counters, what Peat and
the fuses keep, the cages and the temperature of the housing stay. -/
def State.off (s : State) : State :=
  let z := State.reset
  let y := s.sys
  { z with
    pending := s.pending
    par := { z.par with vals := s.par.vals.filter (fun v => v.id.g == gHDG || v.id == ⟨gCFG, 5⟩ || v.id == ⟨gCFG, 31⟩) }
    clk := { z.clk with tai := s.clk.tai, frame := s.clk.frame, aoSec := s.clk.aoSec }
    hw := { z.hw with e1 := s.hw.e1, e2 := s.hw.e2, base := s.hw.base, low := s.hw.low, high := s.hw.high, limit := s.hw.limit }
    hdg := { z.hdg with secHash := s.hdg.secHash, sa := { z.hdg.sa with valid := s.hdg.sa.valid }, sb := { z.hdg.sb with valid := s.hdg.sb.valid } }
    twin := { z.twin with sideB := s.twin.sideB, epoch := s.twin.epoch }
    link := { z.link with ports := s.link.ports.map Port.kept }
    mbx := { z.mbx with nonceN := s.mbx.nonceN }
    peat := { s.peat with pageN := 0, scrub := none, active := false }
    sys := { z.sys with
      life := y.life, scan := y.scan, lifeReq := y.lifeReq, slots := y.slots, fwOk := y.fwOk, fwB := y.fwB, fwSelB := y.fwSelB
      bootBad := y.bootBad, runB := y.runB, startB := y.startB, key0 := y.key0, key1 := y.key1, key2 := y.key2, creds := y.creds
      cache := y.cache, lastSl := y.lastSl, tests := y.tests, log := y.log, logOver := y.logOver, seqNo := y.seqNo
      slotId := y.slotId, strap := y.strap }
    acq := { z.acq with num := s.acq.num } }

/-- DORMANT at the end of the power-fail sequence (R444); what has gone out last stands until the next power-up: FAIL on link T or
BLOCK_DEMAND toward the children. -/
def State.powerDown (s : State) : State :=
  { (s.off).modClk (fun c => { c with aoSec := s.now / 1000000000 }) with
    nest := { s.off.nest with txDown := s.nest.txDown, txNest := s.nest.txNest }
    twin := { s.off.twin with txT := s.twin.txT } }

/-- POWER_FAIL (R444, R445, R502, R527, R529): FAULTED, then DORMANT at the end of the sequence. -/
def execPowerFail (s : State) : Host.Outcome State Fault Refusal :=
  .next (
    if s.sys.st == .dormant then s
    else
      let s := if s.awake && s.sys.st != .faulted then s.endTest.enter .faulted else s
      let s := s.failOutputs.audit 0x52
      let s := s.modSys (fun y => { y with
        tests := if y.sliceGo then y.tests.modify y.slice (fun x => { x with last := x.newest, res := .interrupted }) else y.tests })
      (((s.loseRecords.flushAudit).journalCommit).modPeat (fun p => p.abortErase s.now)).powerDown)

/-- State at a power-up: everything but what the AO domain, Peat and the fuses keep is at reset; `secs` have passed since AO last
counted, `vbatOk` says that it has counted (R441, R446, R507). -/
def State.booted (s : State) (slot : Nat) (strapped vbatOk : Bool) (secs : Nat) : State :=
  let o := s.off
  let tai := (if vbatOk then s.clk.aoSec + secs else s.peat.mirSec) * 1000000000
  { o with
    clk := { Clk.reset with tai := tai, aoSec := tai / 1000000000, powH := true, lockH := true }
    twin := { o.twin with sideB := strapped, epoch := if vbatOk then s.twin.epoch else s.peat.mirEp }
    mbx := { o.mbx with cause := bitAt true 0 ||| bitAt (s.peat.commitN != 0) 1 ||| bitAt (!vbatOk) 3 }
    sys := { o.sys with
      scan := s.sys.life == .manufacture || s.sys.life == .service, seqNo := if vbatOk then s.sys.seqNo else s.peat.mirSeq
      slotId := slot, strap := strapped } }

/-- Parameters in STANDBY after a power-up: those of the slot of the next start, where it is complete (R479). -/
def State.bootParams (s : State) : State :=
  let slot := s.sys.slots.getD (if s.sys.startB then 1 else 0) Slot_.reset
  match slot.cont with
  | some c => if slot.complete then (s.modPar (fun p => { p with vals := s.imageVals c (imgRef slot.bytes) })).hdgValid else s
  | none => s

/-- POWER_UP (R441, R446, R487, R507, R525, R531): `boots` tells for each boot attempt whether the selected firmware reached STANDBY. -/
def execPowerUp (slot : Nat) (strapped vbatOk : Bool) (secs : Nat) (boots : List Bool) (s : State) : Host.Outcome State Fault Refusal :=
  .next (
    if s.sys.st != .dormant then s
    else
      let bad := s.sys.bootBad + (boots.takeWhile (fun b => !b)).length
      let sel := s.sys.fwSelB
      let ok := fun (b : Bool) => s.sys.fwOk.getD (if b then 1 else 0) false
      let fall := (decide (s.pn gCFG 31 ≤ bad) || !ok sel) && ok (!sel)
      if !fall && (!ok sel || boots.all (fun b => !b) && !boots.isEmpty) then s.modSys (fun y => { y with bootBad := bad })
      else
        let s := s.booted (slot % 16) strapped vbatOk secs
        let s := s.modSys (fun y => { y with fwB := if fall then !sel else sel, bootBad := 0 })
        let s := (s.modClk (fun c => { c with frame := c.tai / s.tf })).bootParams
        let s := s.modClk (fun c => { c with frame := c.tai / s.tf })
        let s := s.when fall (fun s => s.rcSet 220 0 15)
        let s := s.when (!vbatOk) (fun s => s.rcSet 200 0 23)
        let s := s.when (decide (s.peat.stored < s.sys.seqNo)) (fun s => s.gapRecord (s.peat.stored + 1) s.sys.seqNo 2)
        ((s.enter .standby).lifeApply).publishSys false)

/-- FIRMWARE_WATCHDOG (R487): the management processor restarts, which counts as a failed boot; at the limit of CFG.031 the other slot
boots. -/
def execFirmwareWatchdog (s : State) : Host.Outcome State Fault Refusal :=
  .next (
    if !s.up then s
    else
      let bad := s.sys.bootBad + 1
      let fall := decide (s.pn gCFG 31 ≤ bad) && s.sys.fwB == s.sys.fwSelB && s.sys.fwOk.getD (if s.sys.fwSelB then 0 else 1) false
      let s := s.modMbx (fun m => { m with cause := m.cause ||| bitAt true 2 })
      let s := s.modSys (fun y => { y with bootBad := if fall then 0 else bad, fwB := if fall then !y.fwSelB else y.fwB })
      s.when fall (fun s => s.rcSet 220 0 15))

end Sys2Proof.Machine
end

