-- ==== Sys2Proof/Machine/Frame.lean ====
section
/-!
DEFINITION. The boundaries of the timing grid (R24 to R27): what a frame, a control and a supervisory boundary do, in the order of R97,
R468 and R589 (95_what_each_step_holds.md). A shadow leaves the work that needs its lead's inputs until it has the vector (R335).
-/
namespace Sys2Proof.Machine
open Sys2Proof

/-! ### Host work that falls due at a supervisory boundary (R303, R305, R467 to R469, R486, R494, R495) -/

/-- The author of a command that has waited for its boundary. -/
def State.cmdAuthor (s : State) (role : SRole) (ch : Nat) : Author :=
  match (s.chan ch).sess with
  | some x => ⟨ch, role, x.id, x.cred⟩
  | none => ⟨ch, role, 0, 0xFFFF⟩

/-- A Bramble reset or a change of test mode at its boundary (R219, R250, R303, R305). -/
def State.lateWrite (s : State) (w : Write) : State :=
  let no := s.lateRefuse w.ch w.sess w.cred (w.id.code w.e) 0x01
  if w.id == ⟨gPRT, 40⟩ then
    if w.v == 0 then s.applyWrite w
    else if s.resetRefused then no .prtActive
    else (s.applyWrite w).brambleReset (s.whoAct w.ch w.sess w.cred)
  else if w.v == 0 then (s.applyWrite w).modArm (fun a => { a with test := false })
  else if s.sys.st != .ready || s.sys.shut != 0 then no .pwmNotReady
  else if s.arm.test then s.applyWrite w
  else ((s.applyWrite w).modArm (fun a => { a with test := true })).releaseAll

/-- Two commands due at one boundary contradict one another (R469): DEBLOCK with HALT or ACTIVATE, and two selections of one kind. -/
def contradict (a b : Nat) : Bool :=
  let act := fun (x : Nat) => x % 256 == 0x43
  (a == 0x30 && (b == 0x31 || act b)) || (b == 0x30 && (a == 0x31 || act a)) || (act a && act b && a != b && a / 256 % 2 == b / 256 % 2)

/-- A command at its boundary (R486, R494, R495). -/
def State.cmdDo (s : State) (c : Nat × SRole × Nat × Nat) : State :=
  let a := s.cmdAuthor c.2.1 c.2.2.1
  let w := s.whoAct a.ch a.sess a.cred
  let no := s.lateRefuse a.ch a.sess a.cred (c.1 % 256)
  if c.1 == 0x30 then
    match if s.latchNow then some .prtActive else s.deblockBad with
    | some r => no 0x02 r
    | none => (s.enter .running w).releaseAll
  else if c.1 == 0x31 then (if s.running then s.toReady w else no 0x02 .mbxState)
  else if s.running then no 0x11 .cfgState
  else s.activate (c.1 / 256 % 2 == 1) (c.1 / 512 == 1)

/-- A command `d` stands before command `c` at one boundary: higher role, then lower channel, then the earlier (R469). -/
def cmdBeats (d c : (Nat × SRole × Nat × Nat) × Nat) : Bool :=
  decide (c.1.2.1.rank < d.1.2.1.rank) ||
    (c.1.2.1.rank == d.1.2.1.rank && (decide (d.1.2.2.1 < c.1.2.2.1) || (d.1.2.2.1 == c.1.2.2.1 && decide (d.2 < c.2))))

/-- Host writes and commands that wait for the present supervisory boundary act after Bramble, the loop engine and twin synchronisation
(R468), in ascending channel order. -/
def State.hostDue (s : State) : State :=
  let ws := byChannel (s.par.wait.filter (fun w => w.late && decide (w.at_ ≤ s.fr)))
  let cs := (s.par.cmds.filter (fun c => decide (c.2.2.2 ≤ s.fr))).zipIdx
  let s := s.modPar (fun p => { p with
    wait := p.wait.filter (fun w => !(w.late && decide (w.at_ ≤ s.fr))), cmds := p.cmds.filter (fun c => !decide (c.2.2.2 ≤ s.fr)) })
  let s := forAll ws State.lateWrite s
  forAll ((upTo 8).flatMap (fun k => cs.filter (fun c => c.1.2.2.1 == k))) (fun s c =>
    if cs.any (fun d => contradict d.1.1 c.1.1 && cmdBeats d c) then
      let a := s.cmdAuthor c.1.2.1 c.1.2.2.1
      s.lateRefuse a.ch a.sess a.cred (c.1.1 % 256) 0x02 .mbxContention
    else s.cmdDo c.1) s

/-- The part of a supervisory boundary that decides on the module's state, its role and its flags: Bramble at rate M, then the pair, then
the host (R292, R354, R468). -/
def State.supMain (s : State) : State :=
  let s := s.when (s.engOn && s.isLeaf) State.driftCompute
  (((s.sampleConds (s.condsM s.hdgDemand)).plannedSwap).hostDue).startRelink

/-! ### A frame boundary (R24) -/

/-- CORE works: it has a clock, and no self-test has taken its memories (R414, R423, R424, R499). -/
def State.coreGo (s : State) : Bool := s.awake && (s.clk.lockC || s.clk.backC) && s.sys.shut != 2

/-- The next boundary of the grid: frame number and station time (R24, R25). -/
def State.tick (s : State) : State :=
  let f := s.clk.tai / s.tf + 1
  s.modClk (fun c => { c with frame := f, tai := f * s.tf, frac := 0 })

/-- Publications due at the boundary, in the order frame, control, supervisory, background (R96, R97); the arm reference stage takes
what the control group has published at its deadline (R175, R176). -/
def State.publications (s : State) (spans : List Nat) : State :=
  let s := s.modEng (fun e => { e with ctlPub := false })
  let s := (s.publishDue .frame spans).publishDue .control spans
  let s := s.when s.eng.ctlPub State.kernPublish
  let s := s.publishDue .supervisory spans
  let s := s.when s.eng.bgEnded (fun s => (s.publishDue .background spans).modEng (fun e => { e with bgEnded := false }))
  s.when (s.isRoot && (s.fr + s.nc - s.dc) % s.nc == 0) (fun s => s.refTake s.eng.ctlPub)

/-- What arrived in the frame that ended: statuses, nest frames; at a root of a tree the credit check and the level commands (R44, R177,
R252, R274, R278). -/
def State.frameTake (s : State) : State :=
  let s := ((s.latchStatuses).portLatch).nestHold
  s.when (s.role != .compact) (fun s => s.creditCheck.levelIssue)

/-- Inputs of a boundary, the member's own or the lead's, and what is formed from them: trackers, Bramble at rate F, refresh, ledger (R46,
R72, R199, R283, R292, R335). -/
def State.frameLatch (s : State) (v : Option Vec) : State :=
  let s := match v with
    | some v =>
      let own := s.meas.ai.map (·.acc)
      let s := ((s.vecSamples v).ledgerTake).vecDeliver v
      s.modMeas (fun m => { m with ai := m.ai.mapIdx (fun i a => { a with acc := own.getD i [] }) })
    | none => ((s.ledgerTake).deliver).fieldLatch
  let s := (forAll (upTo 4) State.trkFrame s).publishTrk
  ((s.sampleConds s.condsF).refreshCount).bookFrame

/-- A shadow that waits for the vector takes its own inputs at the boundary and holds them, for the case that the vector does not come (R335,
R343). Conversions that complete from now on belong to the next frame (R48). -/
def State.ownLatch (s : State) (arms : List (List (Nat × Bool × Int))) : State :=
  let own := (s.deliver.fieldLatch).vecOf arms
  (s.deliver).modTwin (fun t => { t with latchDue := 1, ownVec := some own })

/-- The frame to the parent, and what the boundary has published and sent joins the output digest (R271, R337, R407). -/
def State.frameUp (s : State) : State :=
  let s := s.sendUp
  let s := s.when (s.nest.fire.isSome && (!s.nest.txDown.isEmpty || s.nest.txUp.isSome)) (fun s => s.rcSet 190 0 5)
  (s.modNest (fun n => { n with fire := none })).digestTake

/-- Commands of apply frame X + 2, Crihel frames and frames to the children (R177, R210, R236, R270). -/
def State.frameSend (s : State) : State :=
  let s := (s.formAll).sendDownlink
  (s.when (s.role == .compact) State.creditCheck).sendDown

/-- Selection for apply frame X + 3, the recorder, and a new run of the frame group (R97, R192, R392). -/
def State.frameOut (s : State) : State :=
  let s := (s.armLatches).when (s.role == .compact) State.levelIssue
  let s := (s.selectAll).reedbed
  s.when s.engOn (fun s => s.startRun .frame (s.bankAt s.fr) none (s.fr + 1))

/-- Frames leave as the work of their boundary leaves the module: `t` is the state after it (R250, R253, R303, R354, R494, R495). -/
def State.asSent (s t : State) : State :=
  { s with
    sys := { s.sys with st := t.sys.st }, arm := { s.arm with test := t.arm.test }, prot := t.prot
    twin := { s.twin with shadow := t.twin.shadow, ready := t.twin.ready, epoch := t.twin.epoch }
    link := { s.link with ports := s.link.ports.mapIdx (fun p x => { x with release := (t.port p).release, relink := (t.port p).relink }) } }

/-- What `asSent` had changed stands again as in `s`; the supervisory boundary itself does that work. -/
def State.afterSent (u s : State) : State :=
  { u with
    sys := { u.sys with st := s.sys.st }, arm := { u.arm with test := s.arm.test }, prot := s.prot
    twin := { u.twin with shadow := s.twin.shadow, ready := s.twin.ready, epoch := s.twin.epoch }
    link := { u.link with ports := u.link.ports.mapIdx (fun p x => { x with release := (s.port p).release, relink := (s.port p).relink }) } }

/-- A shadow waits for its lead's vector before it latches (R335). -/
def State.defers (s : State) : Bool := s.isShadow && s.twin.paired && s.lanesOn && s.engOn

/-- The lead's exceptions for items that the shadow has sent no digest of, its vector and seal go out; the shadow's heartbeat (R331, R333,
R334). -/
def State.twinSend (s : State) (arms : List (List (Nat × Bool × Int))) : State :=
  if !s.twinOn then s.itemsClear
  else if s.isShadow then (s.tSend (.hb s.twin.epoch s.twin.ready s.twin.ownNow)).itemsClear
  else
    let v := s.vecOf arms
    let s := s.when (s.twin.paired && !s.twin.partFailed) (fun s => forAll s.itemsMissing State.sendException s)
    (((s.modTwin (fun t => { t with txVec := some v, acts := [] })).tSend (.vector v)).tSend
      (.seal s.twin.epoch 1 (Config.vecCrc v))).itemsClear

/-! ### A control boundary (R26) -/

/-- Banks, kernel and control group start; Bramble at rate C, the pair, the fast ring (R97, R119, R149, R292, R337, R338, R475). -/
def State.controlWork (s : State) : State :=
  let s := s.bankExchange
  let s := if s.engOn then
      let s := s.kernStart
      s.startRun .control s.eng.actB (s.kern.next.map (fun n => (n.out, n.core.mode))) (s.fr + s.dc)
    else s
  (((s.sampleConds s.condsC).digestForm).resyncControl).ringsControl

/-! ### A supervisory boundary (R27) -/

/-- The supervisory group starts, then what decides on state, role and flags (R101, R468). -/
def State.supWork (s : State) : State :=
  let s := s.when s.engOn (fun s =>
    s.startRun .supervisory (s.bankAt s.fr) none (s.fr + s.fpms))
  s.supMain

/-- Work whose latch was left to the lead's vector, with the vector or the member's own inputs (R335, R343). `apply` applies a host action
that the vector carries. -/
def State.latchLate (s : State) (apply : State → HostAct → State) (v : Option Vec) : State :=
  let due := s.twin.latchDue
  if due == 0 then s
  else
    let s := s.modTwin (fun t => { t with latchDue := 0, ownNow := v.isNone, ownFs := if v.isNone then recentF s.fr t.ownFs else t.ownFs, nOwn := if v.isNone then wrap32 (t.nOwn + 1) else t.nOwn })
    let s := s.when v.isNone (fun s => s.rcSet 170 0 8)
    let s := (forAll (match v with | some x => x.acts | none => []) apply s).paramsDue
    let s := ((s.frameLatch (v.or s.twin.ownVec)).frameUp).frameOut
    let s := s.when (due.testBit 1) State.controlWork
    s.when (due.testBit 2) State.supWork

/-- Sensors of a supervisory boundary (R446, R448, R568, R575). -/
def State.takeSensors (s : State) (x : Sensors) : State :=
  (s.modClk (fun c => { c with vbatMv := x.vbat, v24Mv := x.v24, vbatLow := decide (x.vbat < 2500) })).modHw (fun h =>
    { h with temps := x.temps, supLow := decide (x.v24 < 19200) })

/-- Status sets, snapshot and clock outputs of a supervisory boundary (R34, R427, R448, R536). -/
def State.supPublish (s : State) : State :=
  (((s.clockOutputs).peatHealth).publishSup).snapBoundary

/-- Counters that start a new supervisory sample (DIA.106, fault summary bit 11). -/
def State.supCounts (s : State) : State :=
  s.modArm (fun a => { a with arms := a.arms.map (fun x => { x with lostRec := false, swit := (0 :: x.swit).take 1000 }) })

/-- SUPERVISORY_SAMPLE_BOUNDARY (R27): due once at a whole millisecond. -/
def execSupervisorySampleBoundary (sens : Sensors) (s : State) : Host.Outcome State Fault Refusal :=
  .next (
    let started := match s.eng.runs.getD 2 none with
      | some r => r.startF == s.fr
      | none => false
    if !(s.up && s.isSup s.fr) || started || s.twin.latchDue.testBit 2 then s
    else
      let s := s.takeSensors sens
      if !s.coreGo then
        let s := s.hostDue.supPublish
        if s.sys.st == .standby && (s.sys.activ || s.sys.wakeWait) then s.wakeUp sens.wake else s
      else
        let s := if s.twin.latchDue.testBit 0 then s.modTwin (fun t => { t with latchDue := t.latchDue + 4 }) else s.supWork
        let s := ((s.reconcile).creditsReconcile).rangingCheck sens.loops
        (s.poolReentry.supCounts).supPublish)

/-- CONTROL_SAMPLE_BOUNDARY (R26): due once at a frame number that N_c divides. -/
def execControlSampleBoundary (s : State) : Host.Outcome State Fault Refusal :=
  .next (
    let started := match s.eng.runs.getD 1 none with
      | some r => r.startF == s.fr
      | none => false
    if !(s.coreGo && s.isCtl s.fr) || started || s.twin.latchDue.testBit 1 then s
    else if s.twin.latchDue.testBit 0 then s.modTwin (fun t => { t with latchDue := t.latchDue + 2 })
    else s.controlWork)

/-- The work of a frame boundary in a module whose CORE works. -/
def State.frameWork (s : State) (obs : EngObs) : State :=
  let s := s.modEng (fun e => { e with corrected := wrap32 (e.corrected + obs.corrected) })
  let s := (s.when s.engOn (fun s => (s.publications obs.spans).ringsArrive)).frameTake
  let arms := s.armSamples
  let late := s.defers
  let s := if late then s.ownLatch arms else s.frameLatch none
  let t := if s.isSup s.fr then s.supMain else s
  let s := ((s.asSent t).frameSend).afterSent s
  let s := s.twinSend arms
  let s := if late then s else ((((s.asSent t).frameUp).afterSent s).frameOut)
  (s.fieldOutputs).publishFrame

/-- A supervisory sample begins: flags of the sample before end (R250, R253), outputs leave the safe state of a silence that is over
(R556). -/
def State.sampleStarts (s : State) : State := (s.endSample).modFio (fun f => { f with silHold := false })

/-- FRAME_BOUNDARY (R24). A latch still outstanding from the boundary before is made with the member's own inputs. -/
def execFrameBoundary (obs : EngObs) (s : State) : Host.Outcome State Fault Refusal :=
  .next (
    if !s.up then s
    else
      let s := s.latchLate (fun s _ => s) none
      let s := ((s.tick).twinFrame).shutFrame
      let s := (s.when (s.isSup s.fr) State.sampleStarts).paramsDue
      if s.coreGo then s.frameWork obs else ((s.fieldLatch).fieldOutputs).publishFrame)

end Sys2Proof.Machine
end

