-- ==== Sys2Proof/Machine/TwinRows.lean ====
section
/-!
DEFINITION. What a member of a twin pair does with its partner's blocks where they bear on a latch (R330, R332 to R335, R338, R342,
R343): host actions, exceptions, seals, the state image and the replay, and the declaration of a failure.
-/
namespace Sys2Proof.Machine
open Sys2Proof

/-! ### Host actions that the lead carries (R330) -/

/-- A host action of the lead, applied at the shadow with its own audit record. Requests to gate units (0x81) leave the lead alone: a
shadow sends empty message slots (R330, R256). -/
def State.applyAct (s : State) (x : HostAct) : State :=
  let a : Author := ⟨x.ch, x.role, x.sess, x.cred⟩
  let noted := fun (s : State) => s.audit 0x02 (s.whoAct x.ch x.sess x.cred) x.op
  let bytes := x.ws.map (fun w => w.setWidth 8)
  match x.op with
  | 0x11 => s.acceptWrite { ch := x.ch, role := x.role, sess := x.sess, cred := x.cred, id := x.id, e := x.e, v := x.v, eff := x.eff, at_ := x.at_ }
  | 0x20 => (s.bankWords a x.e x.addr x.ws).1
  | 0x22 => (s.modEng (fun e => { e with swapAt := some x.at_ })).bankLog 0x22 a (x.ws.headD 0).toNat x.at_ { st := .accepted }
  | 0x23 => (s.modEng (fun e => { e with swapAt := none })).bankLog 0x23 a ((s.eng.swapAt.getD 0 : Nat) : Int) 0 {}
  | 0x30 => noted (s.modPar (fun p => { p with cmds := p.cmds ++ [(0x30, x.role, x.ch, x.at_)] }))
  | 0x31 => noted (s.modPar (fun p => { p with cmds := p.cmds ++ [(0x31, x.role, x.ch, x.at_)] }))
  | 0x32 => (noted s).shutStart
  | 0x40 => (s.imgBegin a x.e x.addr).1
  | 0x41 => (s.imgBlock a x.addr bytes).1
  | 0x42 => (s.imgCommit a bytes).1
  | 0x43 =>
    if x.e == 1 then (s.modPar (fun p => { p with cmds := p.cmds ++ [(x.addr, x.role, x.ch, x.at_)] })).audit 0x11 (s.whoAct x.ch x.sess x.cred) x.addr 0 x.at_
    else (s.imgSelect a (x.addr / 256 % 2 == 1) (x.addr / 512 == 1) false).1
  | 0x50 => noted (s.modMbx (fun m => { m with onReq := true }))
  | 0x51 => noted (s.modMbx (fun m => { m with fastNew := some (idsOf x.ws) }))
  | 0x62 => noted (match s.recOf x.addr with | some r => s.recDelete r | none => s)
  | 0x80 => noted (s.guStage x.addr bytes)
  | 0x81 => noted s
  | _ => s

/-- The outstanding latch is made with the vector of its frame, or with own inputs where that vector has not come (R335, R343). -/
def State.latchNowWith (s : State) (v : Option Vec) : State :=
  let keep := s.twin.phase == 2 || s.twin.phase == 3
  let s := s.latchLate State.applyAct v
  if keep then s else s.modTwin (fun t => { t with vecs := t.vecs.filter (fun x => s.fr < x.1) })

/-- The vector held for frame `f`. -/
def State.vecFor (s : State) (f : Nat) : Option Vec := (s.twin.vecs.find? (fun x => x.1 == f)).map (·.2)

/-- The vector held for frame `f` where it is the one that the seal names, whole and unchanged (R331, R335). -/
def State.vecSealed (s : State) (b : TBlk) (f : Nat) : Option Vec :=
  (s.vecFor f).filter (fun v => b.count == 1 && b.vcrc == Config.vecCrc v)

/-- SEAL (R332, R335, R341, R343): the lead's heartbeat; the shadow latches the vector of the frame. -/
def execSeal (b : TBlk) (lepoch : Nat) (s : State) : Host.Outcome State Fault Refusal :=
  .next (
    let r := s.tTake b
    match r.2 with
    | some f =>
      let s := r.1.heartbeatT f
      if s.isShadow then
        let s := s.modTwin (fun t => { t with epoch := maxEp t.epoch lepoch })
        if f == s.fr then s.latchNowWith (s.vecSealed b f) else s
      else s.modTwin (fun t => { t with seenLead := t.seenLead ++ [lepoch] })
    | none => r.1)

/-- SEAL_MISSING (R343): the shadow latches its own inputs. Where the lead's chain heartbeat is there, it is no longer READY and
resynchronises. -/
def execSealMissing (chainSeen : Bool) (s : State) : Host.Outcome State Fault Refusal :=
  .next (
    if !s.isShadow || s.twin.latchDue == 0 then s
    else
      let s := s.latchNowWith none
      if chainSeen && (s.twin.ready || s.twin.phase == 4) then s.startResync else s)

/-! ### Exceptions (R334) -/

/-- The lead's status slot for channel `c` stands for the member's own; a status already counted is not counted again. -/
def State.exceptSlot (s : State) (c f : Nat) (sl : Slot) : State :=
  let y := s.cell c
  if !sl.filled then s.updCell c Cell.noStatus
  else
    let s := s.takeStatus c f sl
    if y.fresh then s.updCell c (fun x => { x with desatN := y.desatN, desatBN := y.desatBN, mism := y.mism, goodStat := y.goodStat }) else s

/-- The lead's accepted nest frame for a link: port 64 + i for child i, 96 for the parent. -/
def State.exceptNest (s : State) (port : Nat) (bytes : List Byte) : State :=
  if port == 96 then
    let d := downOf s.fr bytes
    let s := s.modNest (fun n => { n with down := some d, held := some d })
    let put := fun (g : Nat × Int × Int) (x : ArmS) => { x with grants := x.grants.filter (fun y => y.1 != g.1) ++ [g] }
    if s.role == .arm && d.valid then
      (s.updArm 0 (put (d.applyF, d.grant0, d.vref0))).updArm 1 (fun x => if d.two then put (d.applyF, d.grant1, d.vref1) x else x)
    else s
  else
    let r := upOf s.fr bytes
    let h := nestHdr bytes
    s.updKid (port - 64) (fun k => { k with
      reps := (r :: k.reps.filter (fun x => x.epoch != r.epoch)).take 64, lastCum := [r.arm0.cum, r.arm1.cum]
      repBy := ((r.epoch, h.sideB, h.lepoch) :: k.repBy.filter (fun x => x.1 != r.epoch)).take 64 })

/-- EXCEPTION (R334): beyond 384 bytes in a frame the shadow leaves step. -/
def execException (b : TBlk) (port : Nat) (slots : List Slot) (nestBytes : List Byte) (s : State) : Host.Outcome State Fault Refusal :=
  .next (
    let r := s.tTake b
    match r.2 with
    | some f =>
      if !r.1.isShadow || f != r.1.fr then r.1
      else
        let was := r.1.twin.excN
        let n := was + 8 * slots.length + nestBytes.length
        let s := r.1.modTwin (fun t => { t with excN := n })
        let s := if port < 32 then
            forAll slots.zipIdx (fun s x => match s.chanAt port x.2 with
              | some c => s.exceptSlot c (f - 2) { x.1 with far := s.twin.sideB }
              | none => s) s
          else s.exceptNest port nestBytes
        if 384 < n && was ≤ 384 then (s.modTwin (fun t => { t with nOver := wrap32 (t.nOver + 1) })).startResync else s
    | none => r.1)

/-! ### Failures (R342) -/

/-- FAIL (R342): the partner has declared itself failed. -/
def execFail (b : TBlk) (_src : Nat) (s : State) : Host.Outcome State Fault Refusal :=
  .next (
    let r := s.tTake b
    match r.2 with
    | some _ => if r.1.twin.partFailed then r.1 else (r.1.latchNowWith none).declareFailed 2
    | none => r.1)

/-- PARTNER_FAILED (R342): neither heartbeat has come for four consecutive frames. -/
def execPartnerFailed (s : State) : Host.Outcome State Fault Refusal :=
  .next (if s.pb gTWN 1 && s.partnerDead then (s.latchNowWith none).declareFailed 1 else s)

/-! ### The state image and the replay (R338) -/

/-- Bank commands of a buffered vector act again on the loaded banks; they were logged when they came. -/
def State.replayAct (s : State) (x : HostAct) : State :=
  match x.op with
  | 0x20 => s.modEng (fun e => e.writeInactive x.addr x.ws)
  | 0x22 => s.modEng (fun e => { e with swapAt := some x.at_ })
  | 0x23 => s.modEng (fun e => { e with swapAt := none })
  | _ => s

/-- The 8,192 words of a bank (R111). -/
def padBank (l : List Word) : List Word := (l ++ List.replicate 8192 0).take 8192

/-- The lead's state image as it was at frame `b`. -/
def State.loadImg (s : State) (g : StateImg) : State :=
  let s := s.modEng (fun e =>
    let e := match g.banks with
      | some (b, x, y) => { e with actB := b, bankA := padBank x, bankB := padBank y }
      | none => e
    { e with outs := g.outs, sts := g.sts, swapAt := g.swap, runs := [none, none, none, none] })
  let s := s.modNest (fun n => { n with kids := n.kids.zipWith (fun own k => { own with ack := k.ack, ofs := k.ofs, lastCum := k.lastCum }) g.kids })
  { s with arm := g.arm, kern := g.kern, prot := g.prot }

/-- One buffered frame is executed on its vector: publications, selection, ledger and the groups that start, nothing sent. -/
def State.replayFrame (first : Nat) (s : State) (x : Nat × Vec) : State :=
  let s := s.modClk (fun c => { c with frame := x.1, tai := x.1 * s.tf, frac := 0 })
  let s := forAll x.2.acts State.replayAct s
  let s := s.when (decide (first < x.1)) (fun s => s.publications [])
  let s := (s.when (s.role != .compact) State.levelIssue).frameLatch (some x.2)
  let s := s.formAll.armLatches.when (s.role == .compact) State.levelIssue
  let s := (s.selectAll).startRun .frame (s.bankAt s.fr) none (s.fr + 1)
  let s := s.when (s.isCtl s.fr) (fun s =>
    let s := (s.bankExchange).kernStart
    (s.startRun .control s.eng.actB (s.kern.next.map (fun n => (n.out, n.core.mode))) (s.fr + s.dc)).sampleConds s.condsC)
  s.when (s.isSup s.fr) (fun s =>
    let s := (s.startRun .supervisory (s.bankAt s.fr) none (s.fr + s.fpms)).when s.isLeaf State.driftCompute
    (s.sampleConds (s.condsM s.hdgDemand)).poolReentry)

/-- The buffered frames up to the present one, back to back. -/
def State.replay (s : State) (first : Nat) : State :=
  let now := s.clk
  let t := forAll (s.twin.vecs.filter (fun x => decide (first ≤ x.1) && decide (x.1 ≤ s.fr))) (State.replayFrame first) s
  t.modClk (fun _ => now)

/-- STATE (R338): a slice of the image; after the last one the shadow loads it and replays, or starts anew where the slices spell no
image. -/
def execState (b : TBlk) (slice : List Byte) (last : Bool) (s : State) : Host.Outcome State Fault Refusal :=
  .next (
    let r := s.tTake b
    match r.2 with
    | some _ =>
      if !(r.1.isShadow && r.1.twin.phase == 2) then r.1
      else
        let s := r.1.modTwin (fun t => { t with imgBuf := t.imgBuf ++ slice })
        if !last then s
        else match Config.stateImage s.twin.imgBuf with
          | some g => ((s.loadImg g).replay g.frame).modTwin (fun t => { t with phase := 3, imgBuf := [] })
          | none => s.modTwin (fun t => { t with phase := 1, imgBuf := [] })
    | none => r.1)

end Sys2Proof.Machine
end

