-- ==== Sys2Proof/Machine/Dispatch.lean ====
section
/-!
DEFINITION. One arm per constructor of Instr: each arm calls the meaning of its command.
-/
namespace Sys2Proof.Machine
open Sys2Proof

def exec (i : Instr) (s : State) : Host.Outcome State Fault Refusal :=
  match i with
  | .frameBoundary obs => Sys2Proof.Machine.execFrameBoundary obs s
  | .controlSampleBoundary => Sys2Proof.Machine.execControlSampleBoundary s
  | .supervisorySampleBoundary sens => Sys2Proof.Machine.execSupervisorySampleBoundary sens s
  | .driftWindowEnd => Sys2Proof.Machine.execDriftWindowEnd s
  | .snapshotEmission => Sys2Proof.Machine.execSnapshotEmission s
  | .snapshotDmaError => Sys2Proof.Machine.execSnapshotDmaError s
  | .groupOverrun g => Sys2Proof.Machine.execGroupOverrun g s
  | .loopOverrunRaised g => Sys2Proof.Machine.execLoopOverrunRaised g s
  | .backgroundRunStart => Sys2Proof.Machine.execBackgroundRunStart s
  | .backgroundRunEnd => Sys2Proof.Machine.execBackgroundRunEnd s
  | .backgroundWatchdog => Sys2Proof.Machine.execBackgroundWatchdog s
  | .engineSramUncorrectable g => Sys2Proof.Machine.execEngineSramUncorrectable g s
  | .analogConversionComplete k smp => Sys2Proof.Machine.execAnalogConversionComplete k smp s
  | .sigmaDeltaOutput k bits age => Sys2Proof.Machine.execSigmaDeltaOutput k bits age s
  | .sdFault k => Sys2Proof.Machine.execSdFault k s
  | .sdValidityReturn k => Sys2Proof.Machine.execSdValidityReturn k s
  | .sampledValueMessage m => Sys2Proof.Machine.execSampledValueMessage m s
  | .crossingTimeout t => Sys2Proof.Machine.execCrossingTimeout t s
  | .blackStartRequestEdge obs => Sys2Proof.Machine.execBlackStartRequestEdge obs s
  | .syncCompareArmed => Sys2Proof.Machine.execSyncCompareArmed s
  | .syncAbort => Sys2Proof.Machine.execSyncAbort s
  | .syncFail => Sys2Proof.Machine.execSyncFail s
  | .limitedReturn => Sys2Proof.Machine.execLimitedReturn s
  | .refreshDue c => Sys2Proof.Machine.execRefreshDue c s
  | .refreshOverdue c => Sys2Proof.Machine.execRefreshOverdue c s
  | .gateSupplyLow c => Sys2Proof.Machine.execGateSupplyLow c s
  | .statusStale c => Sys2Proof.Machine.execStatusStale c s
  | .crihelReturnFrame p bytes => Sys2Proof.Machine.execCrihelReturnFrame p bytes s
  | .returnFrameMissing p => Sys2Proof.Machine.execReturnFrameMissing p s
  | .linkLoss p => Sys2Proof.Machine.execLinkLoss p s
  | .messageReply p m => Sys2Proof.Machine.execMessageReply p m s
  | .msgTimeout p seq => Sys2Proof.Machine.execMsgTimeout p seq s
  | .nestDown port bytes off => Sys2Proof.Machine.execNestDown port bytes off s
  | .nestUp port bytes => Sys2Proof.Machine.execNestUp port bytes s
  | .nestLoss link => Sys2Proof.Machine.execNestLoss link s
  | .sourceRaised k => Sys2Proof.Machine.execSourceRaised k s
  | .sourceCleared k => Sys2Proof.Machine.execSourceCleared k s
  | .pairFormation partner => Sys2Proof.Machine.execPairFormation partner s
  | .vector b v => Sys2Proof.Machine.execVector b v s
  | .exception b port slots nestBytes => Sys2Proof.Machine.execException b port slots nestBytes s
  | .seal b lepoch => Sys2Proof.Machine.execSeal b lepoch s
  | .sealMissing chainSeen => Sys2Proof.Machine.execSealMissing chainSeen s
  | .digests b ports => Sys2Proof.Machine.execDigests b ports s
  | .hb b lepoch ready own => Sys2Proof.Machine.execHb b lepoch ready own s
  | .outDigest b dig => Sys2Proof.Machine.execOutDigest b dig s
  | .fail b src => Sys2Proof.Machine.execFail b src s
  | .swap b atF => Sys2Proof.Machine.execSwap b atF s
  | .state b slice last => Sys2Proof.Machine.execState b slice last s
  | .relay b port ttrav slots => Sys2Proof.Machine.execRelay b port ttrav slots s
  | .partnerFailed => Sys2Proof.Machine.execPartnerFailed s
  | .heartbeatPathLost chain => Sys2Proof.Machine.execHeartbeatPathLost chain s
  | .resyncComplete dig => Sys2Proof.Machine.execResyncComplete dig s
  | .resyncGiveup => Sys2Proof.Machine.execResyncGiveup s
  | .swapPeriodElapsed => Sys2Proof.Machine.execSwapPeriodElapsed s
  | .safetyCycle b obs => Sys2Proof.Machine.execSafetyCycle b obs s
  | .crossLinkMessage b m => Sys2Proof.Machine.execCrossLinkMessage b m s
  | .xcmpFault b => Sys2Proof.Machine.execXcmpFault b s
  | .clockFault b dev => Sys2Proof.Machine.execClockFault b dev s
  | .functionRaised b f => Sys2Proof.Machine.execFunctionRaised b f s
  | .safeStopDelayEnd => Sys2Proof.Machine.execSafeStopDelayEnd s
  | .discFault k => Sys2Proof.Machine.execDiscFault k s
  | .outputPairTest so obs => Sys2Proof.Machine.execOutputPairTest so obs s
  | .recordComplete => Sys2Proof.Machine.execRecordComplete s
  | .recordWritten => Sys2Proof.Machine.execRecordWritten s
  | .preTriggerFilled => Sys2Proof.Machine.execPreTriggerFilled s
  | .holdoffEnd => Sys2Proof.Machine.execHoldoffEnd s
  | .memoryReserved => Sys2Proof.Machine.execMemoryReserved s
  | .pllLock p => Sys2Proof.Machine.execPllLock p s
  | .pllLoss p => Sys2Proof.Machine.execPllLoss p s
  | .pllRelock p => Sys2Proof.Machine.execPllRelock p s
  | .refFallback count => Sys2Proof.Machine.execRefFallback count s
  | .refinLost => Sys2Proof.Machine.execRefinLost s
  | .refinResume => Sys2Proof.Machine.execRefinResume s
  | .ptpMessage m => Sys2Proof.Machine.execPtpMessage m s
  | .irigbFrame m withPps => Sys2Proof.Machine.execIrigbFrame m withPps s
  | .ppsInEdge m => Sys2Proof.Machine.execPpsInEdge m s
  | .timeSourceLost src => Sys2Proof.Machine.execTimeSourceLost src s
  | .timeLocked => Sys2Proof.Machine.execTimeLocked s
  | .holdoverExpired => Sys2Proof.Machine.execHoldoverExpired s
  | .leapSecond => Sys2Proof.Machine.execLeapSecond s
  | .ppsOut rise => Sys2Proof.Machine.execPpsOut rise s
  | .powerUp slot strapped vbatOk secs boots => Sys2Proof.Machine.execPowerUp slot strapped vbatOk secs boots s
  | .powerFail => Sys2Proof.Machine.execPowerFail s
  | .perstN => Sys2Proof.Machine.execPerstN s
  | .wakeInputEdge obs => Sys2Proof.Machine.execWakeInputEdge obs s
  | .coldWakeRelease obs => Sys2Proof.Machine.execColdWakeRelease obs s
  | .identityRetry obs => Sys2Proof.Machine.execIdentityRetry obs s
  | .selfTestSliceEnd r => Sys2Proof.Machine.execSelfTestSliceEnd r s
  | .sliceTimeout => Sys2Proof.Machine.execSliceTimeout s
  | .mbDoorbell ch v => Sys2Proof.Machine.execMbDoorbell ch v s
  | .abort ch => Sys2Proof.Machine.execAbort ch s
  | .doneClear ch => Sys2Proof.Machine.execDoneClear ch s
  | .requestStart => Sys2Proof.Machine.execRequestStart s
  | .e1ConnectionOpen ch => Sys2Proof.Machine.execE1ConnectionOpen ch s
  | .e1ConnectionClose ch => Sys2Proof.Machine.execE1ConnectionClose ch s
  | .e1Request ch bytes => Sys2Proof.Machine.execE1Request ch bytes s
  | .sessionIdleTimeout ch => Sys2Proof.Machine.execSessionIdleTimeout ch s
  | .authLockoutEnd ch => Sys2Proof.Machine.execAuthLockoutEnd ch s
  | .loadLevelChange util => Sys2Proof.Machine.execLoadLevelChange util s
  | .sysFrameLoRead => Sys2Proof.Machine.execSysFrameLoRead s
  | .sysTaiLoRead => Sys2Proof.Machine.execSysTaiLoRead s
  | .rcRegisterRead ofs => Sys2Proof.Machine.execRcRegisterRead ofs s
  | .snpCtrlEnable v => Sys2Proof.Machine.execSnpCtrlEnable v s
  | .registerWrite ofs v => Sys2Proof.Machine.execRegisterWrite ofs v s
  | .getInfo ch => Sys2Proof.Machine.execGetInfo ch s
  | .openSession ch => Sys2Proof.Machine.execOpenSession ch s
  | .authSession ch => Sys2Proof.Machine.execAuthSession ch s
  | .closeSession ch => Sys2Proof.Machine.execCloseSession ch s
  | .readParam ch => Sys2Proof.Machine.execReadParam ch s
  | .writeParam ch => Sys2Proof.Machine.execWriteParam ch s
  | .bankWrite ch bank addr ws => Sys2Proof.Machine.execBankWrite ch bank addr ws s
  | .bankRead ch bank addr n => Sys2Proof.Machine.execBankRead ch bank addr n s
  | .bankSwap ch crc target => Sys2Proof.Machine.execBankSwap ch crc target s
  | .bankCancel ch => Sys2Proof.Machine.execBankCancel ch s
  | .deblock ch => Sys2Proof.Machine.execDeblock ch s
  | .halt ch => Sys2Proof.Machine.execHalt ch s
  | .sleep ch => Sys2Proof.Machine.execSleep ch s
  | .wake ch obs => Sys2Proof.Machine.execWake ch obs s
  | .imageBegin ch kind len => Sys2Proof.Machine.execImageBegin ch kind len s
  | .imageBlock ch ofs bytes => Sys2Proof.Machine.execImageBlock ch ofs bytes s
  | .imageCommit ch sha => Sys2Proof.Machine.execImageCommit ch sha s
  | .imageSelect ch fw slotB activate => Sys2Proof.Machine.execImageSelect ch fw slotB activate s
  | .snapshotNow ch => Sys2Proof.Machine.execSnapshotNow ch s
  | .snapshotFast ch ids => Sys2Proof.Machine.execSnapshotFast ch ids s
  | .recordList ch => Sys2Proof.Machine.execRecordList ch s
  | .recordExport ch num file ofs n => Sys2Proof.Machine.execRecordExport ch num file ofs n s
  | .recordDelete ch num => Sys2Proof.Machine.execRecordDelete ch num s
  | .logRead ch fromSeq n => Sys2Proof.Machine.execLogRead ch fromSeq n s
  | .guFwLoad ch ofs bytes => Sys2Proof.Machine.execGuFwLoad ch ofs bytes s
  | .guFwStart ch cells => Sys2Proof.Machine.execGuFwStart ch cells s
  | .brambleReset ch => Sys2Proof.Machine.execBrambleReset ch s
  | .reAdmitCell ch c => Sys2Proof.Machine.execReAdmitCell ch c s
  | .commit ch mask => Sys2Proof.Machine.execCommit ch mask s
  | .testMode ch on => Sys2Proof.Machine.execTestMode ch on s
  | .modeRequest ch m => Sys2Proof.Machine.execModeRequest ch m s
  | .compareArm ch t on => Sys2Proof.Machine.execCompareArm ch t on s
  | .rejoin ch port => Sys2Proof.Machine.execRejoin ch port s
  | .resynchronise ch => Sys2Proof.Machine.execResynchronise ch s
  | .swapNow ch => Sys2Proof.Machine.execSwapNow ch s
  | .recorderArm ch on => Sys2Proof.Machine.execRecorderArm ch on s
  | .manualTrigger ch => Sys2Proof.Machine.execManualTrigger ch s
  | .scrubNow ch => Sys2Proof.Machine.execScrubNow ch s
  | .outputFaultReset ch mask => Sys2Proof.Machine.execOutputFaultReset ch mask s
  | .hostReset ch => Sys2Proof.Machine.execHostReset ch s
  | .setTime ch tai => Sys2Proof.Machine.execSetTime ch tai s
  | .journalCommit => Sys2Proof.Machine.execJournalCommit s
  | .auditPageWrite => Sys2Proof.Machine.execAuditPageWrite s
  | .scrubRead pg => Sys2Proof.Machine.execScrubRead pg s
  | .programEraseFailure block isErase => Sys2Proof.Machine.execProgramEraseFailure block isErase s
  | .uncorrectable part bothCopies item last => Sys2Proof.Machine.execUncorrectable part bothCopies item last s
  | .fieldFrame f => Sys2Proof.Machine.execFieldFrame f s
  | .inputLevelChange k high => Sys2Proof.Machine.execInputLevelChange k high s
  | .wireBreak k => Sys2Proof.Machine.execWireBreak k s
  | .wireBreakCleared k => Sys2Proof.Machine.execWireBreakCleared k s
  | .thermalShutdown o => Sys2Proof.Machine.execThermalShutdown o s
  | .outputFault o f present => Sys2Proof.Machine.execOutputFault o f present s
  | .fieldTestPulse o obs => Sys2Proof.Machine.execFieldTestPulse o obs s
  | .logicSilence => Sys2Proof.Machine.execLogicSilence s
  | .fieldFramesReturn => Sys2Proof.Machine.execFieldFramesReturn s
  | .lplusMonitor => Sys2Proof.Machine.execLplusMonitor s
  | .sfpInsertRemove e2 present fault => Sys2Proof.Machine.execSfpInsertRemove e2 present fault s
  | .temperatureThreshold t => Sys2Proof.Machine.execTemperatureThreshold t s
  | .compareOutputPulseEnd t => Sys2Proof.Machine.execCompareOutputPulseEnd t s
  | .outputThermalRestart o => Sys2Proof.Machine.execOutputThermalRestart o s
  | .firmwareWatchdog => Sys2Proof.Machine.execFirmwareWatchdog s
  | .sustoWorksProcedure key0 cred0 => Sys2Proof.Machine.execSustoWorksProcedure key0 cred0 s

end Sys2Proof.Machine
end

