-- ==== Sys2Proof/Safety.lean ====
section
/-!
DEFINITION. What counts as a safe run, and the words in which statements about a command are made: what changed, what stayed.
-/
namespace Sys2Proof.Machine
open Sys2Proof

/-! ### What changed and what stayed -/

/-- Two lists of units differ at most at unit `k`. -/
def OnlyAt {α : Type} (k : Nat) (l m : List α) : Prop := m.length = l.length ∧ ∀ j, j ≠ k → m[j]? = l[j]?

/-- RC bit `k` of element `e` of diagnostic `d` stands, set but not yet published (R8). -/
def State.rcBit (s : State) (d e k : Nat) : Bool := (evGet s.pub.ev d e).getLsbD k

/-- Exactly one audit record of type `ty` has been appended: it is the newest, under the next sequence number (R508, R510). -/
def LoggedOne (s t : State) (ty : Nat) : Prop :=
  ∃ r : Audit, r.ty = ty ∧ r.seq = s.sys.seqNo + 1 ∧ t.sys.seqNo = s.sys.seqNo + 1 ∧ t.sys.log = (r :: s.sys.log).take 1048576

/-- Everything a record of the audit log touches has stayed, but for the log itself: its ring, its sequence number, its count of lost
records, and Peat's page buffer (R508, R512, R526). -/
def SameButLog (s t : State) : Prop :=
  t = { s with
    sys := { s.sys with log := t.sys.log, seqNo := t.sys.seqNo, logOver := t.sys.logOver }
    peat := { s.peat with pageN := t.peat.pageN, pageT := t.peat.pageT } }

/-- The log has changed, and besides it the mailbox, and no open transfer but that which `t` no longer holds. -/
def LogFrame (s t : State) : Prop :=
  t = { s with
    mbx := t.mbx
    sys := { s.sys with log := t.sys.log, seqNo := t.sys.seqNo, logOver := t.sys.logOver, xfer := t.sys.xfer }
    peat := { s.peat with pageN := t.peat.pageN, pageT := t.peat.pageT } }

/-- A pair member that is not the SHADOW carries the command `op` to its partner; any other module carries nothing (R330). -/
def Carried (s t : State) (op : Nat) : Prop :=
  (s.pb gTWN 1 = true → s.twin.shadow = false → ∃ x : HostAct, x.op = op ∧ t.twin.acts = s.twin.acts ++ [x]) ∧
    (s.pb gTWN 1 = false ∨ s.twin.shadow = true → t.twin.acts = s.twin.acts)

/-- The audit log grows, a pair carries the command `op` (R330), and nothing else changes but the mailbox. -/
def CarryFrame (s t : State) (op : Nat) : Prop :=
  Carried s t op ∧ t = { s with
    mbx := t.mbx
    sys := { s.sys with log := t.sys.log, seqNo := t.sys.seqNo, logOver := t.sys.logOver, xfer := t.sys.xfer }
    peat := { s.peat with pageN := t.peat.pageN, pageT := t.peat.pageT }
    twin := { s.twin with acts := t.twin.acts } }

/-! ### Requests of the mailbox (R451, R455, R457) -/

/-- Channel `ch` executes request `q` with opcode `op`, and the host interfaces work. -/
def State.executing (s : State) (ch op : Nat) (q : Req) : Prop :=
  s.hostUp = true ∧ ch < 8 ∧ s.mbx.chans.length = 8 ∧ (s.chan ch).exec_ = true ∧ (s.chan ch).pre = false ∧
    (s.chan ch).req = some q ∧ q.op = op

/-- The request of channel `ch` has completed with a status and a payload: the response is that of the request, under the session's key,
and a channel on PCIe shows DONE. A response to be discarded after an endpoint reset is left out (R562). -/
def Answered (s t : State) (ch : Nat) (q : Req) (st : Status) (pay : List Byte) : Prop :=
  (t.chan ch).exec_ = false ∧ (t.chan ch).queued = false ∧ (t.chan ch).req = none ∧
    ((s.chan ch).drop = false →
      (t.chan ch).resp = respOf q st ((s.sessOf ch q).map (·.key)) pay ∧ (t.chan ch).done_ = t.onPcie ch)

/-- A channel but for the mark that a class 0 request has preempted its own (R462). -/
def Chan.calm (c : Chan) : Chan := { c with pre := false }

/-- What completing a request changes in the mailbox: its channel, the marks of preempted requests, DIA.211 and channel interrupts. -/
def MailboxStep (s t : State) (ch : Nat) : Prop :=
  t.mbx = { s.mbx with chans := t.mbx.chans, maxC0 := t.mbx.maxC0, mirq := t.mbx.mirq, msi := t.mbx.msi } ∧
    OnlyAt ch (s.mbx.chans.map Chan.calm) (t.mbx.chans.map Chan.calm)

/-- The session of channel `ch`, with a role of at least `low`, may write a parameter of the release: the module is no shadow, is not in
CONFIG_PENDING, and no request of the channel is being executed (R330, R460, R493). -/
def State.mayWrite (s : State) (ch : Nat) (low : SRole) (x : Sess) : Prop :=
  s.hostUp = true ∧ ch < 8 ∧ s.mute = false ∧ (s.chan ch).sess = some x ∧ low.rank ≤ x.role.rank ∧ (s.chan ch).exec_ = false ∧
    s.hostShadow = false ∧ s.sys.st ≠ .configPending

/-- One write has been accepted for a later boundary: it waits behind those that waited, a lead's shadow is told, nothing else changes
(R330, R466). -/
def WaitsFor (s t : State) (ch : Nat) (x : Sess) (id : Pid) (e : Nat) (v : Raw) (eff : Eff) (f : Nat) : Prop :=
  t = { s with par := { s.par with wait := t.par.wait }, twin := { s.twin with acts := t.twin.acts } } ∧
    t.par.wait = s.par.wait ++ [{ ch := ch, role := x.role, sess := x.id, cred := x.cred, id := id, e := e, v := v, eff := eff, at_ := f }]

/-! ### Invariants of every run -/

/-- Both switches of both safety output pairs are open. -/
def State.safetyOff (s : State) : Prop := ∀ o ∈ s.hdg.outs, o.hs = false ∧ o.ls = false

/-- While the module is DORMANT, in STANDBY or in CONFIG_PENDING, SO1 and SO2 are de-energised (R379, R441, R491). -/
def State.safetyInv (s : State) : Prop :=
  s.sys.st = .dormant ∨ s.sys.st = .standby ∨ s.sys.st = .configPending → s.safetyOff

/-- The key slots and credentials of a module hold nothing. -/
def Sys.keysErased (y : Sys) : Prop := y.key0 = 0 ∧ y.key1 = none ∧ y.key2 = none ∧ ∀ c ∈ y.creds, c = Cred.reset

/-- RETIRED is final and its keys are erased (R506, R507). -/
def State.retiredInv (s : State) : Prop := s.sys.life = .retired ∧ s.sys.keysErased

/-- Both coefficient banks hold their 8,192 words (R111, R116). -/
def State.banksInv (s : State) : Prop := s.eng.bankA.length = 8192 ∧ s.eng.bankB.length = 8192

end Sys2Proof.Machine
end

