-- ==== Sys2Proof/WellFormed.lean ====
section
/-!
DEFINITION. Which commands are well formed: every number an operand carries names something the module has, and every list an operand
carries has the length the manual gives it. Values that the module itself judges and refuses (a bank that is neither A nor B, a mode
number outside its table) are no matter of form.
-/
namespace Sys2Proof
open Sys2Proof.Machine

/-- A mailbox channel MB0 to MB7 (chapter 13, channels and doorbells). -/
def wfChan (ch : Nat) : Bool := decide (ch < 8)
/-- A cell port P00 to P31 (chapter 06). -/
def wfPort (p : Nat) : Bool := decide (p < 32)
/-- A fibre port: P00 to P31, then N0 to N3 (chapter 07). -/
def wfAnyPort (p : Nat) : Bool := decide (p < 36)
/-- A link of an EXCEPTION block: a cell port, 64 + i for the nest link to child i, 96 for the one to the parent (R334). -/
def wfLink (p : Nat) : Bool := decide (p < 32 ∨ (64 ≤ p ∧ p ≤ 96))
/-- A submodule channel (R16). -/
def wfCell (c : Nat) : Bool := decide (c < 512)
/-- A grid angle tracker (R70). -/
def wfTracker (t : Nat) : Bool := decide (t < 4)
/-- A field output DO00 to DO15 (R537). -/
def wfOutput (o : Nat) : Bool := decide (o < 16)
/-- A field input: DIA00 to DIA15, then DIB00 to DIB15 (R537). -/
def wfInput (i : Nat) : Bool := decide (i < 32)
/-- A register offset of BAR0: word aligned, within 128 KiB (R449). -/
def wfOfs (o : Nat) : Bool := o % 4 == 0 && decide (o < 131072)
/-- A 16-bit converter code as a signed number (R54). -/
def wfCode (c : Int) : Bool := decide (-32768 ≤ c ∧ c ≤ 32767)
/-- The FNUM of a link T block fits 64 bits (R331). -/
def wfBlk (b : TBlk) : Bool := decide (b.fnum < 18446744073709551616)
/-- What a channel of Hedgerow samples: its inputs, eight pairs, two outputs (R359, R363). -/
def wfHdg (o : HdgObs) : Bool :=
  decide (o.ins.length ≤ 24) && o.levels.length == 8 && o.breaks.length == 8 && o.hsHigh.length == 2 && o.hsTrip.length == 2
/-- A cross-link message carries the sender's quantities, pairs and demands (R360). -/
def wfXMsg (m : XMsg) : Bool :=
  m.q.length == 6 && m.levels.length == 8 && m.breaks.length == 8 && m.fnDem.length == 4 && m.pairDem.length == 8
/-- A received sample carries eight values with their quality (R64). -/
def wfSv (m : SvMessage) : Bool := m.asdus.all (fun a => a.vals.length == 8 && a.good.length == 8 && a.test.length == 8)
/-- A vector carries every measurement input (R333). -/
def wfVec (v : Vec) : Bool := v.ai.length == 24 && v.sd.length == 8 && v.sv.length == 8
/-- A field frame carries 32 input voltages (R538). -/
def wfField (f : FieldObs) : Bool := f.mv.length == 32
/-- A time source code of the table of R428. -/
def wfTimeSource (k : Nat) : Bool := decide (1 ≤ k ∧ k ≤ 6)

/-- Well-formed commands. -/
def Instr.wf : Instr → Bool
  | .frameBoundary _ | .controlSampleBoundary | .supervisorySampleBoundary _ | .driftWindowEnd | .snapshotEmission
  | .snapshotDmaError | .groupOverrun _ | .loopOverrunRaised _ | .backgroundRunStart | .backgroundRunEnd
  | .backgroundWatchdog | .engineSramUncorrectable _ => true
  | .analogConversionComplete k smp => decide (k < 24) && wfCode smp.code
  | .sigmaDeltaOutput k _ _ | .sdFault k | .sdValidityReturn k => decide (k < 8)
  | .sampledValueMessage m => wfSv m
  | .crossingTimeout t | .compareOutputPulseEnd t => wfTracker t
  | .blackStartRequestEdge _ | .syncCompareArmed | .syncAbort | .syncFail | .limitedReturn => true
  | .refreshDue c | .refreshOverdue c | .gateSupplyLow c | .statusStale c => wfCell c
  | .crihelReturnFrame p _ | .returnFrameMissing p | .linkLoss p | .messageReply p _ | .msgTimeout p _ => wfPort p
  | .nestDown p _ _ | .nestUp p _ => wfAnyPort p
  | .nestLoss k => decide (k ≤ 32)
  | .sourceRaised k | .sourceCleared k => decide (k < 64)
  | .pairFormation _ => true
  | .vector b v => wfBlk b && wfVec v
  | .exception b p _ _ => wfBlk b && wfLink p
  | .seal b _ | .digests b _ | .hb b _ _ _ | .outDigest b _ | .fail b _ | .swap b _ | .state b _ _ => wfBlk b
  | .sealMissing _ => true
  | .relay b p _ _ => wfBlk b && wfPort p
  | .partnerFailed | .heartbeatPathLost _ | .resyncComplete _ | .resyncGiveup | .swapPeriodElapsed => true
  | .safetyCycle _ o => wfHdg o
  | .crossLinkMessage _ m => m.all wfXMsg
  | .xcmpFault _ | .clockFault _ _ => true
  | .functionRaised _ f => decide (f < 4)
  | .safeStopDelayEnd => true
  | .discFault k => decide (k < 8)
  | .outputPairTest k _ => decide (k < 2)
  | .recordComplete | .recordWritten | .preTriggerFilled | .holdoffEnd | .memoryReserved => true
  | .pllLock _ | .pllLoss _ | .pllRelock _ | .refFallback _ | .refinLost | .refinResume => true
  | .ptpMessage _ | .irigbFrame _ _ | .ppsInEdge _ => true
  | .timeSourceLost k => wfTimeSource k
  | .timeLocked | .holdoverExpired | .leapSecond | .ppsOut _ => true
  | .powerUp k _ _ _ _ => decide (k < 16)
  | .powerFail | .perstN | .wakeInputEdge _ | .coldWakeRelease _ | .identityRetry _ | .selfTestSliceEnd _ | .sliceTimeout => true
  | .mbDoorbell ch _ | .abort ch | .doneClear ch => wfChan ch
  | .requestStart => true
  | .e1ConnectionOpen ch | .e1ConnectionClose ch | .e1Request ch _ | .sessionIdleTimeout ch | .authLockoutEnd ch => wfChan ch
  | .loadLevelChange u => decide (u ≤ 100)
  | .sysFrameLoRead | .sysTaiLoRead => true
  | .rcRegisterRead o => wfOfs o
  | .snpCtrlEnable _ => true
  | .registerWrite o _ => wfOfs o
  | .getInfo ch | .openSession ch | .authSession ch | .closeSession ch | .readParam ch | .writeParam ch
  | .bankWrite ch _ _ _ | .bankRead ch _ _ _ | .bankSwap ch _ _ | .bankCancel ch | .deblock ch | .halt ch | .sleep ch | .wake ch _
  | .imageBegin ch _ _ | .imageBlock ch _ _ | .imageSelect ch _ _ _ | .snapshotNow ch | .snapshotFast ch _
  | .recordList ch | .recordExport ch _ _ _ _ | .recordDelete ch _ | .logRead ch _ _ | .guFwLoad ch _ _ | .brambleReset ch
  | .commit ch _ | .testMode ch _ | .modeRequest ch _ | .resynchronise ch | .swapNow ch | .recorderArm ch _
  | .manualTrigger ch | .scrubNow ch | .outputFaultReset ch _ | .hostReset ch | .setTime ch _ => wfChan ch
  | .imageCommit ch sha => wfChan ch && sha.length == 32
  | .guFwStart ch cs => wfChan ch && cs.all wfCell
  | .reAdmitCell ch c => wfChan ch && wfCell c
  | .compareArm ch t _ => wfChan ch && wfTracker t
  | .rejoin ch p => wfChan ch && wfPort p
  | .journalCommit | .auditPageWrite => true
  | .scrubRead pg => decide (pg.part < 9 ∧ pg.block < 32768)
  | .programEraseFailure b _ => decide (b < 32768)
  | .uncorrectable p _ _ _ => decide (p < 9)
  | .fieldFrame f => wfField f
  | .inputLevelChange i _ => wfInput i
  | .wireBreak i | .wireBreakCleared i => decide (i < 16)
  | .thermalShutdown o | .outputFault o _ _ | .fieldTestPulse o _ | .outputThermalRestart o => wfOutput o
  | .logicSilence | .fieldFramesReturn | .lplusMonitor | .sfpInsertRemove _ _ _ | .temperatureThreshold _ | .firmwareWatchdog => true
  | .sustoWorksProcedure _ _ => true

end Sys2Proof
end

