-- ==== Sys2Proof/Certificates/Slice0/Obligations.lean ====
section
/-!
DEFINITION. The statements about the module, for the provers: one Prop each, named for what it states.
-/
open Sys2Proof Sys2Proof.Machine

/-- A step runs the command at the front of the queue with the rest of the queue; on an empty queue the module idles
(95_what_each_step_holds.md). -/
def Obligations.StepRunsFrontCommand : Prop :=
  (∀ (c : Instr) (rest : List Instr) (s : State), s.pending = c :: rest → step s = exec c { s with pending := rest }) ∧
  (∀ s : State, s.pending = [] → step s = .next s)

/-- Every step answers a next state, takes exactly the front command off the queue and puts none on it
(95_what_each_step_holds.md). -/
def Obligations.EveryStepTakesOneCommandOff : Prop :=
  ∀ s : State, ∃ t : State, step s = .next t ∧ t.pending = s.pending.drop 1

/-- The delivered module is DORMANT and PROVISIONED, clocks and transmitters off, safety outputs open, and meets the
invariants (12_clocks_time_power.md, power states (R441); 14_configuration_and_lifecycle.md, life cycle (R507);
13_waizhar_mailboxes.md, BAR0 (R449); 10_hedgerow_safety.md, requests (R379); 03_loop_engine.md, coefficient banks (R111)).
-/
def Obligations.DeliveredModule : Prop :=
  State.reset.sys.st = .dormant ∧ State.reset.sys.life = .provisioned ∧
  State.reset.clk.powC = false ∧ State.reset.clk.powL = false ∧ State.reset.clk.powH = false ∧
  State.reset.clk.lockC = false ∧ State.reset.clk.lockL = false ∧ State.reset.clk.lockH = false ∧
  State.reset.link.txOn = false ∧ State.reset.link.tx = [] ∧ State.reset.safetyOff ∧
  (∀ c ∈ State.reset.mbx.chans, c.sess = none ∧ c.queued = false ∧ c.exec_ = false) ∧
  State.reset.mbx.irq = 0 ∧ State.reset.mbx.irqEn = 0 ∧
  (∀ c ∈ State.reset.arm.cells, c.cmd.st = .block) ∧ State.reset.eng.swapAt = none ∧
  State.reset.safetyInv ∧ State.reset.banksInv

/-- In DORMANT, STANDBY and CONFIG_PENDING both safety outputs are de-energised, whatever command runs
(10_hedgerow_safety.md, requests (R379); 14_configuration_and_lifecycle.md, CONFIG_PENDING (R491); 12_clocks_time_power.md,
power states (R441)). -/
def Obligations.SafetyOutputsStayOff : Prop :=
  ∀ s t : State, s.safetyInv → step s = .next t → t.safetyInv

/-- RETIRED is final: no command gives a retired module another life-cycle state or any key
(14_configuration_and_lifecycle.md, life cycle (R506, R507)). -/
def Obligations.RetiredStaysRetired : Prop :=
  ∀ s t : State, s.retiredInv → step s = .next t → t.retiredInv

/-- Every step keeps 8,192 words in each coefficient bank (03_loop_engine.md, coefficient banks (R111, R116)). -/
def Obligations.BanksKeepTheirSize : Prop :=
  ∀ s t : State, s.banksInv → step s = .next t → t.banksInv

/-- A completed analog conversion joins its input's frame, and a code at either end of the range sets the input's OVR flag
(02_measurement_and_angle.md, analog inputs (R47, R48, R50, R51, R53, R56)). -/
def Obligations.AnalogConversionTaken : Prop :=
  ∀ (s : State) (k : Nat) (smp : Sample) (x : AIn), s.awake = true → s.aiOn k = true → -32768 ≤ smp.code → smp.code ≤ 32767 →
    s.meas.ai[s.aiOf k]? = some x → s.convDue k smp = true →
    ∃ t : State, exec (.analogConversionComplete k smp) s = .next t ∧
      t = { s with meas := t.meas, acq := t.acq, prot := t.prot, link := t.link, pub := t.pub } ∧
      t.meas = { s.meas with ai := t.meas.ai } ∧ OnlyAt (s.aiOf k) s.meas.ai t.meas.ai ∧
      t.meas.ai[s.aiOf k]? = some { x with
        acc := (smp.at_, s.pairOdd k, smp.code) :: x.acc, odd := s.pairOdd k, code := smp.code, stamp := smp.at_, live := true } ∧
      (smp.code = -32768 ∨ smp.code = 32767 → t.rcBit 10 0 (s.aiOf k) = true) ∧
      (smp.code ≠ -32768 → smp.code ≠ 32767 → evGet t.pub.ev 10 0 = evGet s.pub.ev 10 0)

/-- What a decimator output, a stuck bit stream and its return do to one sigma-delta input (02_measurement_and_angle.md,
sigma-delta inputs (R58, R59, R60, R61, R62)). -/
def Obligations.SigmaDeltaInputEvents : Prop :=
  ∀ (s : State) (k : Nat) (x : SdIn), s.awake = true → k < 8 → s.pb gMEA 40 k = true → s.pb gMEA 46 = true →
    s.meas.sd[k]? = some x →
    (∀ (bits : List Bool) (age : Nat), s.sdDue k bits age x = true → ∃ (t : State) (y : SdIn), exec (.sigmaDeltaOutput k bits age) s = .next t ∧
      t = { s with meas := { s.meas with sd := t.meas.sd } } ∧ OnlyAt k s.meas.sd t.meas.sd ∧ t.meas.sd[k]? = some y ∧
      y = { x with integ := y.integ, comb := y.comb, y := y.y, age := age, outs := min 255 (x.outs + 1), settle := x.settle - 1 } ∧
      (∀ i c : Int, s.pn gMEA 41 k = 1 → x.integ = [i] → x.comb = [c] →
        y.integ = [i + (bits.map (fun b => if b then 1 else -1)).sum] ∧ y.comb = y.integ ∧
        y.y = fOfQ (i + (bits.map (fun b => if b then 1 else -1)).sum - c) (s.pn gMEA 42 k))) ∧
    (∃ (t : State) (y : SdIn), exec (.sdFault k) s = .next t ∧ t = { s with meas := { s.meas with sd := t.meas.sd } } ∧
      OnlyAt k s.meas.sd t.meas.sd ∧ t.meas.sd[k]? = some y ∧ y = { x with fault := true, settle := s.sdReturn k } ∧
      s.sdValid k y = false) ∧
    (x.fault = true → x.settle = 0 → ∃ (t : State) (y : SdIn), exec (.sdValidityReturn k) s = .next t ∧
      t = { s with meas := { s.meas with sd := t.meas.sd } } ∧ OnlyAt k s.meas.sd t.meas.sd ∧ t.meas.sd[k]? = some y ∧
      y = { x with fault := false })

/-- A sampled-value message is taken, counted or ignored by its MAC, APPID, confRev and port (R64). -/
def Obligations.SampledValueMessageAccepted : Prop :=
  ∀ (s : State) (m : SvMessage), s.awake = true →
    ∃ t : State, exec (.sampledValueMessage m) s = .next t ∧ t = { s with meas := { s.meas with sv := t.meas.sv } } ∧
      t.meas.sv.length = s.meas.sv.length ∧
      ∀ (k : Nat) (v : SvIn), s.meas.sv[k]? = some v → ∃ w : SvIn, t.meas.sv[k]? = some w ∧
        (s.pb gMEA 80 k = false ∨ s.pn gMEA 81 k ≠ m.mac ∨ s.pn gMEA 82 k ≠ m.appid ∨
          (s.pn gMEA 88 k ≠ 2 ∧ m.portE2 = !decide (s.pn gMEA 88 k = 1)) → w = v) ∧
        (s.pb gMEA 80 k = true → s.pn gMEA 81 k = m.mac → s.pn gMEA 82 k = m.appid →
          (s.pn gMEA 88 k = 2 ∨ m.portE2 = decide (s.pn gMEA 88 k = 1)) →
            (s.pn gMEA 83 k ≠ m.confRev → w = { v with misRev := wrap32 (v.misRev + 1) }) ∧
            (s.pn gMEA 83 k = m.confRev → m.asdus.length = (if s.pn gMEA 84 k = 0 then 1 else 8) → w = { v with buf := w.buf } ∧
              (∀ p ∈ v.buf, p ∈ w.buf) ∧
              (∀ a ∈ m.asdus, v.lastT < s.svTime k a.cnt → (s.svTime k a.cnt, a, m.synch) ∈ w.buf)))

/-- A crossing timeout clears VALID, sets the frequency to 0 and sets TIMEOUT of that tracker alone (R79). -/
def Obligations.TrackerCrossingTimeout : Prop :=
  ∀ (s : State) (k : Nat) (x : Trk), s.engOn = true → k < 4 → s.pb gANG 1 k = true → s.trk[k]? = some x →
    x.sinceX + s.pn gANG 9 k ≤ s.now →
    ∃ (t : State) (y : Trk), exec (.crossingTimeout k) s = .next t ∧ t = { s with trk := t.trk, pub := t.pub } ∧
      t.pub = { s.pub with ev := t.pub.ev } ∧ t.rcBit 44 k 4 = true ∧
      OnlyAt k s.trk t.trk ∧ t.trk[k]? = some y ∧ y.set = { x.set with valid := false, freq := 0 } ∧
      y.ivs = [] ∧ y.action = x.action ∧ y.evalDue = x.evalDue ∧ y.pulseEnd = x.pulseEnd

/-- An overrun ends the run of its group with nothing published and no state kept, and it is counted (03_loop_engine.md,
overruns (R102, R103, R105, R107); 03_loop_engine.md, engine status word DIA.060). -/
def Obligations.GroupOverrunDiscardsRun : Prop :=
  ∀ (s : State) (g : Grp) (r : Run), s.eng.runs[g.ix]? = some (some r) → g ≠ .background → r.dueF ≤ s.fr + 1 →
    ∃ t : State, exec (.groupOverrun g) s = .next t ∧
      t = { s with eng := t.eng, kern := t.kern, pub := t.pub, sys := t.sys, peat := t.peat } ∧
      t.eng = { s.eng with runs := s.eng.runs.set g.ix none, totals := t.eng.totals, frmRun := t.eng.frmRun, conRun := t.eng.conRun
                           numericN := t.eng.numericN, numericI := t.eng.numericI, spans := s.eng.spans.modify g.ix (max (Config.overrunSpan g.ix r.startF)) } ∧
      t.kern = (if g = .control then { s.kern with next := none, req := s.kern.req.or s.kern.reqLat, reqLat := none, due4 := false, due6 := false } else s.kern) ∧
      (∀ n, s.eng.totals[g.ix]? = some n → t.eng.totals[g.ix]? = some (wrap32 (n + 1))) ∧ OnlyAt g.ix s.eng.totals t.eng.totals ∧
      t.eng.frmRun = (if g = .frame then min 15 (s.eng.frmRun + 1) else s.eng.frmRun) ∧
      t.eng.conRun = (if g = .control then min 15 (s.eng.conRun + 1) else s.eng.conRun) ∧
      t.rcBit 60 0 (8 + g.ix) = true ∧
      (s.stated g.ix < Config.overrunSpan g.ix r.startF → t.rcBit 60 0 14 = true) ∧
      (Config.overrunSpan g.ix r.startF ≤ s.stated g.ix →
        (g = .supervisory → LoggedOne s t 0x50) ∧ (g ≠ .supervisory → t.sys = s.sys ∧ t.peat = s.peat))

/-- LOOP_OVERRUN stands for a group once its consecutive overruns reach the group's threshold (03_loop_engine.md, overruns
(R104)). -/
def Obligations.LoopOverrunRaises : Prop :=
  ∀ s : State,
    (s.pn gLPE 2 ≤ s.eng.frmRun →
      exec (.loopOverrunRaised .frame) s = .next { s with eng := { s.eng with loopF := true } }) ∧
    (s.pn gLPE 3 ≤ s.eng.conRun →
      exec (.loopOverrunRaised .control) s = .next { s with eng := { s.eng with loopC := true } }) ∧
    (∀ t, exec (.loopOverrunRaised .frame) s = .next t → (t.condsF.contains (12, true) = (t.eng.loopF || t.eng.loopC)))

/-- How a background run starts, ends, is found late, and how an uncorrectable word marks a run (03_loop_engine.md,
background group (R96, R101, R106, R586); 03_loop_engine.md, engine SRAM (R94)). -/
def Obligations.BackgroundGroupEvents : Prop :=
  ∀ s : State,
    (s.engOn = true → s.eng.runs[3]? = some none →
      ∃ (t : State) (r : Run), exec .backgroundRunStart s = .next t ∧
        t = { s with eng := { s.eng with bgB := s.bankAt s.fr, bgPrev := s.eng.bgStart, bgStart := some s.now, bgEnded := false,
                                         bgLate := false, runs := s.eng.runs.set 3 (some r), readBad := s.eng.readBad.set 3 false } } ∧
        r.startF = s.fr ∧ r.bad = false) ∧
    (∀ r : Run, s.eng.runs[3]? = some (some r) →
      exec .backgroundRunEnd s = .next { s with eng := { s.eng with bgEnded := true } } ∧
      (∀ b : Nat, s.eng.bgStart = some b → s.eng.bgEnded = false → s.eng.bgLate = false → b + s.pn gLPE 6 ≤ s.now →
        ∃ t : State, exec .backgroundWatchdog s = .next t ∧
          t = { s with eng := { s.eng with bgLate := true }, pub := { s.pub with ev := t.pub.ev } } ∧ t.rcBit 60 0 13 = true)) ∧
    (∀ (g : Grp) (r : Run), s.eng.runs[g.ix]? = some (some r) →
      exec (.engineSramUncorrectable g) s = .next { s with eng := { s.eng with
        badGrp := s.eng.badGrp.set g.ix true, readBad := s.eng.readBad.set g.ix true
        runs := s.eng.runs.set g.ix (some { r with bad := true }) } })

/-- A cell becomes refresh-due, refresh-overdue, excluded for its gate supply, or excluded as stale, and no other cell
changes (05_arm_modulation.md, refresh and exclusion (R196, R199, R201, R202)). -/
def Obligations.CellSupervisionEvents : Prop :=
  ∀ (s : State) (c : Nat) (y : Cell), s.arm.cells[c]? = some y → y.conf = true →
    (s.pn gARM 20 ≤ y.idle * s.tf → ∃ t, exec (.refreshDue c) s = .next t ∧
      t = { s with arm := { s.arm with cells := t.arm.cells } } ∧ OnlyAt c s.arm.cells t.arm.cells ∧
      t.arm.cells[c]? = some { y with due := true }) ∧
    (y.due = true → y.overdue = false → y.excluded = false → 2 * s.pn gARM 20 ≤ y.idle * s.tf →
      ∃ t, exec (.refreshOverdue c) s = .next t ∧
        t = { s with arm := { s.arm with cells := t.arm.cells }, pub := { s.pub with ev := t.pub.ev } } ∧
        OnlyAt c s.arm.cells t.arm.cells ∧ t.arm.cells[c]? = some { y with overdue := true } ∧ t.rcBit 101 c 19 = true) ∧
    (∀ f, y.gsSince = some f → s.pn gARM 22 ≤ (s.fr - f) * s.tf → ∃ t, exec (.gateSupplyLow c) s = .next t ∧
      t = { s with arm := { s.arm with cells := t.arm.cells } } ∧ OnlyAt c s.arm.cells t.arm.cells ∧
      t.arm.cells[c]? = some { y with exGate := true, overdue := false } ∧ (t.cell c).excluded = true) ∧
    (s.pn gARM 23 ≤ y.noStat → ∃ t, exec (.statusStale c) s = .next t ∧
      t = { s with arm := { s.arm with cells := t.arm.cells } } ∧ OnlyAt c s.arm.cells t.arm.cells ∧
      t.arm.cells[c]? = some { y with exStale := true, overdue := false } ∧ (t.cell c).excluded = true)

/-- At the end of a drift window every configured cell's largest drift is recorded and a new reference pair is taken
(07_nesting_and_fen_ledger.md, drift (R287)). -/
def Obligations.DriftWindowTakesNewReference : Prop :=
  ∀ s : State, s.engOn = true → s.isLeaf = true → s.nest.winStart + s.pn gNST 62 ≤ s.now →
    ∃ t : State, exec .driftWindowEnd s = .next t ∧
      t = { s with arm := { s.arm with cells := t.arm.cells }, nest := { s.nest with winStart := s.now } } ∧
      t.arm.cells.length = s.arm.cells.length ∧
      ∀ (c : Nat) (y : Cell), s.arm.cells[c]? = some y →
        t.arm.cells[c]? = some (if y.conf then { y with lastDr := y.maxDr, maxDr := 0, refPair := y.pair, drift := 0 } else y)

/-- A returned Crihel frame is discarded when its FNUM was not sent; else its usable statuses are kept and the others counted
(06_crihel_link.md, statuses and errors (R28, R234, R235, R260)). -/
def Obligations.ReturnFrameStatuses : Prop :=
  ∀ (s : State) (p : Nat) (bytes : List Byte) (x : Port), s.lanesOn = true → p < 32 → s.cellPort p = true → bytes.length = 276 →
    s.link.ports[p]? = some x →
    (misaligned s.fr (extendF s.fr (beAt bytes 0 4)) = true ∨ extendF s.fr (beAt bytes 0 4) ∉ x.sent.take (if x.split then 3 else 2) →
      ∃ t, exec (.crihelReturnFrame p bytes) s = .next t ∧ t = { s with link := { s.link with ports := t.link.ports } } ∧
        OnlyAt p s.link.ports t.link.ports ∧ t.link.ports[p]? = some { x with cMis := wrap32 (x.cMis + 1), linkUp := true }) ∧
    (misaligned s.fr (extendF s.fr (beAt bytes 0 4)) = false → extendF s.fr (beAt bytes 0 4) ∈ x.sent.take (if x.split then 3 else 2) →
      ∃ (t : State) (y : Port), exec (.crihelReturnFrame p bytes) s = .next t ∧
        t = { s with link := t.link, twin := t.twin, pub := { s.pub with ev := t.pub.ev } } ∧
        OnlyAt p s.link.ports t.link.ports ∧ t.link.tx = s.link.tx ∧ t.link.txOn = s.link.txOn ∧
        t.link.ports[p]? = some y ∧ y.got = true ∧ y.linkUp = true ∧ y.credits = x.credits ∧ y.sent = x.sent ∧
        y.cCrc = (if crc32 (bytes.take 144) = BitVec.ofNat 32 (beAt bytes 144 4) then x.cCrc else wrap32 (x.cCrc + 1)) ∧
        (crc32 (bytes.take 144) ≠ BitVec.ofNat 32 (beAt bytes 144 4) → t.rcBit 120 p 2 = true) ∧
        let f := extendF s.fr (beAt bytes 0 4)
        let base := beAt bytes 8 4 / 128 % 32
        let slot := fun (i : Nat) => (bytes.drop (148 + 8 * i)).take 8
        let from_ := if s.topoOf p = 4 then p else beAt bytes 4 4 % 32
        let chan := fun (i : Nat) => s.chanAt from_ (s.posFrom from_ (base + i) ((beAt bytes 4 4).testBit 7))
        y.cRej = wrap32 (x.cRej + ((List.range (min 16 (beAt bytes 8 4 / 4 % 32))).filter (fun i =>
          (slotOf (beAt (slot i) 0 8)).filled && !slotUsable (slot i) (base + i) f)).length) ∧
        ∃ l : List (Nat × Nat × Slot), t.link.stq = s.link.stq ++ l ∧
          (∀ q ∈ l, q.1 = f ∧ ∃ i far, i < min 16 (beAt bytes 8 4 / 4 % 32) ∧ chan i = some q.2.1 ∧ slotUsable (slot i) (base + i) f = true ∧
            q.2.2 = { slotOf (beAt (slot i) 0 8) with far := far, dep := beAt bytes 12 4 / 1024 % 4096 }) ∧
          (∀ i c, i < min 16 (beAt bytes 8 4 / 4 % 32) → slotUsable (slot i) (base + i) f = true → chan i = some c →
            ∃ q ∈ l, q.1 = f ∧ q.2.1 = c ∧ q.2.2.vcap = (slotOf (beAt (slot i) 0 8)).vcap ∧ q.2.2.st = (slotOf (beAt (slot i) 0 8)).st))

/-- A reply restores its request's credit; a request written off restores it too, is counted and sets MSG_TIMEOUT
(06_crihel_link.md, messages (R256)). -/
def Obligations.MessageCreditsReturn : Prop :=
  ∀ (s : State) (p : Nat) (x : Port), s.link.ports[p]? = some x →
    (∀ m : Msg, (∃ r ∈ x.reqs, r.1 = m.seq ∧ m.mtype = r.2.2.mtype + 0x80) →
      ∃ t, exec (.messageReply p m) s = .next t ∧
        t = { s with link := { s.link with ports := t.link.ports }, arm := { s.arm with cells := t.arm.cells } } ∧
        OnlyAt p s.link.ports t.link.ports ∧
        t.link.ports[p]? = some { x with credits := min 8 (x.credits + 1), reqs := x.reqs.filter (fun r => r.1 != m.seq) } ∧
        (m.mtype ≠ 0x83 → t.arm.cells = s.arm.cells) ∧
        (∀ (q : Msg) (k c : Nat) (y : Cell), x.reqs = [(m.seq, k, q)] → q.mtype = 3 → q.addr = 0 →
          s.chanAt p (s.posFrom p q.target s.twin.sideB) = some c → s.arm.cells[c]? = some y → OnlyAt c s.arm.cells t.arm.cells ∧
          t.arm.cells[c]? = some (if m.addr = 0 ∧ beAt m.payload 0 4 = y.arrH then y else { y with exIdent := true, overdue := false }))) ∧
    (∀ m : Msg, (∀ r ∈ x.reqs, r.1 ≠ m.seq) → exec (.messageReply p m) s = .next s) ∧
    (∀ seq : Nat, s.isSup s.fr = true → (∃ r ∈ x.reqs, r.1 = seq ∧ r.2.1 + s.pn gLNK 21 ≤ s.fr) →
      ∃ t, exec (.msgTimeout p seq) s = .next t ∧
        t = { s with link := { s.link with ports := t.link.ports }, pub := { s.pub with ev := t.pub.ev } } ∧
        OnlyAt p s.link.ports t.link.ports ∧
        t.link.ports[p]? = some { x with credits := min 8 (x.credits + 1), reqs := x.reqs.filter (fun r => r.1 != seq)
                                         cOff := wrap32 (x.cOff + 1) } ∧ t.rcBit 120 p 4 = true)

/-- A missing return frame is counted, a lost cell raises LINK_LOSS of its port, a silent nest link raises NEST_LOSS of that
link (06_crihel_link.md, losses (R260, R261); 07_nesting_and_fen_ledger.md, NEST_LOSS (R289)). -/
def Obligations.PortAndNestLosses : Prop :=
  ∀ s : State,
    (∀ (p : Nat) (x : Port), s.link.ports[p]? = some x → s.awake = true → p < 32 → s.cellPort p = true → x.got = false → x.sent ≠ [] →
      ∃ t, exec (.returnFrameMissing p) s = .next t ∧ t = { s with link := { s.link with ports := t.link.ports } } ∧
        OnlyAt p s.link.ports t.link.ports ∧
        t.link.ports[p]? = some { x with cMiss := wrap32 (x.cMiss + 1), got := true, linkUp := false }) ∧
    (∀ (p : Nat) (x : Port), s.link.ports[p]? = some x → p < 32 → (∃ c ∈ s.portCells p, s.pn gLNK 20 ≤ (s.cell c).noStat) →
      ∃ t, exec (.linkLoss p) s = .next t ∧ t = { s with link := { s.link with ports := t.link.ports } } ∧
        OnlyAt p s.link.ports t.link.ports ∧ t.link.ports[p]? = some { x with loss := true }) ∧
    (s.hasParent = true → s.pn gNST 10 ≤ s.nest.par.miss →
      ∃ t, exec (.nestLoss 32) s = .next t ∧
        t = { s with nest := { s.nest with par := { s.nest.par with loss := true } }, link := { s.link with ports := t.link.ports } } ∧
        (∀ (p : Nat) (x : Port), s.link.ports[p]? = some x →
          t.link.ports[p]? = some (if p < 32 ∧ p ∈ s.parPorts then { x with linkUp := false } else x))) ∧
    (∀ (i : Nat) (k : Nst), s.nest.kids[i]? = some k → i < 32 → s.kidIdx.contains i = true → s.pn gNST 10 ≤ k.miss →
      ∃ t, exec (.nestLoss i) s = .next t ∧
        t = { s with nest := { s.nest with kids := t.nest.kids }, link := { s.link with ports := t.link.ports } } ∧
        OnlyAt i s.nest.kids t.nest.kids ∧ t.nest.kids[i]? = some { k with loss := true } ∧
        (∀ (p : Nat) (x : Port), s.link.ports[p]? = some x →
          t.link.ports[p]? = some (if p < 32 ∧ p ∈ s.kidPorts i then { x with linkUp := false } else x)))

/-- A valid NEST_DOWN frame is taken with its demand, acknowledgement and report; a misaligned or foreign one is counted or
marked (07_nesting_and_fen_ledger.md, nest frames (R28, R267, R268, R270); 01_converter_tree.md, tree (R21, R23)). -/
def Obligations.NestDownObeyed : Prop :=
  ∀ (s : State) (p : Nat) (b : List Byte) (off : Int), s.lanesOn = true → s.hasParent = true → s.parPorts.contains p = true →
    b.length = 44 → crcTail b = true → (nestHdr b).ftype = 4 →
    (misaligned s.fr (extendF s.fr (nestHdr b).fnum) = true →
      exec (.nestDown p b off) s = .next { s with link := (s.nestSync p).link, nest := { s.nest with par := { s.nest.par with
        cMis := wrap32 (s.nest.par.cMis + 1) } } }) ∧
    (misaligned s.fr (extendF s.fr (nestHdr b).fnum) = false → (nestHdr b).digest ≠ s.topoDigest →
      exec (.nestDown p b off) s = .next { s with link := (s.nestSync p).link, nest := { s.nest with par := { s.nest.par with topoBad := true } } }) ∧
    (misaligned s.fr (extendF s.fr (nestHdr b).fnum) = false → (nestHdr b).digest = s.topoDigest →
      s.nest.par.obeys (nestHdr b) (extendF s.fr (nestHdr b).fnum) = true → s.nest.par.fresh (nestHdr b) (portRank p) = true →
      ∃ t, exec (.nestDown p b off) s = .next t ∧ t.nest.down = some (downOf s.fr b) ∧ t.nest.parentAck = (downOf s.fr b).ack ∧
        t.nest.par.demand = (downOf s.fr b).demand ∧ t.nest.par.gotNow = some (portRank p) ∧ t.nest.kids = s.nest.kids ∧
        t.link = (s.nestSync p).link ∧
        t = { s with clk := t.clk, link := t.link, meas := t.meas, arm := t.arm, nest := t.nest, acq := t.acq, twin := t.twin, pub := t.pub
                     sys := t.sys, peat := t.peat }) ∧
    (misaligned s.fr (extendF s.fr (nestHdr b).fnum) = false → (nestHdr b).digest = s.topoDigest →
      s.nest.par.fresh (nestHdr b) (portRank p) = false → exec (.nestDown p b off) s = .next (s.nestSync p))

/-- A child's valid NEST_UP frame becomes its newest report; a misaligned or foreign one is counted or marked
(07_nesting_and_fen_ledger.md, nest frames (R28, R267, R268, R271, R272); 01_converter_tree.md, tree (R21, R23)). -/
def Obligations.NestUpTaken : Prop :=
  ∀ (s : State) (p i : Nat) (b : List Byte) (k : Nst), s.kidOfPort p = some i → s.nest.kids[i]? = some k → s.lanesOn = true →
    b.length = 168 → crcTail b = true → (nestHdr b).ftype = 5 →
    (misaligned s.fr (extendF s.fr (nestHdr b).fnum) = true →
      ∃ t, exec (.nestUp p b) s = .next t ∧ t = { s with link := (s.nestSync p).link, nest := { s.nest with kids := t.nest.kids } } ∧
        OnlyAt i s.nest.kids t.nest.kids ∧ t.nest.kids[i]? = some { k with cMis := wrap32 (k.cMis + 1) }) ∧
    (misaligned s.fr (extendF s.fr (nestHdr b).fnum) = false → (nestHdr b).digest ≠ s.topoDigest →
      ∃ t, exec (.nestUp p b) s = .next t ∧ t = { s with link := (s.nestSync p).link, nest := { s.nest with kids := t.nest.kids } } ∧
        OnlyAt i s.nest.kids t.nest.kids ∧ t.nest.kids[i]? = some { k with topoBad := true }) ∧
    (misaligned s.fr (extendF s.fr (nestHdr b).fnum) = false → (nestHdr b).digest = s.topoDigest →
      k.obeys (nestHdr b) (extendF s.fr (nestHdr b).fnum) = true → k.fresh (nestHdr b) (portRank p) = true →
      ∃ (t : State) (y : Nst), exec (.nestUp p b) s = .next t ∧ t.nest.kids[i]? = some y ∧ OnlyAt i s.nest.kids t.nest.kids ∧
        t.nest.par = s.nest.par ∧ y.reps.head? = some (upOf s.fr b) ∧
        y.lastCum = [(upOf s.fr b).arm0.cum, (upOf s.fr b).arm1.cum] ∧ y.gotNow = some (portRank p) ∧
        (∀ r ∈ y.reps.drop 1, r.epoch ≠ (upOf s.fr b).epoch)) ∧
    (misaligned s.fr (extendF s.fr (nestHdr b).fnum) = false → (nestHdr b).digest = s.topoDigest →
      k.fresh (nestHdr b) (portRank p) = false → exec (.nestUp p b) s = .next (s.nestSync p))

/-- A source is raised after F + 1 samples with its condition and cleared after F + 1 without; clearing leaves every latch
(08_bramble_protection.md, sources and actions (R292, R296, R301)). -/
def Obligations.BrambleSourceRaisedAndCleared : Prop :=
  ∀ (s : State) (k : Nat), k < 64 → s.prot.raised.length = 64 → s.prot.raisedN.length = 64 →
    s.prot.latch.length = 16 → (∀ l ∈ s.prot.latch, l.length = 4) →
    (s.filterOf k + 1 ≤ s.prot.onN.getD k 0 → s.srcUp k = false →
      ∃ t, exec (.sourceRaised k) s = .next t ∧ t.srcUp k = true ∧ OnlyAt k s.prot.raised t.prot.raised ∧
        t.prot.raisedN.getD k 0 = wrap32 (s.prot.raisedN.getD k 0 + 1) ∧
        (∀ g j, s.prot.has g j = true → t.prot.has g j = true) ∧
        (∀ g, g < 16 → (s.matrix k g = .block → t.prot.has g 0 = true) ∧ (s.matrix k g = .bypass → t.prot.has g 1 = true) ∧
          (s.matrix k g = .breaker → t.prot.has g 2 = true) ∧ (s.matrix k g = .selfFail → t.prot.has g 3 = true)) ∧
        t.clk = s.clk ∧ t.meas = s.meas ∧ t.eng = s.eng ∧ t.nest = s.nest ∧ t.acq = s.acq ∧ t.fio = s.fio ∧ t.hw = s.hw ∧ t.trk = s.trk) ∧
    (s.filterOf k + 1 ≤ s.prot.offN.getD k 0 → s.srcUp k = true →
      exec (.sourceCleared k) s = .next { s with prot := { s.prot with raised := s.prot.raised.set k false, acted := s.prot.acted.set k false } })

/-- A PLL locks, loses lock and regains it: its domains, its backup, its count, its fault condition, and SO2 with PLL-L
(12_clocks_time_power.md, PLLs (R421, R424, R425, R426)). -/
def Obligations.PllLockLossRelock : Prop :=
  ∀ (s : State) (p : Pll),
    (s.clk.pow p = true → s.clk.lock p = false → s.clk.back p = false →
      ∃ t, exec (.pllLock p) s = .next t ∧ t = { s with clk := t.clk } ∧ t.clk = s.clk.setPll p true true false ∧ t.clk.lock p = true) ∧
    (s.up = true → s.clk.pow p = true → s.clk.lock p = true → s.clk.pllStand.length = 3 → s.clk.lossN.length = 3 →
      ∃ t, exec (.pllLoss p) s = .next t ∧ t.clk.pow p = true ∧ t.clk.lock p = false ∧ t.clk.back p = true ∧
        t.clk.pllStand = s.clk.pllStand.set p.ix true ∧
        t.clk.lossN = s.clk.lossN.modify p.ix (fun n => wrap32 (n + 1)) ∧ t.rcBit 200 0 (9 + p.ix) = true ∧
        (p = .l → (t.hdg.out 1).hs = false ∧ (t.hdg.out 1).ls = false) ∧
        t.meas = s.meas ∧ t.eng = s.eng ∧ t.prot = s.prot ∧ t.acq = s.acq ∧ t.fio = s.fio) ∧
    (s.clk.pow p = true → s.clk.back p = true →
      ∃ t, exec (.pllRelock p) s = .next t ∧ t = { s with clk := t.clk } ∧ t.clk.lock p = true ∧ t.clk.back p = false ∧
        t.clk.pllStand = s.clk.pllStand.set p.ix false ∧ t.clk.lossN = s.clk.lossN)

/-- REF falls back outside 604 to 617 counts; REF_IN is lost with the tuning held and resumes (12_clocks_time_power.md,
reference (R416, R417)). -/
def Obligations.ReferenceClockEvents : Prop :=
  ∀ s : State, s.up = true →
    (∀ n : Nat, n < 604 ∨ 617 < n → exec (.refFallback n) s = .next { s with clk := { s.clk with refFallback := true } }) ∧
    (∀ n : Nat, 604 ≤ n → n ≤ 617 → exec (.refFallback n) s = .next s) ∧
    (s.pn gTIM 1 = 1 →
      (∃ t, exec .refinLost s = .next t ∧ t.rcBit 200 0 20 = true ∧
        t = { s with clk := { s.clk with refinLocked := false, tuneHeld := true }, pub := { s.pub with ev := t.pub.ev } }) ∧
      exec .refinResume s = .next { s with clk := { s.clk with refinLocked := true, tuneHeld := false } })

/-- A PTP, IRIG-B or PPS measurement is taken, never steps time while RUNNING or within TIM.024, and keeps the rate in 200
ppm (12_clocks_time_power.md, station time (R428, R430, R432, R436, R437, R438)). -/
def Obligations.TimeMeasurementsKeepLimits : Prop :=
  ∀ (s : State) (m : PtpMsg) (i : IrigCode) (e : TimeMeas), s.up = true → s.clk.srcSeen.length = 6 → -200000 ≤ s.clk.rho →
    s.clk.rho ≤ 200000 →
    (s.ptpGood m = true →
      (s.ptpOther m = true → exec (.ptpMessage m) s = .next s) ∧
      (s.ptpOther m = false → s.clk.ptpM.length = 2 → ∃ t, exec (.ptpMessage m) s = .next t ∧
        t = { s with clk := t.clk, sys := t.sys, peat := t.peat, pub := t.pub, meas := t.meas, arm := t.arm } ∧
        t.clk.ptpM[m.port]? = some (m.master, m.rank) ∧ t.clk.srcSeen[m.port]? = some (some s.now) ∧
        (s.srcOk (2 - m.port) = false → t.clk.master = m.master ∧ t.clk.masterE2 = m.e2) ∧
        (s.running = true ∨ m.offset.natAbs ≤ s.pn gTIM 24 →
          t.clk.tai = s.clk.tai ∧ t.clk.frame = s.clk.frame ∧ t.sys = s.sys ∧ t.meas = s.meas ∧ t.arm = s.arm) ∧
        -200000 ≤ t.clk.rho ∧ t.clk.rho ≤ 200000)) ∧
    (∀ pps : Bool, (s.raw gTIM 20).getLsbD (if pps then 2 else 3) = true → i.am = false → i.code ≤ 7 →
      ∃ t, exec (.irigbFrame i pps) s = .next t ∧
        t = { s with clk := t.clk, sys := t.sys, peat := t.peat, pub := t.pub, meas := t.meas, arm := t.arm } ∧
        t.clk.srcSeen[if pps then 2 else 3]? = some (some s.now) ∧ (i.leap = true → t.clk.leapArmed = true) ∧
        (s.running = true ∨ (s.irigOff i).natAbs ≤ s.pn gTIM 24 →
          t.clk.tai = s.clk.tai ∧ t.clk.frame = s.clk.frame ∧ t.sys = s.sys ∧ t.meas = s.meas ∧ t.arm = s.arm) ∧
        -200000 ≤ t.clk.rho ∧ t.clk.rho ≤ 200000) ∧
    (∀ sec : Int, s.clk.setTai = some sec → s.srcOk 3 = false → (s.raw gTIM 20).getLsbD 4 = true →
      ∃ t, exec (.ppsInEdge e) s = .next t ∧
        t = { s with clk := t.clk, sys := t.sys, peat := t.peat, pub := t.pub, meas := t.meas, arm := t.arm } ∧
        t.clk.setTai = some (sec + 1000000000) ∧ t.clk.srcSeen[4]? = some (some s.now) ∧
        (s.running = true → t.clk.tai = s.clk.tai ∧ t.clk.frame = s.clk.frame ∧ t.sys = s.sys ∧ t.meas = s.meas ∧ t.arm = s.arm) ∧
        -200000 ≤ t.clk.rho ∧ t.clk.rho ≤ 200000)

/-- The first measurement in ACQUIRING beyond TIM.024, outside RUNNING, steps station time by the offset and sets STEPPED
(12_clocks_time_power.md, station time (R25, R430)). -/
def Obligations.FirstMeasurementStepsTime : Prop :=
  ∀ (s : State) (m : PtpMsg), s.ptpGood m = true → s.running = false → m.e2 = false →
    s.clk.master = m.master → s.clk.masterE2 = false → s.ptpOther m = false → s.srcOk 2 = false → s.clk.srcSeen.length = 6 →
    s.clk.tstate = .acquiring → s.clk.fresh = true → s.clk.source = 1 → s.pn gTIM 24 < m.offset.natAbs →
    0 ≤ ((s.clk.tai : Int) + m.offset) →
    ∃ t, exec (.ptpMessage m) s = .next t ∧
      (t.clk.tai : Int) * 4294967296 + t.clk.frac = ((s.clk.tai : Int) + m.offset) * 4294967296 + s.clk.frac + m.frac ∧
      t.clk.frac < 4294967296 ∧ t.clk.frame = t.clk.tai / s.tf ∧ t.rcBit 201 0 17 = true ∧ t.clk.fresh = false ∧ LoggedOne s t 0x51

/-- How station time becomes LOCKED, HOLDOVER or FREE, a leap second is taken, and PPS_OUT is driven
(12_clocks_time_power.md, station time (R428, R429, R434, R437, R439)). -/
def Obligations.StationTimeStates : Prop :=
  ∀ s : State,
    (s.up = true → s.clk.tstate = .acquiring → 16 ≤ s.clk.good → ∃ t, exec .timeLocked s = .next t ∧ t = { s with clk := t.clk } ∧
      t.clk.tstate = .locked ∧ t.clk.tai = s.clk.tai ∧ t.clk.rho = s.clk.rho ∧ t.clk.source = s.clk.source) ∧
    (∀ k, s.up = true → 1 ≤ k → k ≤ 6 → (s.clk.srcSeen.getD (k - 1) none).isSome = true → s.srcOk k = false → s.clk.source = k →
      s.clk.tstate = .locked → (∀ j, s.srcOk j = false) →
      ∃ t, exec (.timeSourceLost k) s = .next t ∧ t = { s with clk := t.clk } ∧ t.clk.tstate = .holdover ∧ t.clk.source = 0 ∧
        t.clk.rho = s.clk.rhoMean ∧ t.clk.tai = s.clk.tai ∧ t.clk.frame = s.clk.frame) ∧
    (s.up = true → s.clk.tstate = .holdover → s.clk.stateSince + s.pn gTIM 26 ≤ s.now →
      ∃ t, exec .holdoverExpired s = .next t ∧ t = { s with clk := t.clk, pub := { s.pub with ev := t.pub.ev } } ∧
        t.clk.tstate = .free ∧ t.clk.rho = s.clk.rho ∧ t.clk.tai = s.clk.tai ∧ t.rcBit 201 0 10 = true) ∧
    (s.up = true → s.clk.leapArmed = true → ∃ t, exec .leapSecond s = .next t ∧ LoggedOne s t 0x51 ∧
      t.clk = { s.clk with leapArmed := false, leapPending := true, utcOff := s.clk.utcOff + 1 }) ∧
    (s.up = true → s.clk.tstate = .locked ∨ s.clk.tstate = .holdover → s.clk.ppsRise < s.now / 1000000000 * 1000000000 →
      exec (.ppsOut true) s = .next { s with clk := { s.clk with ppsHigh := true, ppsRise := s.now / 1000000000 * 1000000000 } }) ∧
    (s.clk.tstate = .free ∨ s.clk.tstate = .acquiring → exec (.ppsOut true) s = .next s) ∧
    (s.up = true → s.clk.ppsHigh = true → s.clk.ppsRise + s.pn gTIM 30 ≤ s.now →
      exec (.ppsOut false) s = .next { s with clk := { s.clk with ppsHigh := false } })

/-- A safety cycle takes the channel's samples and closes its switch of an output only where nothing demands it off
(10_hedgerow_safety.md, safety cycle and outputs (R359, R362, R371, R374, R378, R379, R383)). -/
def Obligations.SafetyCycleDrivesOwnSwitches : Prop :=
  ∀ (s : State) (b : Bool) (obs : HdgObs), s.sys.st ≠ .dormant → s.hdg.outs.length = 2 →
    ∃ t, exec (.safetyCycle b obs) s = .next t ∧ t = { s with hdg := t.hdg, pub := t.pub, sys := t.sys, peat := t.peat } ∧
      t.sys.st = s.sys.st ∧ (t.hdg.ch b).q = s.hdgQ b obs ∧ (∃ m, (t.hdg.ch b).sent = some m ∧ m.q = s.hdgQ b obs ∧ m.fnDem = (t.hdg.ch b).fnLat ∧
        m.pairDem = (t.hdg.ch b).prLat ∧ m.crc = (t.hdg.ch b).crc) ∧ (t.hdg.ch b).lev = obs.levels ∧ (t.hdg.ch b).brk = obs.breaks ∧
      (t.hdg.ch b).cycles = (s.hdg.ch b).cycles + 1 ∧ (t.hdg.ch (!b)).q = (s.hdg.ch (!b)).q ∧
      (t.hdg.ch (!b)).lev = (s.hdg.ch (!b)).lev ∧ t.hdg.outs.length = 2 ∧
      ∀ k, k < 2 →
        (if b then (t.hdg.out k).ls else (t.hdg.out k).hs) = !t.chOff b k ∧
        (if b then (t.hdg.out k).hs = (s.hdg.out k).hs else (t.hdg.out k).ls = (s.hdg.out k).ls) ∧
        ((if b then (t.hdg.out k).ls else (t.hdg.out k).hs) = true →
          t.hdg.given = true ∧ t.hdg.sa.valid = true ∧ t.hdg.sb.valid = true ∧ t.hdg.sa.crc = t.hdg.sb.crc ∧
          t.hdg.sa.xcmp = false ∧ t.hdg.sb.xcmp = false ∧ t.hdg.sa.clkf = false ∧ t.hdg.sb.clkf = false ∧
          t.hdg.sa.self_ = false ∧ t.hdg.sb.self_ = false ∧
          (t.hdg.out k).stuck = false ∧ (t.hdg.out k).cross = false ∧ (t.hdg.out k).extHi = false ∧ (t.hdg.out k).gnd = false ∧
          (if k = 0 then s.so1Req = false else s.so2Req = false) ∧
          (∀ f, f < 4 → (t.hdg.ch b).fnLat.getD f false = true → t.reacts (s.pn gHDG 41 f) k = false) ∧
          (∀ j, j < 8 → t.hdg.dsF.getD j false = true → s.pairFn j ≠ 0 →
            ∃ r, pairReact (s.pairFn j) = some r ∧ t.reacts r k = false))

/-- XCMP_FAULT and CLOCK_FAULT latch and open both switches of both outputs at once (10_hedgerow_safety.md, channel faults
(R360, R361, R362)). -/
def Obligations.ChannelFaultsOpenBothOutputs : Prop :=
  ∀ (s : State) (b : Bool), s.sys.st ≠ .dormant → s.hdg.outs.length = 2 →
    (3 ≤ (s.hdg.ch b).noMsg ∨ 2 < (s.hdg.ch b).crcBad ∨ (∃ i, i < 6 ∧ s.pn gHDG 81 < (s.hdg.ch b).xErr.getD i 0) →
      ∃ t, exec (.xcmpFault b) s = .next t ∧ t = { s with hdg := t.hdg } ∧ (t.hdg.ch b).xcmp = true ∧ t.safetyOff) ∧
    (∀ d : Int, 200 < d.natAbs →
      ∃ t, exec (.clockFault b d) s = .next t ∧ t = { s with hdg := t.hdg } ∧ (t.hdg.ch b).clkf = true ∧ t.safetyOff) ∧
    (∀ d : Int, d.natAbs ≤ 200 → exec (.clockFault b d) s = .next s)

/-- A cross-link message is held for the next cycle and compared with the channel's own quantities and CRC
(10_hedgerow_safety.md, cross-link (R360)). -/
def Obligations.CrossLinkMessageCompared : Prop :=
  ∀ (s : State) (b : Bool), s.sys.st ≠ .dormant →
    (∀ x : XMsg, ∃ t, exec (.crossLinkMessage b (some x)) s = .next t ∧ t = { s with hdg := t.hdg } ∧
      (t.hdg.ch b).msg = some x ∧ (t.hdg.ch b).noMsg = 0 ∧
      (x.crc = (s.hdg.ch b).crc → (t.hdg.ch b).crcBad = 0) ∧
      (x.crc ≠ (s.hdg.ch b).crc → (t.hdg.ch b).crcBad = min 255 ((s.hdg.ch b).crcBad + 1)) ∧
      t.hdg.ch (!b) = s.hdg.ch (!b) ∧ t.hdg.outs = s.hdg.outs ∧ (t.hdg.ch b).fnLat = (s.hdg.ch b).fnLat) ∧
    (∃ t, exec (.crossLinkMessage b none) s = .next t ∧ t = { s with hdg := t.hdg } ∧ (t.hdg.ch b).msg = none ∧
      (t.hdg.ch b).noMsg = (s.hdg.ch b).noMsg ∧ t.hdg.ch (!b) = s.hdg.ch (!b) ∧ t.hdg.outs = s.hdg.outs)

/-- A raised function latches and opens its outputs; a safe stop reaches SO1 at the end of its delay; a DISC_FAULT acts as
its pair (10_hedgerow_safety.md, demands (R364, R366, R368, R369, R371, R374)). -/
def Obligations.SafetyDemandsOpenOutputs : Prop :=
  ∀ s : State, s.sys.st ≠ .dormant → s.hdg.outs.length = 2 →
    (∀ (b : Bool) (f : Nat), f < 4 → (s.hdg.ch b).cond.getD f false = true → (s.hdg.ch b).fnLat.length = 4 →
      ∃ t, exec (.functionRaised b f) s = .next t ∧ t = { s with hdg := t.hdg } ∧ (t.hdg.ch b).fnLat.getD f false = true ∧
        (∀ k, k < 2 → t.reacts (s.pn gHDG 41 f) k = true →
          (if b then (t.hdg.out k).ls else (t.hdg.out k).hs) = false) ∧
        ((s.hdg.ch b).fnLat.getD f false = false → s.pn gHDG 41 f = 2 → s.hdg.stop = none → s.hdg.so1Off = false →
          t.hdg.stop = some ((s.pn gHDG 42 + 999999) / 1000000))) ∧
    (s.hdg.stop = some 0 →
      ∃ t, exec .safeStopDelayEnd s = .next t ∧ t = { s with hdg := t.hdg } ∧ t.hdg.stop = none ∧ t.hdg.so1Off = true ∧
        (∀ (b : Bool) (f : Nat), f < 4 → (s.hdg.ch b).fnLat.getD f false = true → s.pn gHDG 41 f = 2 →
          (if b then (t.hdg.out 0).ls else (t.hdg.out 0).hs) = false)) ∧
    (∀ k, k < 8 → s.pairFn k ≠ 0 → s.pn gHDG 52 k ≤ s.hdg.dsN.getD k 0 → s.hdg.dsF.length = 8 →
      ∃ t, exec (.discFault k) s = .next t ∧ t = { s with hdg := t.hdg } ∧ t.hdg.dsF.getD k false = true ∧
        (∀ so, so < 2 → (pairReact (s.pairFn k) = none ∨ ∃ r, pairReact (s.pairFn k) = some r ∧ t.reacts r so = true) →
          (t.hdg.out so).hs = false ∧ (t.hdg.out so).ls = false))

/-- A due test of an energised output counts, latches STUCK_ON or CROSS_SHORT, and an output with such a fault is
de-energised (10_hedgerow_safety.md, output tests (R382, R383, R384)). -/
def Obligations.OutputPairTestDetects : Prop :=
  ∀ (s : State) (so : Nat) (obs : PairObs) (o : HOut), s.sys.st ≠ .dormant → so < 2 → s.hdg.outs.length = 2 → s.hdg.outs[so]? = some o →
    s.testSlot so = true →
    (s.chOff false so = false → s.chOff true so = false → obs.cut = false →
      ∃ (t : State) (y : HOut), exec (.outputPairTest so obs) s = .next t ∧ t = { s with hdg := t.hdg } ∧ t.hdg.outs[so]? = some y ∧
        y.runs = wrap32 (o.runs + 1) ∧ y.pend = false ∧ y.lastT = s.now ∧ y.stuck = (o.stuck || !obs.hsFollows || !obs.lsFollows) ∧
        y.cross = (o.cross || (obs.crossSeen && !s.pb gHDG 72)) ∧ (y.stuck = true ∨ y.cross = true → y.hs = false ∧ y.ls = false)) ∧
    (s.chOff false so = true ∨ s.chOff true so = true ∨ obs.cut = true → o.hs = true ∨ o.ls = true →
      ∃ (t : State) (y : HOut), exec (.outputPairTest so obs) s = .next t ∧ t = { s with hdg := t.hdg, pub := { s.pub with ev := t.pub.ev } } ∧
        t.hdg.outs[so]? = some y ∧ y.pend = true ∧ y.disc = wrap32 (o.disc + 1) ∧ y.runs = o.runs ∧ t.rcBit 180 0 24 = true) ∧
    (s.chOff false so = true ∨ s.chOff true so = true → o.hs = false → o.ls = false →
      ∃ t : State, exec (.outputPairTest so obs) s = .next t ∧ t = { s with hdg := { s.hdg with outs := t.hdg.outs } } ∧
        OnlyAt so s.hdg.outs t.hdg.outs ∧ t.hdg.outs[so]? = some { o with pend := true, lastT := s.now })

/-- A doorbell takes the buffer of an idle channel and is else counted; ABORT withdraws a queued request; clearing DONE frees
the channel (13_waizhar_mailboxes.md, channels and doorbells (R451, R452, R453)). -/
def Obligations.DoorbellAbortAndDoneClear : Prop :=
  ∀ (s : State) (ch : Nat) (c : Chan), s.hostUp = true → s.onPcie ch = true → s.mbx.chans.length = 8 → s.mbx.chans[ch]? = some c →
    (∀ v : Word, c.queued = false → c.exec_ = false → c.done_ = false → 32 ≤ v.toNat % 8192 → v.toNat % 8192 ≤ 4096 →
      ∃ t : State, exec (.mbDoorbell ch v) s = .next t ∧ t = { s with mbx := { s.mbx with chans := t.mbx.chans } } ∧
        OnlyAt ch s.mbx.chans t.mbx.chans ∧
        t.mbx.chans[ch]? = some { c with queued := true, req := some (reqOf (padTo (v.toNat % 8192) c.buf) s.now) }) ∧
    (∀ v : Word, c.queued = true ∨ c.exec_ = true ∨ c.done_ = true ∨ v.toNat % 8192 < 32 ∨ 4096 < v.toNat % 8192 →
      exec (.mbDoorbell ch v) s = .next { s with mbx := { s.mbx with err := s.mbx.err + 1 } }) ∧
    (∀ q : Req, c.queued = true → c.req = some q →
      ∃ t : State, exec (.abort ch) s = .next t ∧ t = { s with mbx := t.mbx } ∧ MailboxStep s t ch ∧ Answered s t ch q .aborted []) ∧
    (c.queued = false → exec (.abort ch) s = .next s) ∧
    (∃ t : State, exec (.doneClear ch) s = .next t ∧ t = { s with mbx := { s.mbx with chans := t.mbx.chans } } ∧
      OnlyAt ch s.mbx.chans t.mbx.chans ∧ t.mbx.chans[ch]? = some { c with done_ := false, respLen := 0 })

/-- A channel on E1 holds one connection, takes its requests while free, and loses its session with the connection
(13_waizhar_mailboxes.md, transport on E1 (R454, R459); 14_configuration_and_lifecycle.md, transfers (R482)). -/
def Obligations.E1ConnectionsCarryRequests : Prop :=
  ∀ (s : State) (ch : Nat) (c : Chan), s.hostUp = true → s.onE1 ch = true → s.mbx.chans[ch]? = some c →
    (s.hw.e1 = true → ∃ t : State, exec (.e1ConnectionOpen ch) s = .next t ∧
      t = { s with mbx := { s.mbx with chans := t.mbx.chans } } ∧ OnlyAt ch s.mbx.chans t.mbx.chans ∧
      t.mbx.chans[ch]? = some { c with e1 := true }) ∧
    (∀ bytes : List Byte, c.e1 = true → c.queued = false → c.exec_ = false →
      ∃ t : State, exec (.e1Request ch bytes) s = .next t ∧ t = { s with mbx := { s.mbx with chans := t.mbx.chans } } ∧
        OnlyAt ch s.mbx.chans t.mbx.chans ∧ t.mbx.chans[ch]? = some { c with queued := true, req := some (reqOf bytes s.now) }) ∧
    (c.e1 = true → ∃ t : State, exec (.e1ConnectionClose ch) s = .next t ∧ LogFrame s t ∧
      t.mbx = { s.mbx with chans := t.mbx.chans } ∧ OnlyAt ch s.mbx.chans t.mbx.chans ∧
      t.mbx.chans[ch]? = some { c with e1 := false, sess := none } ∧
      (c.sess = none → t.sys = s.sys ∧ t.peat = s.peat) ∧
      (∀ x, c.sess = some x → LoggedOne s t 0x03 ∧
        t.sys.xfer = (match s.sys.xfer with | some y => if y.ch == ch then none else some y | none => none)))

/-- The request of the lowest class starts first, the lowest channel among equals; a good tag and the next SEQ bring it to
EXECUTING (13_waizhar_mailboxes.md, requests (R457, R458, R461, R462)). -/
def Obligations.RequestsStartByClass : Prop :=
  ∀ (s : State) (ch : Nat) (q : Req), s.hostUp = true → s.mbx.chans.length = 8 → s.nextReq = some ch → (s.chan ch).req = some q →
    (s.chan ch).exec_ = false →
    (ch < 8 ∧ (s.chan ch).queued = true ∧ ∀ k p, k < 8 → (s.chan k).queued = true → (s.chan k).req = some p →
      q.cls < p.cls ∨ (q.cls = p.cls ∧ ch ≤ k)) ∧
    ((s.chan ch).lock.isSome = true → ∃ t : State, exec .requestStart s = .next t ∧ t = { s with mbx := t.mbx } ∧
      Answered s t ch q .authFail []) ∧
    ((s.chan ch).lock = none → q.sess = 0 → s.startCheck ch q = none → ∃ t : State, exec .requestStart s = .next t ∧
      t = { s with mbx := { s.mbx with chans := t.mbx.chans } } ∧ OnlyAt ch (s.mbx.chans.map Chan.calm) (t.mbx.chans.map Chan.calm) ∧
      t.chan ch = { s.chan ch with queued := false, exec_ := true }) ∧
    (∀ x : Sess, (s.chan ch).lock = none → s.sessOf ch q = some x →
      (tagOf x.key q.hdr q.pay ≠ q.tag → ∃ t : State, exec .requestStart s = .next t ∧ LogFrame s t ∧ LoggedOne s t 0x03 ∧
        Answered s t ch q .authFail [] ∧ (t.chan ch).sess = some x ∧ (t.chan ch).fails = (s.chan ch).fails + 1 ∧
        (2 ≤ (s.chan ch).fails → (t.chan ch).lock = some (s.now + 10000000000))) ∧
      (tagOf x.key q.hdr q.pay = q.tag → q.seq = x.seq + 1 → s.startCheck ch q = none →
        ∃ t : State, exec .requestStart s = .next t ∧ t = { s with mbx := { s.mbx with chans := t.mbx.chans } } ∧
          t.chan ch = { s.chan ch with queued := false, exec_ := true, sess := some { x with used := s.now } }) ∧
      (tagOf x.key q.hdr q.pay = q.tag → q.seq = x.seq → x.last ≠ [] →
        ∃ t : State, exec .requestStart s = .next t ∧ t = { s with mbx := t.mbx } ∧ (t.chan ch).exec_ = false ∧
          (t.chan ch).queued = false ∧ ((s.chan ch).drop = false → (t.chan ch).resp = x.last) ∧
          (t.chan ch).sess = some { x with used := s.now }) ∧
      (tagOf x.key q.hdr q.pay = q.tag → q.seq ≠ x.seq → q.seq ≠ x.seq + 1 →
        ∃ t : State, exec .requestStart s = .next t ∧ t = { s with mbx := t.mbx } ∧ Answered s t ch q .sequence [] ∧
          (t.chan ch).sess = some { x with used := s.now }))

/-- CLOSE_SESSION and idle time end a channel's session with one audit record; a lockout ends after its 10 s
(13_waizhar_mailboxes.md, sessions (R457, R459); 14_configuration_and_lifecycle.md, transfers (R482)). -/
def Obligations.SessionsEnd : Prop :=
  ∀ (s : State) (ch : Nat),
    (∀ q : Req, s.executing ch 0x04 q → s.mute = false → q.pay = [] →
      ∃ t : State, exec (.closeSession ch) s = .next t ∧ LogFrame s t ∧ MailboxStep s t ch ∧ Answered s t ch q .ok [] ∧
        (t.chan ch).sess = none ∧ ((s.chan ch).sess ≠ none → LoggedOne s t 0x03)) ∧
    (∀ (c : Chan) (x : Sess), s.up = true → s.mbx.chans[ch]? = some c → c.sess = some x → x.used + s.pn gMBX 3 ≤ s.now → c.exec_ = false →
      ∃ t : State, exec (.sessionIdleTimeout ch) s = .next t ∧ LogFrame s t ∧ LoggedOne s t 0x03 ∧
        t.mbx = { s.mbx with chans := t.mbx.chans } ∧ OnlyAt ch s.mbx.chans t.mbx.chans ∧
        t.mbx.chans[ch]? = some { c with sess := none } ∧
        t.sys.xfer = (match s.sys.xfer with | some y => if y.ch == ch then none else some y | none => none)) ∧
    (∀ (c : Chan) (e : Nat), s.up = true → s.mbx.chans[ch]? = some c → c.lock = some e → e ≤ s.now →
      ∃ t : State, exec (.authLockoutEnd ch) s = .next t ∧ t = { s with mbx := { s.mbx with chans := t.mbx.chans } } ∧
        OnlyAt ch s.mbx.chans t.mbx.chans ∧ t.mbx.chans[ch]? = some { c with lock := none, fails := 0 })

/-- OPEN_SESSION answers a 16-byte nonce; AUTH_SESSION opens a session on a good MAC within the credential's role, else
AUTH_FAIL (13_waizhar_mailboxes.md, sessions (R456, R457, R459)). -/
def Obligations.SessionsOpenWithAGoodMac : Prop :=
  ∀ (s : State) (ch : Nat) (q : Req), s.mute = false → q.sess = 0 →
    (s.executing ch 0x02 q → q.pay = [] → (s.chan ch).sess = none →
      ∃ (t : State) (n : List Byte), exec (.openSession ch) s = .next t ∧ t = { s with mbx := t.mbx } ∧ n.length = 16 ∧
        Answered s t ch q .ok n ∧ (t.chan ch).nonce = some n ∧ (t.chan ch).sess = none ∧
        OnlyAt ch (s.mbx.chans.map Chan.calm) (t.mbx.chans.map Chan.calm)) ∧
    (s.executing ch 0x02 q → q.pay = [] → (s.chan ch).sess ≠ none →
      ∃ t : State, exec (.openSession ch) s = .next t ∧ t = { s with mbx := t.mbx } ∧ MailboxStep s t ch ∧
        Answered s t ch q .refused (Reason.bytes .mbxSessionOpen) ∧ (t.chan ch).nonce = (s.chan ch).nonce) ∧
    (∀ (c : Cred) (n : List Byte), s.executing ch 0x03 q → q.pay.length = 36 → (s.chan ch).sess = none → (s.chan ch).nonce = some n →
      natOfBytes ((q.pay.drop 3).take 1) = 0 → natOfBytes ((q.pay.drop 2).take 1) ≤ c.role.rank →
      s.sys.creds[natOfBytes (q.pay.take 2)]? = some c → c.on = true →
      let r := natOfBytes ((q.pay.drop 2).take 1)
      ((q.pay.drop 4).take 32 = hmac c.key (n ++ [BitVec.ofNat 8 ch, BitVec.ofNat 8 r]) →
        ∃ (t : State) (x : Sess), exec (.authSession ch) s = .next t ∧ LogFrame s t ∧ LoggedOne s t 0x03 ∧ x.id ≠ 0 ∧
          Answered s t ch q .ok (p4 x.id) ∧ (t.chan ch).sess = some x ∧ (t.chan ch).nonce = none ∧ x.role = sroleOf r ∧
          x.cred = natOfBytes (q.pay.take 2) ∧ x.key = hmac c.key (n ++ [0x73, 0x65, 0x73, 0x73, 0x69, 0x6F, 0x6E]) ∧ x.seq = 0 ∧
          x.used = s.now) ∧
      ((q.pay.drop 4).take 32 ≠ hmac c.key (n ++ [BitVec.ofNat 8 ch, BitVec.ofNat 8 r]) →
        ∃ t : State, exec (.authSession ch) s = .next t ∧ LogFrame s t ∧ LoggedOne s t 0x03 ∧ Answered s t ch q .authFail [] ∧
          (t.chan ch).sess = none ∧ (t.chan ch).nonce = none ∧ (t.chan ch).fails = (s.chan ch).fails + 1))

/-- GET_INFO answers in every life-cycle state; READ_PARAM answers values latched at the newest boundary and clears only
where asked (13_waizhar_mailboxes.md, command table and reads (R451, R465, R597); 14_configuration_and_lifecycle.md, life
cycle (R506)). -/
def Obligations.InformationAndParametersRead : Prop :=
  ∀ (s : State) (ch : Nat) (q : Req),
    (s.executing ch 0x01 q → q.pay = [] →
      ∃ (t : State) (p : List Byte), exec (.getInfo ch) s = .next t ∧ t = { s with mbx := t.mbx } ∧ MailboxStep s t ch ∧
        Answered s t ch q .ok p ∧
        p = Config.infoPay (Config.fwRelease s.sys.fwB) s.role.code (s.pn gSYS 2) s.twin.sideB s.sys.life
          ((s.sys.creds.zipIdx.filter (fun c => c.1.on)).map (fun c => (c.2, c.1.role)))) ∧
    (∀ l : List Ent, s.executing ch 0x10 q → s.mute = false → payEnts false q.pay = some l → s.readBad l = none →
      s.sys.st ≠ .configPending → (q.flags % 2 = 1 ∨ (s.author ch q).role = .observer) → s.pb gLOG 1 = false →
      let pay := Config.readPay s.fr (s.lastCtl s.fr) (l.map (fun e => (e.code, e.first,
        (List.range e.count).map (fun k => s.valBytes ((pidOf e.code).getD ⟨0, 0⟩) (e.first + k)))))
      ∃ t : State, exec (.readParam ch) s = .next t ∧ t = { s with mbx := t.mbx } ∧ MailboxStep s t ch ∧
        (if pay.length ≤ 4064 then Answered s t ch q .ok pay else Answered s t ch q .malformed []))

/-- A WRITE_PARAM of Control and Supervisory parameters is accepted whole, listing its boundaries; a bad entry refuses it
whole (13_waizhar_mailboxes.md, writes (R460, R466, R508, R597)). -/
def Obligations.WritesWaitForTheirBoundary : Prop :=
  ∀ (s : State) (ch : Nat) (q : Req) (l : List Ent), s.executing ch 0x11 q → s.mute = false → payEnts true q.pay = some l →
    s.hostShadow = false → s.sys.st ≠ .configPending →
    let a := s.author ch q
    let ws := l.flatMap (s.writesOf a)
    (s.firstBad a ws 0 [] l = none → l ≠ [] → (∀ e ∈ l, e.eff = .control ∨ e.eff = .supervisory) →
      ∃ t : State, exec (.writeParam ch) s = .next t ∧ MailboxStep s t ch ∧
        t = { s with mbx := t.mbx, par := { s.par with wait := t.par.wait }, twin := { s.twin with acts := t.twin.acts } } ∧
        t.par.wait = s.par.wait ++ ws ∧ Answered s t ch q .accepted (l.flatMap (fun e => p8 (s.boundaryOf e.eff)))) ∧
    (∀ r : Reply, s.firstBad a ws 0 [] l = some r →
      ∃ t : State, exec (.writeParam ch) s = .next t ∧ LogFrame s t ∧ Answered s t ch q r.st r.pay ∧
        t.sys.xfer = s.sys.xfer ∧ s.sys.seqNo < t.sys.seqNo)

/-- Commands that are the write of one parameter wait for their boundary, or act at once where their term is Immediate
(13_waizhar_mailboxes.md, writes (R10, R466); 05_arm_modulation.md, commit and test mode (R208, R219);
08_bramble_protection.md, reset (R303); 12_clocks_time_power.md, set time (R438); 02_measurement_and_angle.md, compare
(R83)). -/
def Obligations.SingleParameterCommandsTakeEffect : Prop :=
  ∀ (s : State) (ch : Nat) (x : Sess), s.mayWrite ch .operator x →
    let sup := s.nextSup s.fr
    (∃ t, exec (.brambleReset ch) s = .next t ∧ WaitsFor s t ch x ⟨gPRT, 40⟩ 0 1 .supervisory sup) ∧
    (∀ p, p < 32 → ∃ t, exec (.rejoin ch p) s = .next t ∧ WaitsFor s t ch x ⟨gLNK, 23⟩ 0 (BitVec.ofNat 64 p) .supervisory sup) ∧
    (∃ t, exec (.resynchronise ch) s = .next t ∧ WaitsFor s t ch x ⟨gTWN, 11⟩ 0 1 .supervisory sup) ∧
    (∃ t, exec (.swapNow ch) s = .next t ∧ WaitsFor s t ch x ⟨gTWN, 12⟩ 0 1 .supervisory sup) ∧
    (∀ on : Bool, ∃ t, exec (.recorderArm ch on) s = .next t ∧
      WaitsFor s t ch x ⟨gACQ, 12⟩ 0 (if on then 1 else 0) .supervisory sup) ∧
    (∃ t, exec (.manualTrigger ch) s = .next t ∧ WaitsFor s t ch x ⟨gACQ, 13⟩ 0 1 .supervisory sup) ∧
    (∃ t, exec (.scrubNow ch) s = .next t ∧ WaitsFor s t ch x ⟨gSTO, 20⟩ 0 1 .supervisory sup) ∧
    (∀ m, m < 65536 → ∃ t, exec (.outputFaultReset ch m) s = .next t ∧
      WaitsFor s t ch x ⟨gFIO, 30⟩ 0 (BitVec.ofNat 64 m) .supervisory sup) ∧
    (∃ t, exec (.hostReset ch) s = .next t ∧ WaitsFor s t ch x ⟨gHDG, 61⟩ 0 1 .supervisory sup) ∧
    (∀ m, m < 4 → s.isRoot = true → ∃ t, exec (.modeRequest ch m) s = .next t ∧
      WaitsFor s t ch x ⟨gGFM, 1⟩ 0 (BitVec.ofNat 64 m) .control (s.nextCtl s.fr)) ∧
    (2 ≤ x.role.rank → s.isLeaf = true →
      (∀ c, c < 512 → ∃ t, exec (.reAdmitCell ch c) s = .next t ∧
        WaitsFor s t ch x ⟨gARM, 41⟩ 0 (BitVec.ofNat 64 c) .supervisory sup) ∧
      (∀ on : Bool, (on = true → s.sys.st = .ready) → ∃ t, exec (.testMode ch on) s = .next t ∧
        WaitsFor s t ch x ⟨gPWM, 30⟩ 0 (if on then 1 else 0) .supervisory sup) ∧
      (∀ m, m < 65536 → s.commitBad m = none → (∀ w ∈ s.par.wait, s.fr < w.at_) →
        ∃ t : State, exec (.commit ch m) s = .next t ∧ LoggedOne s t 0x01 ∧
        t = { s with arm := { s.arm with cells := t.arm.cells }, twin := t.twin, sys := t.sys, peat := t.peat } ∧
        t.arm.cells.length = s.arm.cells.length ∧
        ∀ (c : Nat) (y : Cell), s.arm.cells[c]? = some y → c < 512 →
          t.arm.cells[c]? = some (if y.conf && m.testBit (s.pn gPWM 1 c) then
            { y with shP := y.stP, shF := if s.pn gARM 1 y.arm = 2 then y.shF else y.stF
                     shD := if s.pn gARM 1 y.arm = 0 then y.stD else y.shD, shPend := true } else y))) ∧
    (∀ (k : Nat) (on : Bool) (y : Trk), k < 4 → s.trk[k]? = some y → ¬(s.kern.core.mode = .sync ∧ s.syncTrk = some k) →
      ∃ t : State, exec (.compareArm ch k on) s = .next t ∧ LoggedOne s t 0x01 ∧ OnlyAt k s.trk t.trk ∧
        t = { s with trk := t.trk, par := t.par, twin := t.twin, sys := t.sys, peat := t.peat } ∧
        t.trk[k]? = some { y with evalDue := (on && !y.set.armed) || y.evalDue, set := { y.set with armed := on } }) ∧
    (∀ tai : Int, -9223372036854775808 ≤ tai → tai ≤ 9223372036854775807 → tai % 1000000000 = 0 → s.running = false →
      ∃ t : State, exec (.setTime ch tai) s = .next t ∧ LoggedOne s t 0x01 ∧
        t = { s with clk := { s.clk with setTai := some tai }, twin := t.twin, sys := t.sys, peat := t.peat })

/-- Words go to the inactive bank only, a bank reads back, a swap waits for its control boundary, and CANCEL withdraws it
(03_loop_engine.md, coefficient banks (R116, R117, R118, R119, R120); 13_waizhar_mailboxes.md, bank commands (R597)). -/
def Obligations.BankCommands : Prop :=
  ∀ (s : State) (ch : Nat) (q : Req), s.mute = false →
    (∀ (bank addr : Nat) (ws : List Word), s.executing ch 0x20 q → s.banksInv → bank < 2 → (bank == 1) = !s.eng.actB → ws ≠ [] →
      addr + ws.length ≤ 8192 → s.eng.swapAt = none →
      ∃ t : State, exec (.bankWrite ch bank addr ws) s = .next t ∧ LoggedOne s t 0x10 ∧ Carried s t 0x20 ∧ MailboxStep s t ch ∧
        Answered s t ch q .ok [] ∧
        t = { s with eng := { s.eng with bankA := t.eng.bankA, bankB := t.eng.bankB }, twin := { s.twin with acts := t.twin.acts }
                     mbx := t.mbx, sys := t.sys, peat := t.peat } ∧
        t.eng.bank s.eng.actB = s.eng.bank s.eng.actB ∧ (t.eng.bank (bank == 1)).length = 8192 ∧
        ∀ k, (t.eng.bank (bank == 1))[k]? =
          if addr ≤ k ∧ k < addr + ws.length then ws[k - addr]? else (s.eng.bank (bank == 1))[k]?) ∧
    (∀ bank addr n : Nat, s.executing ch 0x21 q → bank < 2 → addr + n ≤ 8192 →
      ∃ t : State, exec (.bankRead ch bank addr n) s = .next t ∧ t = { s with mbx := t.mbx } ∧ MailboxStep s t ch ∧
        Answered s t ch q .ok (Config.bankPay (((s.eng.bank (bank == 1)).drop addr).take n))) ∧
    (∀ (crc : Word) (target : Option Nat), s.executing ch 0x22 q →
      (crc = s.eng.crc (!s.eng.actB) → (∀ f, target = some f → f % s.nc = 0 ∧ s.nextCtl s.fr < f) → s.eng.swapAt = none →
        (s.kernOn = true → s.gfmRangeBad (!s.eng.actB) = false) →
        ∃ t : State, exec (.bankSwap ch crc target) s = .next t ∧ LoggedOne s t 0x10 ∧ Carried s t 0x22 ∧ MailboxStep s t ch ∧
          Answered s t ch q .accepted (p8 (target.getD (s.nextCtl s.fr))) ∧
          t = { s with eng := { s.eng with swapAt := some (target.getD (s.nextCtl s.fr)) }, twin := { s.twin with acts := t.twin.acts }
                       mbx := t.mbx, sys := t.sys, peat := t.peat }) ∧
      (crc ≠ s.eng.crc (!s.eng.actB) →
        ∃ t : State, exec (.bankSwap ch crc target) s = .next t ∧ LogFrame s t ∧ Answered s t ch q .refused (Reason.bytes .bankCrc))) ∧
    (∀ f : Nat, s.executing ch 0x23 q → s.eng.swapAt = some f → s.fr < f →
      ∃ t : State, exec (.bankCancel ch) s = .next t ∧ LoggedOne s t 0x10 ∧ Carried s t 0x23 ∧ MailboxStep s t ch ∧ Answered s t ch q .ok [] ∧
        t = { s with eng := { s.eng with swapAt := none }, twin := { s.twin with acts := t.twin.acts }
                     mbx := t.mbx, sys := t.sys, peat := t.peat })

/-- DEBLOCK in READY and HALT in RUNNING wait for the next supervisory boundary; elsewhere they are refused with the reason
that stands (14_configuration_and_lifecycle.md, states (R469, R494, R495); 08_bramble_protection.md, reset (R303, R305)). -/
def Obligations.DeblockAndHaltAreAccepted : Prop :=
  ∀ (s : State) (ch : Nat) (q : Req), s.mute = false → q.pay = [] →
    (s.executing ch 0x30 q → s.deblockBad = none →
      ∃ t : State, exec (.deblock ch) s = .next t ∧ LoggedOne s t 0x02 ∧ Carried s t 0x30 ∧ MailboxStep s t ch ∧
        Answered s t ch q .accepted (p8 (s.nextSup s.fr)) ∧ t.sys.st = s.sys.st ∧
        t = { s with par := { s.par with cmds := s.par.cmds ++ [(0x30, (s.author ch q).role, ch, s.nextSup s.fr)] }
                     twin := { s.twin with acts := t.twin.acts }, mbx := t.mbx, sys := t.sys, peat := t.peat }) ∧
    (∀ r : Reason, s.executing ch 0x30 q → s.deblockBad = some r →
      ∃ t : State, exec (.deblock ch) s = .next t ∧ LogFrame s t ∧ MailboxStep s t ch ∧ Answered s t ch q .refused r.bytes) ∧
    (s.executing ch 0x31 q → s.running = true →
      ∃ t : State, exec (.halt ch) s = .next t ∧ LoggedOne s t 0x02 ∧ Carried s t 0x31 ∧ MailboxStep s t ch ∧
        Answered s t ch q .accepted (p8 (s.nextSup s.fr)) ∧ t.sys.st = .running ∧
        t = { s with par := { s.par with cmds := s.par.cmds ++ [(0x31, (s.author ch q).role, ch, s.nextSup s.fr)] }
                     twin := { s.twin with acts := t.twin.acts }, mbx := t.mbx, sys := t.sys, peat := t.peat }) ∧
    (s.executing ch 0x31 q → s.running = false →
      ∃ t : State, exec (.halt ch) s = .next t ∧ LogFrame s t ∧ MailboxStep s t ch ∧
        Answered s t ch q .refused (Reason.bytes .mbxState)) ∧
    (s.sys.st ≠ .ready → s.deblockBad = some .mbxState)

/-- SLEEP starts the shut-down; each wake source takes a module from STANDBY to READY, CONFIG_PENDING or FAULTED, or waits
for warmth (12_clocks_time_power.md, power states (R417, R441, R442); 14_configuration_and_lifecycle.md, start and shut-down
(R443, R490, R491, R496, R497); 17_module_hardware.md, temperature (R574); 04_grid_forming_kernel.md, black start (R153)). -/
def Obligations.SleepShutsDownAndWakesStart : Prop :=
  ∀ (s : State) (ch : Nat) (q : Req) (obs : WakeObs),
    let woken := fun (t : State) => t.sys.st = .ready ∨ t.sys.st = .configPending ∨ t.sys.st = .faulted
    let cold := fLt s.hw.base (degC (-25))
    (s.mute = false → s.executing ch 0x32 q → s.awake = true → s.sys.st ≠ .running → s.sys.shut = 0 →
      ∃ t : State, exec (.sleep ch) s = .next t ∧ t.sys.st = s.sys.st ∧ t.sys.shut = 1 ∧ t.sys.keep = 16 ∧ t.arm.test = false ∧
        Answered s t ch q .ok [] ∧ MailboxStep s t ch ∧ t.hdg = s.hdg ∧ t.eng = s.eng ∧ t.prot = s.prot ∧ t.clk = s.clk) ∧
    (s.mute = false → s.executing ch 0x32 q → s.sys.st = .running →
      ∃ t : State, exec (.sleep ch) s = .next t ∧ LogFrame s t ∧ Answered s t ch q .refused (Reason.bytes .pwrRunning)) ∧
    (s.mute = false → s.executing ch 0x33 q → (s.raw gPWR 1).getLsbD 0 = true → s.sys.st = .standby →
      ∃ t : State, exec (.wake ch obs) s = .next t ∧ Answered s t ch q .ok [] ∧
        (cold = true → t.sys.st = .standby ∧ t.sys.coldHold = true) ∧ (cold = false → woken t ∧ t.sys.coldHold = false)) ∧
    (s.sys.st = .standby → s.pn gPWR 2 ≠ 0 → (s.raw gPWR 1).getLsbD 2 = true →
      ∃ t : State, exec (.wakeInputEdge obs) s = .next t ∧
        (cold = true → t = { s with sys := { s.sys with coldHold := true } }) ∧ (cold = false → woken t ∧ t.sys.coldHold = false)) ∧
    (s.sys.st = .standby → s.sys.coldHold = true → cold = false →
      ∃ t : State, exec (.coldWakeRelease obs) s = .next t ∧ woken t ∧ t.sys.coldHold = false) ∧
    (s.up = true → s.pn gGFM 3 ≠ 0 →
      ∃ t : State, exec (.blackStartRequestEdge obs) s = .next t ∧
        ((s.raw gPWR 1).getLsbD 1 = false ∨ (s.sys.st ≠ .standby ∧ s.sys.shut = 0) →
          t = { s with kern := { s.kern with bsEdge := true } }) ∧
        (s.sys.st = .standby → (s.raw gPWR 1).getLsbD 1 = true → cold = false → woken t))

/-- A transfer erases the slot that does not run, takes blocks in order, and only a complete image that passes its checks
fills the slot (14_configuration_and_lifecycle.md, images (R480, R482, R483, R485, R488)). -/
def Obligations.ImageTransfersAndSelection : Prop :=
  ∀ (s : State) (ch : Nat) (q : Req), s.mute = false → s.sys.slots.length = 2 →
    let mine := otherSlot s.sys.runB
    (∀ len : Nat, s.executing ch 0x40 q → s.sys.life = .provisioned → s.sys.xfer = none → len ≤ 16777216 →
      ∃ t : State, exec (.imageBegin ch 1 len) s = .next t ∧ LoggedOne s t 0x11 ∧ MailboxStep s t ch ∧ Answered s t ch q .ok [] ∧
        t.sys.xfer = some { Xfer.reset with ch := ch, kind := 1, len := len } ∧ t.sys.slots = s.sys.slots.set mine Slot_.reset ∧
        t = { s with sys := t.sys, peat := t.peat, mbx := t.mbx, twin := { s.twin with acts := t.twin.acts } }) ∧
    (∀ (x : Xfer) (bytes : List Byte), s.executing ch 0x41 q → s.sys.xfer = some x → x.ch = ch → (s.author ch q).role = .guardian →
      bytes.length ≤ 4032 → x.data.length + bytes.length ≤ x.len →
      ∃ (t : State) (y : Xfer), exec (.imageBlock ch x.data.length bytes) s = .next t ∧ LoggedOne s t 0x11 ∧ MailboxStep s t ch ∧
        Answered s t ch q .ok [] ∧ t.sys.xfer = some y ∧ y.data = x.data ++ bytes ∧ y.ch = ch ∧ y.len = x.len ∧ y.kind = x.kind ∧
        t.sys.slots = s.sys.slots ∧ t = { s with sys := t.sys, peat := t.peat, mbx := t.mbx, twin := { s.twin with acts := t.twin.acts } }) ∧
    (∀ (x : Xfer) (sha : List Byte), s.executing ch 0x42 q → s.sys.xfer = some x → x.ch = ch → x.kind = 1 →
      (s.author ch q).role = .guardian → x.data.length = x.len →
      (sha256 x.data = sha → s.integrity x.data = [] →
        ∃ t : State, exec (.imageCommit ch sha) s = .next t ∧ LoggedOne s t 0x11 ∧ Answered s t ch q .ok [] ∧ t.sys.xfer = none ∧
          t.sys.slots.length = 2 ∧ (∀ k, k ≠ mine → t.sys.slots[k]? = s.sys.slots[k]?) ∧
          (∃ y : Slot_, t.sys.slots[mine]? = some y ∧ y.complete = true ∧ y.bytes = x.data ∧ y.sha8 = imgSha8 x.data ∧
            y.version = imgVersion x.data ∧ y.cont = some (imgContent x.data)) ∧ t.sys.startB = s.sys.startB ∧
          t = { s with sys := t.sys, peat := t.peat, mbx := t.mbx, twin := { s.twin with acts := t.twin.acts } }) ∧
      (sha256 x.data ≠ sha →
        ∃ t : State, exec (.imageCommit ch sha) s = .next t ∧ Answered s t ch q .refused (Reason.bytes .cfgHash) ∧ t.sys.xfer = none ∧
          t.sys.slots = s.sys.slots ∧
          t = { s with sys := t.sys, peat := t.peat, mbx := t.mbx, twin := { s.twin with acts := t.twin.acts } })) ∧
    (∀ slotB : Bool, s.executing ch 0x43 q → (s.author ch q).role = .guardian → s.sys.st ≠ .running → s.selReady false slotB = true →
      (∃ t : State, exec (.imageSelect ch false slotB false) s = .next t ∧ LoggedOne s t 0x11 ∧ MailboxStep s t ch ∧
        Answered s t ch q .ok [] ∧ t.sys.startB = slotB ∧ t.sys.slots = s.sys.slots ∧ t.sys.st = s.sys.st ∧
        t = { s with sys := t.sys, peat := t.peat, mbx := t.mbx, twin := { s.twin with acts := t.twin.acts } }) ∧
      (∃ t : State, exec (.imageSelect ch false slotB true) s = .next t ∧ LoggedOne s t 0x11 ∧ MailboxStep s t ch ∧
        Answered s t ch q .accepted (p8 (s.nextSup s.fr)) ∧ t.sys.startB = s.sys.startB ∧ t.sys.st = s.sys.st ∧
        t = { s with sys := t.sys, peat := t.peat, mbx := t.mbx, twin := { s.twin with acts := t.twin.acts }
                     par := { s.par with cmds := s.par.cmds ++
                       [(selCode false slotB, (s.author ch q).role, ch, s.nextSup s.fr)] } }))

/-- A ring starts with a valid geometry, entries go to their slot while there is room and are dropped when full, a DMA error
stops both (13_waizhar_mailboxes.md, snapshot rings (R471, R472, R473, R474, R475, R476); 01_converter_tree.md, snapshots
(R34, R35)). -/
def Obligations.SnapshotRings : Prop :=
  ∀ s : State, s.hostUp = true →
    (∀ v : Word, v.getLsbD 31 = true → v.getLsbD 30 = false → s.mbx.ctrl.getLsbD 31 = false → s.mbx.ctrl.getLsbD 30 = false →
      geoOk (s.mbx.geoOf (v &&& snpMask)) = true →
      1088 + ((s.sys.run.map (·.snapBytes)).getD 0) + 4 ≤ (s.mbx.geoOf (v &&& snpMask)).2.2.1 * 4096 →
      ∃ t : State, exec (.snpCtrlEnable v) s = .next t ∧ t = { s with mbx := t.mbx } ∧ t.mbx.chans = s.mbx.chans ∧
        t.mbx.sActive = true ∧ t.mbx.head = 0 ∧ t.mbx.tail = 0 ∧ t.mbx.snpSeq = 0 ∧ t.mbx.skipped = 0 ∧ t.mbx.sRc = s.mbx.sRc ∧
        t.mbx.ctrl = v &&& snpMask ∧ t.mbx.geom = some (s.mbx.geoOf (v &&& snpMask))) ∧
    (∀ (p : SnapPend) (base lg es fl : Nat) (l : List SnapPend),
      s.mbx.snapDue = p :: l → s.mbx.sActive = true → (s.snapComplete p = true ∨ p.own.e + s.hmax + 1 ≤ s.fr) →
      s.mbx.geom = some (base, lg, es, fl) →
      (ringFull (2 ^ lg) s.mbx.head s.mbx.tail = false → 1 ≤ es →
        ∃ (t : State) (e : List Byte), exec .snapshotEmission s = .next t ∧ t = { s with mbx := t.mbx } ∧ e.length = es * 4096 ∧
          e.take 4 = p4 p.seq ∧ e.drop (es * 4096 - 4) = p4 p.seq ∧ t.mbx.dma = [(base + s.mbx.head * es * 4096, e)] ∧
          t.mbx.head = (s.mbx.head + 1) % 2 ^ lg ∧ t.mbx.snapDue = l ∧ t.mbx.skipped = 0 ∧ t.mbx.irq.getLsbD 1 = true ∧
          t.mbx.tail = s.mbx.tail ∧ t.mbx.chans = s.mbx.chans) ∧
      (ringFull (2 ^ lg) s.mbx.head s.mbx.tail = true →
        ∃ t : State, exec .snapshotEmission s = .next t ∧ t = { s with mbx := t.mbx } ∧ t.mbx.dma = s.mbx.dma ∧
          t.mbx.head = s.mbx.head ∧ t.mbx.snapDue = l ∧ t.mbx.skipped = wrap32 (s.mbx.skipped + 1) ∧
          t.mbx.nDrop = wrap32 (s.mbx.nDrop + 1) ∧ t.mbx.sRc.getLsbD 2 = true ∧ t.mbx.chans = s.mbx.chans)) ∧
    (s.mbx.sActive = true ∨ s.mbx.fActive = true →
      ∃ t : State, exec .snapshotDmaError s = .next t ∧
        t = { s with mbx := { s.mbx with sActive := false, fActive := false, sRc := t.mbx.sRc, irq := t.mbx.irq, msi := t.mbx.msi } } ∧
        t.mbx.sRc = s.mbx.sRc ||| bitAt true 5 ∧ t.mbx.irq = s.mbx.irq ||| bitAt true 6) ∧
    (∀ (ch : Nat) (q : Req), s.mute = false → s.executing ch 0x50 q → q.pay = [] →
      ∃ t : State, exec (.snapshotNow ch) s = .next t ∧ CarryFrame s t 0x50 ∧ LoggedOne s t 0x02 ∧
        Answered s t ch q .accepted (p8 (s.nextSup s.fr)) ∧ t.mbx.onReq = true ∧ t.mbx.fastNew = s.mbx.fastNew) ∧
    (∀ (ch : Nat) (q : Req) (ids : List (Pid × Nat)), s.mute = false → s.executing ch 0x51 q →
      (∀ x ∈ ids, s.fastOk x.1 = true ∧ ∃ n, s.idLen x.1 = some n ∧ x.2 < n) → (ids.flatMap (fun x => s.valBytes x.1 x.2)).length ≤ 256 →
      ∃ t : State, exec (.snapshotFast ch ids) s = .next t ∧ CarryFrame s t 0x51 ∧ LoggedOne s t 0x02 ∧
        Answered s t ch q .accepted (p8 (s.nextSup s.fr)) ∧ t.mbx.fastNew = some ids ∧ t.mbx.fastL = s.mbx.fastL ∧
        t.mbx.onReq = s.mbx.onReq)

/-- Records are listed, exported and deleted, the audit log is read, and a gate-unit file is staged block by block and sent
to cells (11_reedbed_recorder.md, records (R410, R411, R412); 15_peat_store.md, room (R519, R523);
14_configuration_and_lifecycle.md, audit log (R508, R512); 06_crihel_link.md, gate-unit firmware (R257)). -/
def Obligations.RecordsLogAndGateFirmware : Prop :=
  ∀ (s : State) (ch : Nat) (q : Req), s.mute = false →
    (s.executing ch 0x60 q → ∃ t : State, exec (.recordList ch) s = .next t ∧ LogFrame s t ∧ LoggedOne s t 0x02 ∧ MailboxStep s t ch ∧
      Answered s t ch q .ok (Config.recordPay s.peat.recs)) ∧
    (∀ num file ofs n : Nat, s.peatFree .exportRead = false → exec (.recordExport ch num file ofs n) s = .next s) ∧
    (∀ (r : Rec) (num file ofs n : Nat), s.peatFree .exportRead = true → s.executing ch 0x61 q → s.peat.recs.find? (fun x => x.num == num && x.kept) = some r → file ≤ 5 →
      n ≤ 4064 → ∃ t : State, exec (.recordExport ch num file ofs n) s = .next t ∧ LogFrame s t ∧ LoggedOne s t 0x02 ∧
        MailboxStep s t ch ∧ Answered s t ch q .ok (((r.file file).drop ofs).take n)) ∧
    (∀ (r : Rec) (num : Nat), s.executing ch 0x62 q → s.peat.recs.find? (fun x => x.num == num && x.kept) = some r →
      ∃ t : State, exec (.recordDelete ch num) s = .next t ∧ LoggedOne s t 0x02 ∧ MailboxStep s t ch ∧ Answered s t ch q .ok [] ∧
        t.peat.recs = s.peat.recs.filter (fun x => x.num != num) ∧ t.peat.recUsed = s.peat.recUsed - r.size ∧ t.peat.full = false ∧
        (∀ b ∈ t.peat.blocks, ¬(b.2.1 = 8 ∧ b.2.2 = num)) ∧ Carried s t 0x62 ∧
        t = { s with mbx := t.mbx, sys := t.sys, peat := t.peat, twin := { s.twin with acts := t.twin.acts } }) ∧
    (∀ from_ n : Nat, s.executing ch 0x70 q → ∃ t : State, exec (.logRead ch from_ n) s = .next t ∧ LogFrame s t ∧ LoggedOne s t 0x02 ∧
      MailboxStep s t ch ∧ ∃ l : List Audit, l.length ≤ min n 63 ∧ (∀ r ∈ l, r ∈ s.sys.log ∧ from_ ≤ r.seq ∧ r.gone = false) ∧
        ∃ gap old, Answered s t ch q .ok (Config.logHead gap old ++ l.flatMap Audit.bytes)) ∧
    (∀ (ofs : Nat) (bytes : List Byte), s.executing ch 0x80 q →
      (ofs = 0 ∨ ofs = s.peat.guFile.length →
        ∃ t : State, exec (.guFwLoad ch ofs bytes) s = .next t ∧ LoggedOne s t 0x02 ∧ MailboxStep s t ch ∧ Answered s t ch q .ok [] ∧
          t.peat.guFile = (if ofs = 0 then bytes else s.peat.guFile ++ bytes) ∧ t.peat.blocks = s.peat.blocks ∧
          Carried s t 0x80 ∧ t = { s with mbx := t.mbx, sys := t.sys, peat := t.peat, twin := { s.twin with acts := t.twin.acts } }) ∧
      (ofs ≠ 0 → ofs ≠ s.peat.guFile.length →
        ∃ t : State, exec (.guFwLoad ch ofs bytes) s = .next t ∧ LogFrame s t ∧ Answered s t ch q .refused (Reason.bytes .cfgSequence))) ∧
    (∀ (c : Nat) (x : Port), s.executing ch 0x81 q → (s.cell c).conf = true → s.link.ports[(s.cell c).port]? = some x →
      ∃ t : State, exec (.guFwStart ch [c]) s = .next t ∧ LoggedOne s t 0x02 ∧ MailboxStep s t ch ∧ Answered s t ch q .ok [] ∧
        Carried s t 0x81 ∧ t = { s with mbx := t.mbx, sys := t.sys, peat := t.peat, link := { s.link with ports := t.link.ports },
                                         twin := { s.twin with acts := t.twin.acts } } ∧
        OnlyAt (s.cell c).port s.link.ports t.link.ports ∧
        t.link.ports[(s.cell c).port]? = some { x with out_ := x.out_ ++ fwMsgs (s.cell c).pos s.peat.guFile })

/-- Low words latch their high words, RC registers clear on their read, and a write changes only the register it names
(13_waizhar_mailboxes.md, BAR0 (R449, R450); 00_scope.md, access types (R6, R7)). -/
def Obligations.RegistersReadAndWritten : Prop :=
  ∀ s : State, s.hostUp = true →
    (∃ t : State, exec .sysFrameLoRead s = .next t ∧ t = { s with mbx := { s.mbx with rdata := t.mbx.rdata, fHi := t.mbx.fHi } } ∧
      t.mbx.rdata = BitVec.ofNat 32 s.fr ∧ t.mbx.fHi = BitVec.ofNat 32 (s.fr / 4294967296)) ∧
    (∃ t : State, exec .sysTaiLoRead s = .next t ∧ t = { s with mbx := { s.mbx with rdata := t.mbx.rdata, tHi := t.mbx.tHi } } ∧
      t.mbx.rdata = BitVec.ofNat 32 s.now ∧ t.mbx.tHi = BitVec.ofNat 32 (s.now / 4294967296)) ∧
    (∀ ofs : Nat, ∃ t : State, exec (.rcRegisterRead ofs) s = .next t ∧
      t = { s with mbx := { s.mbx with rdata := s.regRead ofs, cause := t.mbx.cause, err := t.mbx.err, sRc := t.mbx.sRc } } ∧
      t.mbx.cause = (if ofs = 0x2C then 0 else s.mbx.cause) ∧ t.mbx.err = (if ofs = 0x4C then 0 else s.mbx.err) ∧
      t.mbx.sRc = (if ofs = 0x21C then 0 else s.mbx.sRc)) ∧
    (∀ v : Word,
      exec (.registerWrite 0x28 v) s = .next { s with mbx := { s.mbx with scratch := v } } ∧
      exec (.registerWrite 0x20 v) s = .next { s with mbx := { s.mbx with irqEn := v &&& 0x7F } } ∧
      exec (.registerWrite 0x44 v) s = .next { s with mbx := { s.mbx with mirqEn := v &&& 0xFF } } ∧
      (∃ t : State, exec (.registerWrite 0x1C v) s = .next t ∧ t = { s with mbx := { s.mbx with irq := t.mbx.irq } } ∧
        ∀ k, k < 32 → t.mbx.irq.getLsbD k = (s.mbx.irq.getLsbD k && !v.getLsbD k)) ∧
      (∀ (n k : Nat) (c : Chan), n < 8 → k % 4 = 0 → k < 4096 → s.mbx.chans[n]? = some c → c.buf.length = 4096 →
        ∃ (t : State) (b : List Byte), exec (.registerWrite (0x10000 + 0x2000 * n + k) v) s = .next t ∧
          t = { s with mbx := { s.mbx with chans := t.mbx.chans } } ∧ OnlyAt n s.mbx.chans t.mbx.chans ∧
          t.mbx.chans[n]? = some { c with buf := b } ∧ b.length = 4096 ∧
          ∀ j, b[j]? = if k ≤ j ∧ j < k + 4 then some (v.extractLsb' (8 * (j - k)) 8) else c.buf[j]?) ∧
      (∀ ofs, 0x220 ≤ ofs → ofs < 0x10000 → exec (.registerWrite ofs v) s = .next s))

/-- POWER_UP takes a DORMANT module to STANDBY with its log, life and outputs off; POWER_FAIL takes any other module to
DORMANT, outputs off (12_clocks_time_power.md, power states (R441, R444, R445, R446); 14_configuration_and_lifecycle.md,
firmware boot (R487, R507); 15_peat_store.md, power failure (R526, R527)). -/
def Obligations.PowerUpAndPowerFail : Prop :=
  ∀ s : State,
    (∀ (slot secs : Nat) (strapped : Bool), s.sys.st = .dormant → s.sys.bootBad = 0 → 0 < s.pn gCFG 31 →
      s.sys.fwOk.getD (if s.sys.fwSelB then 1 else 0) false = true → s.sys.lifeReq = none → s.sys.seqNo ≤ s.peat.stored →
      ∃ t : State, exec (.powerUp slot strapped true secs [true]) s = .next t ∧ t.sys.st = .standby ∧ t.safetyOff ∧
        t.sys.life = s.sys.life ∧ t.sys.slots = s.sys.slots ∧ t.sys.creds = s.sys.creds ∧ t.pending = s.pending ∧
        t.sys.fwB = s.sys.fwSelB ∧ LoggedOne s t 0x20 ∧ t.clk.aoSec = s.clk.aoSec + secs ∧ t.sys.slotId = slot % 16) ∧
    (∀ (slot secs : Nat) (strapped vbatOk : Bool) (boots : List Bool), s.sys.st ≠ .dormant →
      exec (.powerUp slot strapped vbatOk secs boots) s = .next s) ∧
    (s.sys.st ≠ .dormant →
      ∃ t : State, exec .powerFail s = .next t ∧ t.sys.st = .dormant ∧ t.safetyOff ∧ t.link.txOn = false ∧ t.link.tx = [] ∧
        t.peat.pageN = 0 ∧ t.peat.dirty = 0 ∧ t.peat.commitN = s.peat.commitN + 1 ∧ t.eng = Eng.reset ∧ t.kern = Kern.reset ∧ t.arm = Arm.reset ∧ t.sys.slots = s.sys.slots ∧
        t.sys.life = s.sys.life ∧ t.sys.creds = s.sys.creds ∧ t.pending = s.pending ∧ t.clk.aoSec = s.now / 1000000000 ∧
        s.sys.seqNo < t.sys.seqNo ∧
        (s.pb gTWN 1 = true → s.twin.shadow = true → s.twin.selfFailed = false → s.twinOn = true → s.link.txOn = true →
          (s.fr, TBody.fail noSource) ∈ t.twin.txT ∧ t.nest.txDown = []) ∧
        (s.pb gTWN 1 = false → (∀ d ∈ t.nest.txDown, d.2.demand = true) ∧
          (s.awake = true → s.txGo = true → ∀ p, p < 32 → s.cellPort p = true → p < s.link.ports.length → (t.port p).baSent = true))) ∧
    (s.sys.st = .dormant → exec .powerFail s = .next s)

/-- PERST_N resets BAR0, a firmware watchdog counts as a failed boot, the works enrol a module, load levels rise at once and
fall slowly (17_module_hardware.md, PERST (R562); 14_configuration_and_lifecycle.md, firmware boot and life cycle (R487,
R506, R507); 13_waizhar_mailboxes.md, load levels (R477)). -/
def Obligations.ManagementSideResetsAndLoad : Prop :=
  ∀ s : State,
    (s.up = true → s.mbx.chans.length = 8 →
      ∃ t : State, exec .perstN s = .next t ∧ t = { s with mbx := t.mbx } ∧ t.mbx.irq = 0 ∧ t.mbx.irqEn = 0 ∧ t.mbx.scratch = 0 ∧
        t.mbx.mirq = 0 ∧ t.mbx.mirqEn = 0 ∧ t.mbx.err = 0 ∧ t.mbx.fHi = 0 ∧ t.mbx.tHi = 0 ∧ t.mbx.ctrl = 0x04016000 ∧
        t.mbx.baseLo = 0 ∧ t.mbx.baseHi = 0 ∧ t.mbx.head = 0 ∧ t.mbx.tail = 0 ∧ t.mbx.sActive = false ∧ t.mbx.fActive = false ∧
        t.mbx.chans.length = 8 ∧
        ∀ (k : Nat) (c : Chan), s.mbx.chans[k]? = some c →
          t.mbx.chans[k]? = some (if s.onPcie k then
            { c with queued := false, done_ := false, late := false, respLen := 0, drop := c.exec_
                     req := if c.exec_ then c.req else none } else { c with late := false })) ∧
    (s.up = true → s.sys.bootBad + 1 < s.pn gCFG 31 →
      exec .firmwareWatchdog s = .next { s with mbx := { s.mbx with cause := s.mbx.cause ||| bitAt true 2 }
                                                sys := { s.sys with bootBad := s.sys.bootBad + 1 } }) ∧
    (∀ key0 cred0 : Nat, s.sys.life = .manufacture ∨ s.sys.life = .service → s.sys.creds.length = 32 →
      ∃ (t : State) (c : Cred), exec (.sustoWorksProcedure key0 cred0) s = .next t ∧ LoggedOne s t 0x13 ∧
        t.sys.life = .provisioned ∧ t.sys.key0 = key0 ∧ t.sys.scan = false ∧ t.sys.creds[0]? = some c ∧ c.on = true ∧
        c.role = .guardian ∧ c.key = bytesOfNat 32 cred0 ∧ (∀ k, k ≠ 0 → t.sys.creds[k]? = s.sys.creds[k]?) ∧
        t = { s with sys := t.sys, peat := { s.peat with pageN := t.peat.pageN, pageT := t.peat.pageT } }) ∧
    (∀ key0 cred0 : Nat, s.sys.life = .provisioned ∨ s.sys.life = .retired → exec (.sustoWorksProcedure key0 cred0) s = .next s) ∧
    (∀ u : Nat, s.up = true → u ≤ 100 → s.mbx.level ≤ 3 →
      let hit := if 90 ≤ u then 3 else if 75 ≤ u then 2 else if 60 ≤ u then 1 else 0
      ∃ t : State, exec (.loadLevelChange u) s = .next t ∧
        t = { s with mbx := { s.mbx with util := u, level := t.mbx.level, lowRun := t.mbx.lowRun, lvlMs := t.mbx.lvlMs
                                         irq := t.mbx.irq, msi := t.mbx.msi } } ∧
        (s.mbx.level < hit → t.mbx.level = hit ∧ t.mbx.lowRun = 0 ∧ t.mbx.irq.getLsbD 3 = true) ∧
        (hit ≤ s.mbx.level → 0 < s.mbx.level → u + 10 ≤ levelFrom s.mbx.level → 9 ≤ s.mbx.lowRun →
          t.mbx.level = s.mbx.level - 1 ∧ t.mbx.lowRun = 0 ∧ t.mbx.irq.getLsbD 3 = true) ∧
        (hit ≤ s.mbx.level → u + 10 ≤ levelFrom s.mbx.level → s.mbx.lowRun < 9 →
          t.mbx.level = s.mbx.level ∧ t.mbx.lowRun = s.mbx.lowRun + 1 ∧ t.mbx.irq = s.mbx.irq) ∧
        (hit ≤ s.mbx.level → levelFrom s.mbx.level < u + 10 → t.mbx.level = s.mbx.level ∧ t.mbx.lowRun = 0 ∧ t.mbx.irq = s.mbx.irq))

/-- The end or the timeout of a self-test slice is recorded, and the next slice runs or the module reaches STANDBY
(14_configuration_and_lifecycle.md, self-test (R497, R498, R500, R501, R502, R505)). -/
def Obligations.SelfTestSlicesAreRecorded : Prop :=
  ∀ (s : State) (x : SliceS), s.sys.shut = 2 → s.sys.sliceGo = true → s.sys.tests[s.sys.slice]? = some x → s.sys.lifeReq = none →
    let kept := fun (t : State) => t.sys.slots = s.sys.slots ∧ t.sys.life = s.sys.life ∧
      (t.sys.sliceGo = true ∧ t.sys.shut = 2 ∧ t.sys.st = s.sys.st ∨ t.sys.sliceGo = false ∧ t.sys.st = .standby) ∧
      t.sys.lastSl = s.sys.slice ∧ s.sys.seqNo < t.sys.seqNo ∧
      (∀ (k : Nat) (y : SliceS), k ≠ s.sys.slice → s.sys.tests[k]? = some y → ∃ z : SliceS, t.sys.tests[k]? = some z ∧
        z.tai = y.tai ∧ z.ms = y.ms ∧ z.spares = y.spares ∧ z.fails = y.fails ∧ z.units = y.units ∧ z.okTai = y.okTai)
    (∀ r : SliceRes, r.outcome = .pass ∨ r.outcome = .repaired ∨ r.outcome = .fail →
      ∃ (t : State) (z : SliceS), exec (.selfTestSliceEnd r) s = .next t ∧ kept t ∧ t.sys.tests[s.sys.slice]? = some z ∧
        z.tai = s.now ∧ z.ms = r.ms ∧ z.spares = min 255 r.spares ∧ z.fails = min 255 r.fails ∧ z.units = r.units ∧
        z.okTai = (if r.outcome = .fail then x.okTai else s.now)) ∧
    (∃ (t : State) (z : SliceS), exec .sliceTimeout s = .next t ∧ kept t ∧ t.sys.tests[s.sys.slice]? = some z ∧
      z.tai = s.now ∧ z.ms = sliceBudget s.sys.slice ∧ z.okTai = x.okTai)

/-- A due IDENTITY_RETRY ends in READY when the match passes, and else stays in CONFIG_PENDING with the next repetition due
after CFG.020 (14_configuration_and_lifecycle.md, identity match (R489, R490, R491, R492); 08_bramble_protection.md, entry
into READY (R302)). -/
def Obligations.IdentityRetryRepeatsTheMatch : Prop :=
  ∀ (s : State) (obs : WakeObs), s.sys.st = .configPending → s.sys.retry = true →
    (s.sys.retryAt ≤ s.now →
      ∃ t : State, exec (.identityRetry obs) s = .next t ∧ t.sys.finds = (s.identity obs true).2 ∧ t.sys.slots = s.sys.slots ∧
        t.eng.bankA = s.eng.bankA ∧ t.eng.bankB = s.eng.bankB ∧ t.sys.life = s.sys.life ∧
        ((s.identity obs true).2 = [] → (t.sys.st = .ready ∨ t.sys.st = .faulted) ∧ t.sys.retry = false) ∧
        ((s.identity obs true).2 ≠ [] →
          t.sys.st = .configPending ∧ t.sys.retry = true ∧ t.sys.retryAt = s.now + s.pn gCFG 20 ∧ t.safetyOff)) ∧
    (s.now < s.sys.retryAt → exec (.identityRetry obs) s = .next s)

/-- A due journal commit, audit page and record go to Peat; what was waiting is counted down and what is stored is counted up
(15_peat_store.md, journal, audit pages, records and their precedence (R519, R521, R523, R524, R525, R526);
12_clocks_time_power.md, AO mirror (R446); 11_reedbed_recorder.md, records (R410)). -/
def Obligations.PeatWritesWhatIsDue : Prop :=
  ∀ s : State, s.up = true →
    (8 ≤ s.peat.dirty ∨ (0 < s.peat.dirty ∧ s.peat.lastC + s.pn gSTO 4 ≤ s.now) →
      ∃ t : State, exec .journalCommit s = .next t ∧ t = { s with peat := t.peat } ∧ t.peat.dirty = 0 ∧
        t.peat.commitN = s.peat.commitN + 1 ∧ t.peat.lastC = s.now ∧ t.peat.mirSeq = s.sys.seqNo ∧
        t.peat.mirSec = s.now / 1000000000 ∧ t.peat.mirEp = s.twin.epoch ∧ t.peat.movs = [] ∧ t.peat.recs = s.peat.recs ∧
        t.peat.bad = s.peat.bad ∧ t.peat.pageN = s.peat.pageN ∧
        (s.peat.commitN = 0 ∨ s.peat.commitN % 64 ≠ 0 → t.peat.blocks = movedMap s.peat.movs s.peat.blocks)) ∧
    (s.journalDue = true → exec .auditPageWrite s = .next s) ∧
    (s.journalDue = true ∨ s.auditDue = true → exec .recordWritten s = .next s) ∧
    (s.journalDue = false → 64 ≤ s.peat.pageN ∨ (0 < s.peat.pageN ∧ s.peat.pageT + s.pn gSTO 5 ≤ s.now) →
      ∃ t : State, exec .auditPageWrite s = .next t ∧ t = { s with peat := t.peat } ∧ t.peat.pageN = s.peat.pageN - 64 ∧
        t.peat.pageT = s.now ∧ t.peat.stored = s.sys.seqNo - (s.peat.pageN - 64) ∧ t.peat.recs = s.peat.recs ∧
        t.peat.bad = s.peat.bad) ∧
    (∀ (r : Rec) (l : List Rec), s.journalDue = false → s.auditDue = false → s.acq.done_ = r :: l → 64 < s.peat.spare → s.peat.recUsed + r.size ≤ recBytes →
      ∃ t : State, exec .recordWritten s = .next t ∧ t = { s with peat := t.peat, acq := { s.acq with done_ := l } } ∧
        t.peat.recs = r :: s.peat.recs ∧ t.peat.recUsed = s.peat.recUsed + r.size ∧ t.peat.full = false ∧ t.peat.pageN = s.peat.pageN)

/-- A scrub read is counted by its bit errors, a failed block is replaced, and an uncorrectable page costs only what it held
(15_peat_store.md, failures and scrubbing (R515, R517, R521, R522, R523, R525, R530, R532)). -/
def Obligations.PeatReadsAndFailures : Prop :=
  ∀ s : State, s.up = true →
    (∀ pg : PageObs, s.peatFree .scrub = true → (∀ b ∈ pg.bits, b < s.pn gSTO 2 ∨ 24 < b) → (mGet s.peat.reads pg.block).getD 0 + 1 < 100000 →
      ∃ t : State, exec (.scrubRead pg) s = .next t ∧ t = { s with peat := t.peat } ∧ t.peat.blocks = s.peat.blocks ∧
        t.peat.bad = s.peat.bad ∧ t.peat.recs = s.peat.recs ∧ t.peat.nRetry = wrap32 (s.peat.nRetry + pg.retries) ∧
        t.peat.hist = pg.bits.foldl (fun h b => h.modify (errClass b) (fun k => wrap32 (k + 1))) s.peat.hist ∧
        (s.peat.pages ≤ s.peat.scrub.getD 0 + 1 → t.peat.scrub = none ∧ t.peat.scrubT = s.now ∧ t.peat.overdue = false) ∧
        (s.peat.scrub.getD 0 + 1 < s.peat.pages → t.peat.scrub = some (s.peat.scrub.getD 0 + 1))) ∧
    (∀ pg : PageObs, s.peatFree .scrub = true → (∃ b ∈ pg.bits, s.pn gSTO 2 ≤ b ∧ b ≤ 24) → s.peat.movable pg.block = true →
      s.peat.freeBlocks ≠ [] →
      ∃ (t : State) (n : Nat), exec (.scrubRead pg) s = .next t ∧ n ∈ s.peat.freeBlocks ∧ (pg.block, n) ∈ t.peat.movs ∧
        t.peat.blocks = s.peat.blocks ∧ t.peat.recs = s.peat.recs ∧ t.rcBit 250 0 4 = true) ∧
    (∀ pg : PageObs, s.journalDue = true ∨ s.auditDue = true ∨ s.recDue = true → exec (.scrubRead pg) s = .next s) ∧
    (∀ (b : Nat) (e : Bool), b < 32768 → b ∉ s.peat.bad →
      ∃ t : State, exec (.programEraseFailure b e) s = .next t ∧ t = { s with peat := t.peat, sys := t.sys } ∧
        t.peat.bad = s.peat.bad ++ [b] ∧ t.peat.spare = s.peat.spare - 1 ∧
        t.peat.nErase = (if e then wrap32 (s.peat.nErase + 1) else s.peat.nErase) ∧
        t.peat.nProg = (if e then s.peat.nProg else wrap32 (s.peat.nProg + 1)) ∧ (∀ x ∈ t.peat.blocks, x.1 ≠ b) ∧
        t.peat.recs = s.peat.recs ∧ t.sys.slots = s.sys.slots) ∧
    (∀ part item last : Nat, peatCopies part = 2 →
      ∃ t : State, exec (.uncorrectable part false item last) s = .next t ∧ t.sys = s.sys ∧ t.peat.blocks = s.peat.blocks ∧
        t.peat.recs = s.peat.recs ∧ t.peat.guFile = s.peat.guFile ∧ t.rcBit 250 0 4 = true ∧
        (s.peat.movable last = true → s.peat.freeBlocks ≠ [] →
          ∃ n : Nat, n ∈ s.peat.freeBlocks ∧ t.peat.movs = s.peat.movs ++ [(last, n)])) ∧
    (∀ item last : Nat, ∃ a b c d e f : State,
      (∀ t ∈ [a, b, c, d, e, f], t = { s with sys := t.sys, peat := t.peat, pub := { s.pub with ev := t.pub.ev } }) ∧
      exec (.uncorrectable 0 true item last) s = .next a ∧ a.sys.fwOk = s.sys.fwOk.set item false ∧ a.sys.slots = s.sys.slots ∧
      exec (.uncorrectable 1 true item last) s = .next b ∧
        b.sys.slots = s.sys.slots.modify item (fun y => { y with complete := false }) ∧ b.sys.fwOk = s.sys.fwOk ∧
      exec (.uncorrectable 2 true item last) s = .next f ∧ f.peat.keysLost = true ∧ f.mute = true ∧
      exec (.uncorrectable 3 false item last) s = .next c ∧ c.sys.xfer = none ∧ c.peat.guFile = [] ∧ c.sys.slots = s.sys.slots ∧
      exec (.uncorrectable 5 false item last) s = .next d ∧ d.sys.cache = s.sys.cache.filter (fun r => r.1 != item) ∧
      exec (.uncorrectable 8 false item last) s = .next e ∧
        e.peat.recs = s.peat.recs.map (fun r => if r.num == item && r.kept then { r with status := 3, dam := r.dam ++ [last] } else r) ∧
        e.peat.nDam = (if s.peat.recs.any (fun r => r.num == item && r.status == 0) then wrap32 (s.peat.nDam + 1) else s.peat.nDam) ∧ e.rcBit 250 0 7 = true ∧
      a.rcBit 250 0 5 = true ∧ b.rcBit 250 0 5 = true ∧ c.rcBit 250 0 5 = true ∧ d.rcBit 250 0 5 = true ∧ e.rcBit 250 0 5 = true)

/-- A field frame is evaluated by its thresholds, a level changes after its filter, and a wire break delivers low until it is
cleared (16_field_io.md, inputs (R538, R540, R541, R542, R543, R545); 04_grid_forming_kernel.md, black start (R153)). -/
def Obligations.FieldInputsDebounceAndReport : Prop :=
  ∀ s : State, s.up = true →
    (∀ f : FieldObs, f.ok = true → ∃ t : State, exec (.fieldFrame f) s = .next t ∧ t = { s with fio := t.fio } ∧
      t.fio.lev = s.fio.lev ∧ t.fio.lat = s.fio.lat ∧ t.fio.brk = s.fio.brk ∧ t.fio.lastF = s.now ∧ t.fio.ok = true ∧
      t.fio.silent = s.fio.silent ∧ t.fio.lplus = f.lplus ∧ (∀ o y, s.fio.outs[o]? = some y → ∃ z, t.fio.outs[o]? = some z ∧
        z.cmd = y.cmd ∧ z.latch = y.latch ∧ z.mA = f.current.getD o 0) ∧
      (∀ k, k < 16 → ((Config.groupA k).1 < f.mv.getD k 0 → t.fio.raw.getLsbD k = true) ∧
        (f.mv.getD k 0 < (Config.groupA k).2.1 → f.mv.getD k 0 ≤ (Config.groupA k).1 → t.fio.raw.getLsbD k = false) ∧
        ((Config.groupA k).2.1 ≤ f.mv.getD k 0 → f.mv.getD k 0 ≤ (Config.groupA k).1 → t.fio.raw.getLsbD k = s.fio.raw.getLsbD k)) ∧
      (∀ k, 16 ≤ k → k < 32 →
        ((groupB (s.pn gFIO 5 ((k - 16) / 8))).1 ≤ f.mv.getD k 0 → t.fio.raw.getLsbD k = true) ∧
        (f.mv.getD k 0 ≤ (groupB (s.pn gFIO 5 ((k - 16) / 8))).2 → t.fio.raw.getLsbD k = false) ∧
        ((groupB (s.pn gFIO 5 ((k - 16) / 8))).2 < f.mv.getD k 0 → f.mv.getD k 0 < (groupB (s.pn gFIO 5 ((k - 16) / 8))).1 →
          t.fio.raw.getLsbD k = s.fio.raw.getLsbD k))) ∧
    (∀ f : FieldObs, f.ok = false → exec (.fieldFrame f) s = .next (s.rcSet 263 0 5)) ∧
    (∀ (k : Nat) (b : Bool), k < 32 → s.fio.raw.getLsbD k = b → s.fio.lev.getLsbD k ≠ b → s.pn gFIO 1 k + 1 ≤ s.fio.since.getD k 0 →
      ∃ t : State, exec (.inputLevelChange k b) s = .next t ∧
        t = { s with fio := { s.fio with lev := t.fio.lev, since := s.fio.since.set k 0 }, kern := { s.kern with bsEdge := t.kern.bsEdge } } ∧
        (∀ j, j < 32 → t.fio.lev.getLsbD j = if j = k then b else s.fio.lev.getLsbD j) ∧
        t.kern.bsEdge = (s.kern.bsEdge || (b && s.pn gGFM 3 == k + 1))) ∧
    (∀ k, k < 16 → s.fio.lpMiss = false →
      (s.pb gFIO 3 k = true → wireSamples ≤ s.fio.below.getD k 0 →
        ∃ t : State, exec (.wireBreak k) s = .next t ∧ t = { s with fio := { s.fio with brk := t.fio.brk } } ∧
          ∀ j, j < 32 → t.fio.brk.getLsbD j = (j == k || s.fio.brk.getLsbD j)) ∧
      (s.fio.brk.getLsbD k = true → wireSamples ≤ s.fio.above.getD k 0 →
        ∃ t : State, exec (.wireBreakCleared k) s = .next t ∧ t = { s with fio := { s.fio with brk := t.fio.brk } } ∧
          ∀ j, j < 32 → t.fio.brk.getLsbD j = (j != k && s.fio.brk.getLsbD j)))

/-- Thermal shut-downs, load faults and test pulses mark the outputs they concern and latch off those they must
(16_field_io.md, outputs (R546, R548, R549, R550, R552, R553); 02_measurement_and_angle.md, compare output (R88)). -/
def Obligations.FieldOutputFaults : Prop :=
  ∀ (s : State) (o : Nat) (y : OutS), s.up = true → o < 16 → s.fio.outs[o]? = some y →
    (y.cmd = true → y.limit = true → y.therm = false →
      ∃ (t : State) (z : OutS), exec (.thermalShutdown o) s = .next t ∧ OnlyAt o s.fio.outs t.fio.outs ∧
        t = { s with fio := { s.fio with outs := t.fio.outs }, sys := t.sys, peat := t.peat } ∧ t.fio.outs[o]? = some z ∧
        z.therm = true ∧ z.nTherm = wrap32 (y.nTherm + 1) ∧
        (2 ≤ (y.shuts.filter (fun a => decide (s.now < a + 10000000000))).length → s.fio.lpMiss = false →
          z.gnd = true ∧ z.latch = true ∧ z.cmd = false) ∧
        ((y.shuts.filter (fun a => decide (s.now < a + 10000000000))).length < 2 →
          z.gnd = y.gnd ∧ z.latch = y.latch ∧ z.cmd = true ∧ t.sys = s.sys)) ∧
    (y.therm = true → ∃ t : State, exec (.outputThermalRestart o) s = .next t ∧ OnlyAt o s.fio.outs t.fio.outs ∧
      t = { s with fio := { s.fio with outs := t.fio.outs } } ∧ t.fio.outs[o]? = some { y with therm := false }) ∧
    (s.fio.lpMiss = false →
      (y.cmd = true → s.pb gFIO 27 o = true → y.mA < 3 → y.open_ = false →
        ∃ t : State, exec (.outputFault o .openLoad true) s = .next t ∧ OnlyAt o s.fio.outs t.fio.outs ∧
          t = { s with fio := { s.fio with outs := t.fio.outs }, sys := t.sys, peat := t.peat } ∧
          t.fio.outs[o]? = some { y with open_ := true }) ∧
      (y.open_ = true → ∃ t : State, exec (.outputFault o .openLoad false) s = .next t ∧ OnlyAt o s.fio.outs t.fio.outs ∧
          t = { s with fio := { s.fio with outs := t.fio.outs }, sys := t.sys, peat := t.peat } ∧
          t.fio.outs[o]? = some { y with open_ := false }) ∧
      (y.cmd = false → y.term = true → s.outPaired o = false → y.extHi = false →
        ∃ t : State, exec (.outputFault o .extHigh true) s = .next t ∧ OnlyAt o s.fio.outs t.fio.outs ∧
          t = { s with fio := { s.fio with outs := t.fio.outs }, sys := t.sys, peat := t.peat } ∧
          t.fio.outs[o]? = some { y with extHi := true }) ∧
      (y.extHi = true → ∃ t : State, exec (.outputFault o .extHigh false) s = .next t ∧ OnlyAt o s.fio.outs t.fio.outs ∧
          t = { s with fio := { s.fio with outs := t.fio.outs }, sys := t.sys, peat := t.peat } ∧
          t.fio.outs[o]? = some { y with extHi := false })) ∧
    (∀ obs : PulseObs, y.cmd = true → y.therm = false → s.pb gFIO 24 o = true → s.cmpHolds o = false → s.outPaired o = false →
      y.lastT + s.pn gFIO 26 ≤ s.now → s.fio.lastPulse + 10000000 ≤ s.now → s.hdgQuiet = true → s.fio.lpMiss = false → obs.off = false →
      (obs.fell = true → obs.others = [] →
        ∃ t : State, exec (.fieldTestPulse o obs) s = .next t ∧ OnlyAt o s.fio.outs t.fio.outs ∧
          t = { s with fio := { s.fio with outs := t.fio.outs, lastPulse := s.now } } ∧
          t.fio.outs[o]? = some { y with lastT := s.now, nTest := wrap32 (y.nTest + 1) }) ∧
      (obs.fell = false → obs.joint = none →
        ∃ (t : State) (z : OutS), exec (.fieldTestPulse o obs) s = .next t ∧ OnlyAt o s.fio.outs t.fio.outs ∧
          t.fio.outs[o]? = some z ∧ z.extHi = true ∧ z.nTest = wrap32 (y.nTest + 1) ∧ z.latch = y.latch) ∧
      (∀ j, obs.fell = false → obs.joint = some j → j < 16 → j ≠ o → (s.outS j).cmd = true → s.fio.outs.length = 16 →
        ∃ (t : State) (z w : OutS), exec (.fieldTestPulse o obs) s = .next t ∧ t.fio.outs[o]? = some z ∧ t.fio.outs[j]? = some w ∧
          z.cross = true ∧ z.latch = true ∧ z.cmd = false ∧ w.cross = true ∧ w.latch = true ∧ w.cmd = false ∧
          ∀ k, k ≠ o → k ≠ j → t.fio.outs[k]? = s.fio.outs[k]?)) ∧
    (∀ (k e : Nat) (x : Trk), s.trk[k]? = some x → x.pulseEnd = some e → e ≤ s.now →
      ∃ t : State, exec (.compareOutputPulseEnd k) s = .next t ∧ t = { s with trk := t.trk, fio := { s.fio with outs := t.fio.outs } } ∧
        OnlyAt k s.trk t.trk ∧ t.trk[k]? = some { x with pulseEnd := none } ∧
        (s.cmpOut k ≠ some o → t.fio.outs[o]? = some y))

/-- Logic silence puts outputs to safe states until frames return, and L+, cages and base temperature are reported with
hysteresis (16_field_io.md, silence and supply (R555, R556, R558); 17_module_hardware.md, cages and temperature (R565,
R573)). -/
def Obligations.SilenceSupplyAndPlatform : Prop :=
  ∀ s : State, s.up = true →
    (s.fio.silent = false → s.fio.lastF + s.pn gFIO 23 ≤ s.now →
      ∃ t : State, exec .logicSilence s = .next t ∧ t = { s with fio := t.fio, pub := { s.pub with ev := t.pub.ev } } ∧
        t.rcBit 263 0 4 = true ∧ t.fio.silent = true ∧ t.fio.silAt = s.now ∧ t.fio.lev = s.fio.lev ∧
        ∀ (o : Nat) (y : OutS), s.fio.outs[o]? = some y → t.fio.outs[o]? = some { y with cmd := s.outSafe o y.cmd, safe := true }) ∧
    (s.fio.silent = true → s.fio.ok = true →
      ∃ t : State, exec .fieldFramesReturn s = .next t ∧ (∃ ty, LoggedOne s t ty) ∧
        t = { s with fio := { s.fio with silent := false, silHold := true }, sys := t.sys, peat := t.peat }) ∧
    (∃ t : State, exec .lplusMonitor s = .next t ∧ t = { s with fio := { s.fio with lpMiss := t.fio.lpMiss, lpLow := t.fio.lpLow } } ∧
      (lpSamples ≤ s.fio.lpMissN → t.fio.lpMiss = true) ∧ (s.fio.lpMissN < lpSamples → lpSamples ≤ s.fio.lpMissC → t.fio.lpMiss = false) ∧
      (s.fio.lpMissN < lpSamples → s.fio.lpMissC < lpSamples → t.fio.lpMiss = s.fio.lpMiss) ∧
      (lpSamples ≤ s.fio.lpLowN → t.fio.lpLow = true) ∧ (s.fio.lpLowN < lpSamples → lpSamples ≤ s.fio.lpLowC → t.fio.lpLow = false) ∧
      (s.fio.lpLowN < lpSamples → s.fio.lpLowC < lpSamples → t.fio.lpLow = s.fio.lpLow)) ∧
    (∀ present fault : Bool, ∃ a b : State, exec (.sfpInsertRemove true present fault) s = .next a ∧
      a = { s with hw := { s.hw with e2 := present }, pub := { s.pub with ev := a.pub.ev } } ∧
      (fault = true → a.rcBit 270 0 7 = true) ∧ (fault = false → a.pub = s.pub) ∧
      exec (.sfpInsertRemove false present fault) s = .next b ∧ b.hw = { s.hw with e1 := present } ∧
      (fault = true → b.rcBit 270 0 6 = true) ∧ (present = true → b.mbx = s.mbx ∧ b.sys = s.sys) ∧
      (present = false → ∀ ch, ch < 8 → (b.chan ch).e1 = false)) ∧
    (∀ x : F32, ∃ t : State, exec (.temperatureThreshold x) s = .next t ∧
      t = { s with hw := t.hw, pub := { s.pub with ev := t.pub.ev } } ∧ t.hw.base = x ∧
      t.hw.high = (fGt x (degC 70) || (s.hw.high && !fLe x (degC 68))) ∧
      t.hw.limit = (fGt x (degC 80) || (s.hw.limit && !fLe x (degC 78))) ∧
      t.hw.low = (fLt x (degC (-25)) || (s.hw.low && !fGe x (degC (-23)))) ∧
      (t.hw.limit = true → s.hw.limit = false → t.rcBit 270 0 1 = true) ∧ t.hw.e1 = s.hw.e1 ∧ t.hw.e2 = s.hw.e2)

/-- The recorder is armed when its ring is full, holds off after a record, and reserves memory again or waits for it
(11_reedbed_recorder.md, recorder states (R400, R402, R404, R410)). -/
def Obligations.RecorderStates : Prop :=
  ∀ s : State,
    (s.acq.st = .filling → s.nPre ≤ s.acq.ring.length →
      exec .preTriggerFilled s = .next { s with acq := { s.acq with st := .armed } }) ∧
    (∀ r : Rec, s.acq.cur = some r → s.acq.st = .recording → s.recordFull r = true →
      ∃ (t : State) (z : Rec), exec .recordComplete s = .next t ∧ t = { s with acq := t.acq, pub := { s.pub with ev := t.pub.ev } } ∧
        t.acq.done_ = s.acq.done_ ++ [z] ∧ z.num = r.num ∧ z.data = r.data ∧ z.redu = r.redu ∧ z.trigF = r.trigF ∧ z.size = s.sRec ∧
        t.acq.cur = none ∧ t.rcBit 190 0 4 = true ∧
        (s.acq.stopDis = false → (if s.pn gACQ 7 = 1 then s.pn gACQ 9 else s.pn gACQ 8) ≠ 0 →
          t.acq.st = .holdoff ∧ t.acq.hoEnd = s.now + s.pn gACQ 8 ∧ t.acq.hoCnt = s.pn gACQ 9) ∧
        (s.acq.stopDis = true → t.acq.st = .disarmed)) ∧
    (s.acq.st = .holdoff → (if s.pn gACQ 7 = 1 then s.acq.hoCnt = 0 else s.acq.hoEnd ≤ s.now) →
      ∃ t : State, exec .holdoffEnd s = .next t ∧ t = { s with acq := t.acq } ∧ t.acq.done_ = s.acq.done_ ∧ t.acq.ring = [] ∧
        (s.acq.stopDis = true → t.acq.st = .disarmed ∧ t.acq.held = false) ∧
        (s.acq.stopDis = false → s.sRec ≤ s.acqFree → t.acq.st = .filling ∧ t.acq.held = true) ∧
        (s.acq.stopDis = false → s.acqFree < s.sRec → t.acq.st = .waitMemory ∧ t.acq.held = false)) ∧
    (s.acq.st = .waitMemory → s.sRec ≤ s.acqFree →
      exec .memoryReserved s = .next { s with acq := { s.acq with
        st := .filling, held := true, ring := [], rawRing := [[], [], [], []], cur := none } })

/-- The kernel arms the compare after N_match samples, gives up a missed closing, and takes its due transitions in the
present sample (04_grid_forming_kernel.md, mode transitions and synchronisation (R149, R150, R156, R159, R160)). -/
def Obligations.KernelOwnSteps : Prop :=
  ∀ s : State,
    (∀ (k : Nat) (y : Trk), s.kernOn = true → s.kern.core.mode = .sync → s.kern.synArm = false → s.kern.synHold = false →
      s.kern.fired = none → s.syncTrk = some k → s.trk[k]? = some y → (s.gw s.eng.actB 73).toNat ≤ s.kern.core.matchN →
      ∃ t : State, exec .syncCompareArmed s = .next t ∧
        t = { s with trk := t.trk, par := { s.par with vals := t.par.vals }, kern := { s.kern with synArm := true } } ∧
        OnlyAt k s.trk t.trk ∧
        t.trk[k]? = some { y with evalDue := !y.set.armed || y.evalDue, set := { y.set with armed := true } }) ∧
    (∀ t0 : Nat, s.kernOn = true → s.kern.core.mode = .sync → s.kern.fired = some t0 → s.kern.synHold = false → t0 + s.pn gGFM 76 ≤ s.now →
      ∃ t : State, exec .syncFail s = .next t ∧ LoggedOne s t 0x21 ∧ t.rcBit 80 0 14 = true ∧
        t = { s with kern := { s.kern with synHold := true, synArm := false }, pub := { s.pub with ev := t.pub.ev }
                     sys := t.sys, peat := t.peat }) ∧
    (s.kern.due6 = true → ∃ (t : State) (n : KNext), exec .syncAbort s = .next t ∧ t.kern.next = some n ∧ n.trans = some 6 ∧
      n.core.mode = .forming ∧ t.kern.due6 = false ∧ t.kern.core = s.kern.core ∧ t.kern.out = s.kern.out ∧
      t = { s with kern := t.kern, eng := { s.eng with runs := t.eng.runs, readBad := t.eng.readBad } }) ∧
    (s.kern.due4 = true → ∃ (t : State) (n : KNext), exec .limitedReturn s = .next t ∧ t.kern.next = some n ∧ n.trans = some 4 ∧
      n.core.mode = s.kern.core.ret ∧ t.kern.due4 = false ∧ t.kern.core = s.kern.core ∧ t.kern.out = s.kern.out ∧
      t = { s with kern := t.kern, eng := { s.eng with runs := t.eng.runs, readBad := t.eng.readBad } })

/-- A block of link T with a bad CRC or number is discarded and counted; a good one does what its type says to lead and
shadow (09_twin_operation.md, link T (R331, R332, R333, R334, R338, R341, R353); 06_crihel_link.md, ranging and twin chains
(R239, R245); 01_converter_tree.md, frame numbers (R28)). -/
def Obligations.TwinBlocksTaken : Prop :=
  ∀ (s : State) (b : TBlk), s.twinOn = true →
    (b.crcOk = false → ∀ c : Instr, ((∃ v, c = .vector b v) ∨ (∃ p l n, c = .exception b p l n) ∨ (∃ e, c = .seal b e) ∨
        (∃ l, c = .digests b l) ∨ (∃ e r o, c = .hb b e r o) ∨ (∃ d, c = .outDigest b d) ∨ (∃ k, c = .fail b k) ∨ (∃ f, c = .swap b f) ∨
        (∃ l e, c = .state b l e) ∨ (∃ p t l, c = .relay b p t l)) →
      exec c s = .next { s with twin := { s.twin with nCrc := wrap32 (s.twin.nCrc + 1) } }) ∧
    (b.crcOk = true → misaligned s.fr (extendF s.fr b.fnum) = true → ∀ c : Instr, ((∃ v, c = .vector b v) ∨
        (∃ p l n, c = .exception b p l n) ∨ (∃ e, c = .seal b e) ∨ (∃ l, c = .digests b l) ∨ (∃ e r o, c = .hb b e r o) ∨
        (∃ d, c = .outDigest b d) ∨ (∃ k, c = .fail b k) ∨ (∃ f, c = .swap b f) ∨ (∃ l e, c = .state b l e) ∨
        (∃ p t l, c = .relay b p t l)) →
      exec c s = .next { s with twin := { s.twin with nMis := wrap32 (s.twin.nMis + 1) } }) ∧
    (b.crcOk = true → misaligned s.fr (extendF s.fr b.fnum) = false →
      let f := extendF s.fr b.fnum
      (s.isShadow = true →
        (∀ v, exec (.vector b v) s = .next { s with twin := { s.twin with vecs := s.twin.vecs ++ [(f, v)] } }) ∧
        (∀ e, f ≠ s.fr → exec (.seal b e) s = .next { s with twin := { s.twin with
          paired := true, pairF := if s.twin.paired then s.twin.pairF else s.fr
          gotT := if s.fr ≤ f ∧ f ∉ s.twin.ownFs then recentF f s.twin.gotT else s.twin.gotT
          hbF := if s.fr ≤ f ∧ f ∉ s.twin.ownFs then max s.twin.hbF f else s.twin.hbF
          lostT := if s.fr ≤ f ∧ f ∉ s.twin.ownFs then false else s.twin.lostT
          epoch := maxEp s.twin.epoch e } }) ∧
        (∀ a, ∃ t : State, exec (.swap b a) s = .next t ∧ t.twin.plan = some a ∧ t.twin.replied = true ∧
          (s.link.txOn = true → t.twin.txT = s.twin.txT ++ [(s.fr, .swap a)]) ∧
          t = { s with twin := { s.twin with plan := some a, replied := true, txT := t.twin.txT } }) ∧
        (∀ l, s.twin.phase = 2 →
          exec (.state b l false) s = .next { s with twin := { s.twin with imgBuf := s.twin.imgBuf ++ l } }) ∧
        (∀ l, s.twin.phase = 2 → ∃ t : State, exec (.state b l true) s = .next t ∧ t.twin.imgBuf = [] ∧ t.clk = s.clk ∧
          (match Config.stateImage (s.twin.imgBuf ++ l) with
           | none => t = { s with twin := { s.twin with phase := 1, imgBuf := [] } }
           | some _ => t.twin.phase = 3)) ∧
        (∀ (p c : Nat) (y : Cell) (sl : Slot), p < 32 → f = s.fr → s.chanAt p 0 = some c → s.arm.cells[c]? = some y → sl.filled = false →
          s.twin.excN + 8 ≤ 384 → ∃ t : State, exec (.exception b p [sl] []) s = .next t ∧ OnlyAt c s.arm.cells t.arm.cells ∧
            t = { s with arm := { s.arm with cells := t.arm.cells }, twin := { s.twin with excN := s.twin.excN + 8 } } ∧
            t.arm.cells[c]? = some y.noStatus) ∧
        (∀ n, f = s.fr → s.twin.excN + n.length ≤ 384 → ∃ t : State, exec (.exception b 96 [] n) s = .next t ∧
          t = { s with arm := { s.arm with arms := t.arm.arms }, nest := { s.nest with down := some (downOf s.fr n), held := some (downOf s.fr n) }
                       twin := { s.twin with excN := s.twin.excN + n.length } }) ∧
        (∀ p n, p < 32 → f = s.fr →
          (s.twin.excN + n.length ≤ 384 →
            exec (.exception b p [] n) s = .next { s with twin := { s.twin with excN := s.twin.excN + n.length } }) ∧
          (384 < s.twin.excN + n.length → s.twin.excN ≤ 384 →
            ∃ t : State, exec (.exception b p [] n) s = .next t ∧ t = { s with twin := t.twin } ∧ t.twin.phase = 1 ∧
              t.twin.ready = false ∧ t.twin.nOver = wrap32 (s.twin.nOver + 1)))) ∧
      (s.isShadow = false →
        (∀ v, exec (.vector b v) s = .next s) ∧
        (∀ e, exec (.seal b e) s = .next { s with twin := { s.twin with
          paired := true, pairF := if s.twin.paired then s.twin.pairF else s.fr
          gotT := if s.fr ≤ f ∧ f ∉ s.twin.ownFs then recentF f s.twin.gotT else s.twin.gotT
          hbF := if s.fr ≤ f ∧ f ∉ s.twin.ownFs then max s.twin.hbF f else s.twin.hbF
          lostT := if s.fr ≤ f ∧ f ∉ s.twin.ownFs then false else s.twin.lostT
          seenLead := s.twin.seenLead ++ [e] } }) ∧
        (∀ a, s.twin.plan = some a → exec (.swap b a) s = .next { s with twin := { s.twin with replied := true } }) ∧
        (∀ l : List (Nat × Nat), (∀ x ∈ l, x.1 < 32) → s.link.txOn = true →
          ∃ t : State, exec (.digests b l) s = .next t ∧ t = { s with
            link := { s.link with ports := t.link.ports }
            twin := { s.twin with txT := s.twin.txT ++ (l.filter (fun x => s.itemDig x.1 != some x.2)).map (fun x =>
              (s.fr, .exception x.1 (s.port x.1).slots [])) } } ∧
            (∀ (p : Nat) (x : Port), s.link.ports[p]? = some x →
              t.link.ports[p]? = some (if p ∈ l.map (·.1) then { x with digGot := true } else x)))) ∧
      (∀ (e : Nat) (r o : Bool), ∃ t : State, exec (.hb b e r o) s = .next t ∧ t = { s with twin := t.twin } ∧ t.twin.paired = true ∧
        t.twin.pReady = (r && !o) ∧ (s.fr ≤ f → f ∉ s.twin.ownFs → f ∈ t.twin.gotT ∧ t.twin.lostT = false) ∧
        (s.isShadow = false → (r = true → t.twin.phase = 0 ∧ t.twin.partFailed = false) ∧
          (r = false → s.twin.phase = 0 → t.twin.phase = 1))) ∧
      (∀ (p : Nat) (x : Port), s.link.ports[p]? = some x →
        (∀ d, s.topoOf p = 4 → ∃ (t : State) (y : Port), exec (.relay b p (some d) []) s = .next t ∧
          t = { s with link := { s.link with ports := t.link.ports }, arm := { s.arm with cells := t.arm.cells } } ∧
          OnlyAt p s.link.ports t.link.ports ∧ t.link.ports[p]? = some y ∧ y = { x with ttrav := d, loopNs := d, out_ := y.out_ } ∧
          (s.isShadow = true → y.out_ = x.out_) ∧
          (∀ (c : Nat) (z : Cell), s.arm.cells[c]? = some z → t.arm.cells[c]? = some (if z.conf ∧ z.port = p then
            { z with arrH := (s.arrivals p z.pos d z.delta).1, arrT := (s.arrivals p z.pos d z.delta).2 } else z))) ∧
        (∀ d, s.topoOf p ≠ 4 → exec (.relay b p (some d) []) s = .next s) ∧
        (∀ l : List (Nat × Slot), l ≠ [] → ∃ t : State, exec (.relay b p none l) s = .next t ∧
          t = { s with link := { s.link with ports := t.link.ports, stq := s.link.stq ++ l.map (fun y => (f, y.1, { y.2 with relayed := true })) } } ∧
          OnlyAt p s.link.ports t.link.ports ∧ t.link.ports[p]? = some { x with proxy := true, relayF := some s.fr })))

/-- A pair forms with one lead under a raised epoch; a ready shadow takes over from a failed partner; a shadow out of step
resynchronises (09_twin_operation.md, formation, failures, swaps (R325, R329, R335, R337, R338, R340, R342, R343, R344, R346,
R347, R353)). -/
def Obligations.TwinRolesChange : Prop :=
  ∀ s : State, s.pb gTWN 1 = true →
    (∀ p : PairInfo, s.twinOn = true → s.twin.formTai.isSome = true → s.sys.st = .ready → p.sideB ≠ s.twin.sideB →
      p.digest = s.imageDigest →
      (p.leading = false → ∃ t : State, exec (.pairFormation (some p)) s = .next t ∧ LoggedOne s t 0x40 ∧
        t.twin.shadow = s.twin.sideB ∧ t.twin.paired = true ∧ t.twin.formTai = none ∧
        t.twin.epoch = (maxEp s.twin.epoch p.epoch + 1) % 65536 ∧ t = { s with twin := t.twin, sys := t.sys, peat := t.peat }) ∧
      (p.leading = true → ∃ t : State, exec (.pairFormation (some p)) s = .next t ∧ t = { s with twin := t.twin } ∧
        t.twin.shadow = true ∧ t.twin.paired = true ∧ t.twin.formTai = none ∧ t.twin.phase = 1 ∧ t.twin.ready = false ∧
        t.twin.epoch = maxEp s.twin.epoch p.epoch)) ∧
    (∀ c : Instr, (c = .partnerFailed ∧ s.partnerDead = true ∨ (∃ b k, c = .fail b k ∧ s.twinOn = true ∧ b.crcOk = true ∧
        misaligned s.fr (extendF s.fr b.fnum) = false ∧ s.twin.partFailed = false)) →
      s.twin.latchDue = 0 → s.twin.shadow = true → s.twin.selfFailed = false → s.twin.plan = none →
      ∃ t : State, exec c s = .next t ∧ t.twin.shadow = false ∧ t.twin.partFailed = true ∧ t.twin.phase = 0 ∧
        t.twin.epoch = (s.twin.epoch + 1) % 65536 ∧ t.twin.nForced = wrap32 (s.twin.nForced + 1) ∧
        (s.twin.ready = true → LoggedOne s t 0x40 ∧ t.sys.st = s.sys.st ∧
          t = { s with twin := t.twin, arm := { s.arm with cells := t.arm.cells, arms := t.arm.arms }, sys := t.sys, peat := t.peat } ∧
          ((∃ b k, c = .fail b k) → t.arm = s.arm) ∧ (∀ k, (t.cell k).acct = (s.cell k).acct ∧ (t.cell k).cmd = (s.cell k).cmd)) ∧
        (s.twin.ready = false → s.sys.st = .running ∨ s.sys.st = .ready → t.sys.st = .faulted)) ∧
    (∀ (b : TBlk) (g own d : Nat), s.twinOn = true → b.crcOk = true → misaligned s.fr (extendF s.fr b.fnum) = false →
      s.twin.ownDig = some (g, own) → extendF s.fr b.fnum = g → s.twin.shadow = true → s.twin.ready = true →
      (d = own → exec (.outDigest b d) s = .next s) ∧
      (d ≠ own → ∃ t : State, exec (.outDigest b d) s = .next t ∧ LoggedOne s t 0x40 ∧ t.rcBit 170 0 9 = true ∧ t.twin.ready = false ∧
        t.twin.plan = none ∧ t = { s with twin := t.twin, sys := t.sys, peat := t.peat, pub := { s.pub with ev := t.pub.ev } })) ∧
    (∀ d, s.twin.shadow = true → s.twin.phase = 4 → s.twin.ownDig = some (s.fr, d) → s.twin.giveup = false →
      ∃ t : State, exec (.resyncComplete d) s = .next t ∧ LoggedOne s t 0x40 ∧ t.twin.ready = true ∧ t.twin.phase = 0 ∧
        t.twin.durSync = wrap32 ((s.now - s.twin.rsStart) / 1000) ∧ t = { s with twin := t.twin, sys := t.sys, peat := t.peat }) ∧
    (s.twin.shadow = true → s.pn gTWN 8 ≤ s.twin.joinBad → s.twin.giveup = false →
      ∃ t : State, exec .resyncGiveup s = .next t ∧ LoggedOne s t 0x40 ∧ t.twin.giveup = true ∧ t.twin.ready = false ∧ t.twin.phase = 0 ∧
        t = { s with twin := t.twin, sys := t.sys, peat := t.peat }) ∧
    (s.twin.paired = true → s.twin.missing4 s.twin.gotC s.hbDue = true → s.twin.missing4 s.twin.gotT s.hbDue = false → s.twin.lostC = false →
      exec (.heartbeatPathLost true) s = .next { s with twin := { s.twin with lostC := true } }) ∧
    (s.twin.paired = true → s.twin.missing4 s.twin.gotT s.fr = true → s.twin.missing4 s.twin.gotC s.hbDue = false → s.twin.lostT = false →
      exec (.heartbeatPathLost false) s = .next { s with twin := { s.twin with lostT := true } }) ∧
    (s.pn gTWN 2 = 1 → s.twin.lastChg + s.pn gTWN 3 ≤ s.now → s.twin.shadow = false → s.twin.paired = true → s.twin.plan = none →
      ∃ t : State, exec .swapPeriodElapsed s = .next t ∧ t.twin.plan = some (s.nextSup s.fr + s.fpms) ∧ t.twin.replied = false ∧
        t = { s with twin := { s.twin with plan := t.twin.plan, replied := false, txT := t.twin.txT } }) ∧
    (∀ seen : Bool, s.twin.shadow = true → s.twin.latchDue ≠ 0 →
      ∃ t : State, exec (.sealMissing seen) s = .next t ∧ t.twin.latchDue = 0 ∧ t.twin.nOwn = wrap32 (s.twin.nOwn + 1))

/-- A frame boundary advances frame number and time by the grid, a control boundary starts its group, a supervisory one takes
its sensors (01_converter_tree.md, timing grid (R24, R25, R26, R27); 03_loop_engine.md, groups and banks (R97, R119);
09_twin_operation.md, latch (R335)). -/
def Obligations.BoundariesAdvanceTheGrid : Prop :=
  ∀ s : State,
    (∀ obs : EngObs, s.up = true → s.twin.latchDue = 0 → ∃ t : State, exec (.frameBoundary obs) s = .next t ∧
      t.clk.frame = s.clk.tai / s.tf + 1 ∧ t.clk.tai = (s.clk.tai / s.tf + 1) * s.tf ∧ t.clk.frac = 0) ∧
    (∀ obs : EngObs, s.up = false → exec (.frameBoundary obs) s = .next s) ∧
    (s.coreGo = true → s.isCtl s.fr = true → (∀ r, s.eng.runs.getD 1 none = some r → r.startF ≠ s.fr) → s.eng.runs.length = 4 →
      (s.twin.latchDue = 1 →
        exec .controlSampleBoundary s = .next { s with twin := { s.twin with latchDue := 3 } }) ∧
      (s.twin.latchDue = 0 → ∃ t : State, exec .controlSampleBoundary s = .next t ∧ t.clk = s.clk ∧
        t.eng.actB = (if s.swapDue s.fr then !s.eng.actB else s.eng.actB) ∧
        t.eng.swapAt = (if s.swapDue s.fr then none else s.eng.swapAt) ∧
        t.eng.bankA = s.eng.bankA ∧ t.eng.bankB = s.eng.bankB ∧
        (s.engOn = true → ∃ r : Run, t.eng.runs.getD 1 none = some r ∧ r.startF = s.fr))) ∧
    (s.isCtl s.fr = false → exec .controlSampleBoundary s = .next s) ∧
    (∀ sens : Sensors, s.up = true → s.isSup s.fr = true → (∀ r, s.eng.runs.getD 2 none = some r → r.startF ≠ s.fr) →
      s.eng.runs.length = 4 → s.twin.latchDue.testBit 2 = false →
      ∃ t : State, exec (.supervisorySampleBoundary sens) s = .next t ∧ t.clk.vbatMv = sens.vbat ∧ t.clk.v24Mv = sens.v24 ∧
        t.hw.temps = sens.temps ∧
        (s.coreGo = true → s.engOn = true → s.twin.latchDue = 0 → ∃ r : Run, t.eng.runs.getD 2 none = some r ∧ r.startF = s.fr)) ∧
    (∀ sens : Sensors, s.isSup s.fr = false → exec (.supervisorySampleBoundary sens) s = .next s)
end

