-- ==== Sys2Proof/Laws/State.lean ====
section
/-!
SUPPORT. One lemma per field per update of State, each true by unfolding.
-/
namespace Sys2Proof.Machine

@[simp] theorem modClk_clk (s : State) (g : Clk → Clk) : (s.modClk g).clk = g s.clk := rfl
@[simp] theorem modClk_meas (s : State) (g : Clk → Clk) : (s.modClk g).meas = s.meas := rfl
@[simp] theorem modClk_eng (s : State) (g : Clk → Clk) : (s.modClk g).eng = s.eng := rfl
@[simp] theorem modClk_kern (s : State) (g : Clk → Clk) : (s.modClk g).kern = s.kern := rfl
@[simp] theorem modClk_arm (s : State) (g : Clk → Clk) : (s.modClk g).arm = s.arm := rfl
@[simp] theorem modClk_link (s : State) (g : Clk → Clk) : (s.modClk g).link = s.link := rfl
@[simp] theorem modClk_nest (s : State) (g : Clk → Clk) : (s.modClk g).nest = s.nest := rfl
@[simp] theorem modClk_prot (s : State) (g : Clk → Clk) : (s.modClk g).prot = s.prot := rfl
@[simp] theorem modClk_twin (s : State) (g : Clk → Clk) : (s.modClk g).twin = s.twin := rfl
@[simp] theorem modClk_hdg (s : State) (g : Clk → Clk) : (s.modClk g).hdg = s.hdg := rfl
@[simp] theorem modClk_acq (s : State) (g : Clk → Clk) : (s.modClk g).acq = s.acq := rfl
@[simp] theorem modClk_mbx (s : State) (g : Clk → Clk) : (s.modClk g).mbx = s.mbx := rfl
@[simp] theorem modClk_par (s : State) (g : Clk → Clk) : (s.modClk g).par = s.par := rfl
@[simp] theorem modClk_sys (s : State) (g : Clk → Clk) : (s.modClk g).sys = s.sys := rfl
@[simp] theorem modClk_peat (s : State) (g : Clk → Clk) : (s.modClk g).peat = s.peat := rfl
@[simp] theorem modClk_fio (s : State) (g : Clk → Clk) : (s.modClk g).fio = s.fio := rfl
@[simp] theorem modClk_hw (s : State) (g : Clk → Clk) : (s.modClk g).hw = s.hw := rfl
@[simp] theorem modClk_pub (s : State) (g : Clk → Clk) : (s.modClk g).pub = s.pub := rfl
@[simp] theorem modClk_trk (s : State) (g : Clk → Clk) : (s.modClk g).trk = s.trk := rfl
@[simp] theorem modClk_free (s : State) (g : Clk → Clk) : (s.modClk g).free = s.free := rfl
@[simp] theorem modClk_pending (s : State) (g : Clk → Clk) : (s.modClk g).pending = s.pending := rfl

@[simp] theorem modMeas_clk (s : State) (g : Meas → Meas) : (s.modMeas g).clk = s.clk := rfl
@[simp] theorem modMeas_meas (s : State) (g : Meas → Meas) : (s.modMeas g).meas = g s.meas := rfl
@[simp] theorem modMeas_eng (s : State) (g : Meas → Meas) : (s.modMeas g).eng = s.eng := rfl
@[simp] theorem modMeas_kern (s : State) (g : Meas → Meas) : (s.modMeas g).kern = s.kern := rfl
@[simp] theorem modMeas_arm (s : State) (g : Meas → Meas) : (s.modMeas g).arm = s.arm := rfl
@[simp] theorem modMeas_link (s : State) (g : Meas → Meas) : (s.modMeas g).link = s.link := rfl
@[simp] theorem modMeas_nest (s : State) (g : Meas → Meas) : (s.modMeas g).nest = s.nest := rfl
@[simp] theorem modMeas_prot (s : State) (g : Meas → Meas) : (s.modMeas g).prot = s.prot := rfl
@[simp] theorem modMeas_twin (s : State) (g : Meas → Meas) : (s.modMeas g).twin = s.twin := rfl
@[simp] theorem modMeas_hdg (s : State) (g : Meas → Meas) : (s.modMeas g).hdg = s.hdg := rfl
@[simp] theorem modMeas_acq (s : State) (g : Meas → Meas) : (s.modMeas g).acq = s.acq := rfl
@[simp] theorem modMeas_mbx (s : State) (g : Meas → Meas) : (s.modMeas g).mbx = s.mbx := rfl
@[simp] theorem modMeas_par (s : State) (g : Meas → Meas) : (s.modMeas g).par = s.par := rfl
@[simp] theorem modMeas_sys (s : State) (g : Meas → Meas) : (s.modMeas g).sys = s.sys := rfl
@[simp] theorem modMeas_peat (s : State) (g : Meas → Meas) : (s.modMeas g).peat = s.peat := rfl
@[simp] theorem modMeas_fio (s : State) (g : Meas → Meas) : (s.modMeas g).fio = s.fio := rfl
@[simp] theorem modMeas_hw (s : State) (g : Meas → Meas) : (s.modMeas g).hw = s.hw := rfl
@[simp] theorem modMeas_pub (s : State) (g : Meas → Meas) : (s.modMeas g).pub = s.pub := rfl
@[simp] theorem modMeas_trk (s : State) (g : Meas → Meas) : (s.modMeas g).trk = s.trk := rfl
@[simp] theorem modMeas_free (s : State) (g : Meas → Meas) : (s.modMeas g).free = s.free := rfl
@[simp] theorem modMeas_pending (s : State) (g : Meas → Meas) : (s.modMeas g).pending = s.pending := rfl

@[simp] theorem modEng_clk (s : State) (g : Eng → Eng) : (s.modEng g).clk = s.clk := rfl
@[simp] theorem modEng_meas (s : State) (g : Eng → Eng) : (s.modEng g).meas = s.meas := rfl
@[simp] theorem modEng_eng (s : State) (g : Eng → Eng) : (s.modEng g).eng = g s.eng := rfl
@[simp] theorem modEng_kern (s : State) (g : Eng → Eng) : (s.modEng g).kern = s.kern := rfl
@[simp] theorem modEng_arm (s : State) (g : Eng → Eng) : (s.modEng g).arm = s.arm := rfl
@[simp] theorem modEng_link (s : State) (g : Eng → Eng) : (s.modEng g).link = s.link := rfl
@[simp] theorem modEng_nest (s : State) (g : Eng → Eng) : (s.modEng g).nest = s.nest := rfl
@[simp] theorem modEng_prot (s : State) (g : Eng → Eng) : (s.modEng g).prot = s.prot := rfl
@[simp] theorem modEng_twin (s : State) (g : Eng → Eng) : (s.modEng g).twin = s.twin := rfl
@[simp] theorem modEng_hdg (s : State) (g : Eng → Eng) : (s.modEng g).hdg = s.hdg := rfl
@[simp] theorem modEng_acq (s : State) (g : Eng → Eng) : (s.modEng g).acq = s.acq := rfl
@[simp] theorem modEng_mbx (s : State) (g : Eng → Eng) : (s.modEng g).mbx = s.mbx := rfl
@[simp] theorem modEng_par (s : State) (g : Eng → Eng) : (s.modEng g).par = s.par := rfl
@[simp] theorem modEng_sys (s : State) (g : Eng → Eng) : (s.modEng g).sys = s.sys := rfl
@[simp] theorem modEng_peat (s : State) (g : Eng → Eng) : (s.modEng g).peat = s.peat := rfl
@[simp] theorem modEng_fio (s : State) (g : Eng → Eng) : (s.modEng g).fio = s.fio := rfl
@[simp] theorem modEng_hw (s : State) (g : Eng → Eng) : (s.modEng g).hw = s.hw := rfl
@[simp] theorem modEng_pub (s : State) (g : Eng → Eng) : (s.modEng g).pub = s.pub := rfl
@[simp] theorem modEng_trk (s : State) (g : Eng → Eng) : (s.modEng g).trk = s.trk := rfl
@[simp] theorem modEng_free (s : State) (g : Eng → Eng) : (s.modEng g).free = s.free := rfl
@[simp] theorem modEng_pending (s : State) (g : Eng → Eng) : (s.modEng g).pending = s.pending := rfl

@[simp] theorem modKern_clk (s : State) (g : Kern → Kern) : (s.modKern g).clk = s.clk := rfl
@[simp] theorem modKern_meas (s : State) (g : Kern → Kern) : (s.modKern g).meas = s.meas := rfl
@[simp] theorem modKern_eng (s : State) (g : Kern → Kern) : (s.modKern g).eng = s.eng := rfl
@[simp] theorem modKern_kern (s : State) (g : Kern → Kern) : (s.modKern g).kern = g s.kern := rfl
@[simp] theorem modKern_arm (s : State) (g : Kern → Kern) : (s.modKern g).arm = s.arm := rfl
@[simp] theorem modKern_link (s : State) (g : Kern → Kern) : (s.modKern g).link = s.link := rfl
@[simp] theorem modKern_nest (s : State) (g : Kern → Kern) : (s.modKern g).nest = s.nest := rfl
@[simp] theorem modKern_prot (s : State) (g : Kern → Kern) : (s.modKern g).prot = s.prot := rfl
@[simp] theorem modKern_twin (s : State) (g : Kern → Kern) : (s.modKern g).twin = s.twin := rfl
@[simp] theorem modKern_hdg (s : State) (g : Kern → Kern) : (s.modKern g).hdg = s.hdg := rfl
@[simp] theorem modKern_acq (s : State) (g : Kern → Kern) : (s.modKern g).acq = s.acq := rfl
@[simp] theorem modKern_mbx (s : State) (g : Kern → Kern) : (s.modKern g).mbx = s.mbx := rfl
@[simp] theorem modKern_par (s : State) (g : Kern → Kern) : (s.modKern g).par = s.par := rfl
@[simp] theorem modKern_sys (s : State) (g : Kern → Kern) : (s.modKern g).sys = s.sys := rfl
@[simp] theorem modKern_peat (s : State) (g : Kern → Kern) : (s.modKern g).peat = s.peat := rfl
@[simp] theorem modKern_fio (s : State) (g : Kern → Kern) : (s.modKern g).fio = s.fio := rfl
@[simp] theorem modKern_hw (s : State) (g : Kern → Kern) : (s.modKern g).hw = s.hw := rfl
@[simp] theorem modKern_pub (s : State) (g : Kern → Kern) : (s.modKern g).pub = s.pub := rfl
@[simp] theorem modKern_trk (s : State) (g : Kern → Kern) : (s.modKern g).trk = s.trk := rfl
@[simp] theorem modKern_free (s : State) (g : Kern → Kern) : (s.modKern g).free = s.free := rfl
@[simp] theorem modKern_pending (s : State) (g : Kern → Kern) : (s.modKern g).pending = s.pending := rfl

@[simp] theorem modArm_clk (s : State) (g : Arm → Arm) : (s.modArm g).clk = s.clk := rfl
@[simp] theorem modArm_meas (s : State) (g : Arm → Arm) : (s.modArm g).meas = s.meas := rfl
@[simp] theorem modArm_eng (s : State) (g : Arm → Arm) : (s.modArm g).eng = s.eng := rfl
@[simp] theorem modArm_kern (s : State) (g : Arm → Arm) : (s.modArm g).kern = s.kern := rfl
@[simp] theorem modArm_arm (s : State) (g : Arm → Arm) : (s.modArm g).arm = g s.arm := rfl
@[simp] theorem modArm_link (s : State) (g : Arm → Arm) : (s.modArm g).link = s.link := rfl
@[simp] theorem modArm_nest (s : State) (g : Arm → Arm) : (s.modArm g).nest = s.nest := rfl
@[simp] theorem modArm_prot (s : State) (g : Arm → Arm) : (s.modArm g).prot = s.prot := rfl
@[simp] theorem modArm_twin (s : State) (g : Arm → Arm) : (s.modArm g).twin = s.twin := rfl
@[simp] theorem modArm_hdg (s : State) (g : Arm → Arm) : (s.modArm g).hdg = s.hdg := rfl
@[simp] theorem modArm_acq (s : State) (g : Arm → Arm) : (s.modArm g).acq = s.acq := rfl
@[simp] theorem modArm_mbx (s : State) (g : Arm → Arm) : (s.modArm g).mbx = s.mbx := rfl
@[simp] theorem modArm_par (s : State) (g : Arm → Arm) : (s.modArm g).par = s.par := rfl
@[simp] theorem modArm_sys (s : State) (g : Arm → Arm) : (s.modArm g).sys = s.sys := rfl
@[simp] theorem modArm_peat (s : State) (g : Arm → Arm) : (s.modArm g).peat = s.peat := rfl
@[simp] theorem modArm_fio (s : State) (g : Arm → Arm) : (s.modArm g).fio = s.fio := rfl
@[simp] theorem modArm_hw (s : State) (g : Arm → Arm) : (s.modArm g).hw = s.hw := rfl
@[simp] theorem modArm_pub (s : State) (g : Arm → Arm) : (s.modArm g).pub = s.pub := rfl
@[simp] theorem modArm_trk (s : State) (g : Arm → Arm) : (s.modArm g).trk = s.trk := rfl
@[simp] theorem modArm_free (s : State) (g : Arm → Arm) : (s.modArm g).free = s.free := rfl
@[simp] theorem modArm_pending (s : State) (g : Arm → Arm) : (s.modArm g).pending = s.pending := rfl

@[simp] theorem modLink_clk (s : State) (g : Link → Link) : (s.modLink g).clk = s.clk := rfl
@[simp] theorem modLink_meas (s : State) (g : Link → Link) : (s.modLink g).meas = s.meas := rfl
@[simp] theorem modLink_eng (s : State) (g : Link → Link) : (s.modLink g).eng = s.eng := rfl
@[simp] theorem modLink_kern (s : State) (g : Link → Link) : (s.modLink g).kern = s.kern := rfl
@[simp] theorem modLink_arm (s : State) (g : Link → Link) : (s.modLink g).arm = s.arm := rfl
@[simp] theorem modLink_link (s : State) (g : Link → Link) : (s.modLink g).link = g s.link := rfl
@[simp] theorem modLink_nest (s : State) (g : Link → Link) : (s.modLink g).nest = s.nest := rfl
@[simp] theorem modLink_prot (s : State) (g : Link → Link) : (s.modLink g).prot = s.prot := rfl
@[simp] theorem modLink_twin (s : State) (g : Link → Link) : (s.modLink g).twin = s.twin := rfl
@[simp] theorem modLink_hdg (s : State) (g : Link → Link) : (s.modLink g).hdg = s.hdg := rfl
@[simp] theorem modLink_acq (s : State) (g : Link → Link) : (s.modLink g).acq = s.acq := rfl
@[simp] theorem modLink_mbx (s : State) (g : Link → Link) : (s.modLink g).mbx = s.mbx := rfl
@[simp] theorem modLink_par (s : State) (g : Link → Link) : (s.modLink g).par = s.par := rfl
@[simp] theorem modLink_sys (s : State) (g : Link → Link) : (s.modLink g).sys = s.sys := rfl
@[simp] theorem modLink_peat (s : State) (g : Link → Link) : (s.modLink g).peat = s.peat := rfl
@[simp] theorem modLink_fio (s : State) (g : Link → Link) : (s.modLink g).fio = s.fio := rfl
@[simp] theorem modLink_hw (s : State) (g : Link → Link) : (s.modLink g).hw = s.hw := rfl
@[simp] theorem modLink_pub (s : State) (g : Link → Link) : (s.modLink g).pub = s.pub := rfl
@[simp] theorem modLink_trk (s : State) (g : Link → Link) : (s.modLink g).trk = s.trk := rfl
@[simp] theorem modLink_free (s : State) (g : Link → Link) : (s.modLink g).free = s.free := rfl
@[simp] theorem modLink_pending (s : State) (g : Link → Link) : (s.modLink g).pending = s.pending := rfl

@[simp] theorem modNest_clk (s : State) (g : Nest → Nest) : (s.modNest g).clk = s.clk := rfl
@[simp] theorem modNest_meas (s : State) (g : Nest → Nest) : (s.modNest g).meas = s.meas := rfl
@[simp] theorem modNest_eng (s : State) (g : Nest → Nest) : (s.modNest g).eng = s.eng := rfl
@[simp] theorem modNest_kern (s : State) (g : Nest → Nest) : (s.modNest g).kern = s.kern := rfl
@[simp] theorem modNest_arm (s : State) (g : Nest → Nest) : (s.modNest g).arm = s.arm := rfl
@[simp] theorem modNest_link (s : State) (g : Nest → Nest) : (s.modNest g).link = s.link := rfl
@[simp] theorem modNest_nest (s : State) (g : Nest → Nest) : (s.modNest g).nest = g s.nest := rfl
@[simp] theorem modNest_prot (s : State) (g : Nest → Nest) : (s.modNest g).prot = s.prot := rfl
@[simp] theorem modNest_twin (s : State) (g : Nest → Nest) : (s.modNest g).twin = s.twin := rfl
@[simp] theorem modNest_hdg (s : State) (g : Nest → Nest) : (s.modNest g).hdg = s.hdg := rfl
@[simp] theorem modNest_acq (s : State) (g : Nest → Nest) : (s.modNest g).acq = s.acq := rfl
@[simp] theorem modNest_mbx (s : State) (g : Nest → Nest) : (s.modNest g).mbx = s.mbx := rfl
@[simp] theorem modNest_par (s : State) (g : Nest → Nest) : (s.modNest g).par = s.par := rfl
@[simp] theorem modNest_sys (s : State) (g : Nest → Nest) : (s.modNest g).sys = s.sys := rfl
@[simp] theorem modNest_peat (s : State) (g : Nest → Nest) : (s.modNest g).peat = s.peat := rfl
@[simp] theorem modNest_fio (s : State) (g : Nest → Nest) : (s.modNest g).fio = s.fio := rfl
@[simp] theorem modNest_hw (s : State) (g : Nest → Nest) : (s.modNest g).hw = s.hw := rfl
@[simp] theorem modNest_pub (s : State) (g : Nest → Nest) : (s.modNest g).pub = s.pub := rfl
@[simp] theorem modNest_trk (s : State) (g : Nest → Nest) : (s.modNest g).trk = s.trk := rfl
@[simp] theorem modNest_free (s : State) (g : Nest → Nest) : (s.modNest g).free = s.free := rfl
@[simp] theorem modNest_pending (s : State) (g : Nest → Nest) : (s.modNest g).pending = s.pending := rfl

@[simp] theorem modProt_clk (s : State) (g : Prot → Prot) : (s.modProt g).clk = s.clk := rfl
@[simp] theorem modProt_meas (s : State) (g : Prot → Prot) : (s.modProt g).meas = s.meas := rfl
@[simp] theorem modProt_eng (s : State) (g : Prot → Prot) : (s.modProt g).eng = s.eng := rfl
@[simp] theorem modProt_kern (s : State) (g : Prot → Prot) : (s.modProt g).kern = s.kern := rfl
@[simp] theorem modProt_arm (s : State) (g : Prot → Prot) : (s.modProt g).arm = s.arm := rfl
@[simp] theorem modProt_link (s : State) (g : Prot → Prot) : (s.modProt g).link = s.link := rfl
@[simp] theorem modProt_nest (s : State) (g : Prot → Prot) : (s.modProt g).nest = s.nest := rfl
@[simp] theorem modProt_prot (s : State) (g : Prot → Prot) : (s.modProt g).prot = g s.prot := rfl
@[simp] theorem modProt_twin (s : State) (g : Prot → Prot) : (s.modProt g).twin = s.twin := rfl
@[simp] theorem modProt_hdg (s : State) (g : Prot → Prot) : (s.modProt g).hdg = s.hdg := rfl
@[simp] theorem modProt_acq (s : State) (g : Prot → Prot) : (s.modProt g).acq = s.acq := rfl
@[simp] theorem modProt_mbx (s : State) (g : Prot → Prot) : (s.modProt g).mbx = s.mbx := rfl
@[simp] theorem modProt_par (s : State) (g : Prot → Prot) : (s.modProt g).par = s.par := rfl
@[simp] theorem modProt_sys (s : State) (g : Prot → Prot) : (s.modProt g).sys = s.sys := rfl
@[simp] theorem modProt_peat (s : State) (g : Prot → Prot) : (s.modProt g).peat = s.peat := rfl
@[simp] theorem modProt_fio (s : State) (g : Prot → Prot) : (s.modProt g).fio = s.fio := rfl
@[simp] theorem modProt_hw (s : State) (g : Prot → Prot) : (s.modProt g).hw = s.hw := rfl
@[simp] theorem modProt_pub (s : State) (g : Prot → Prot) : (s.modProt g).pub = s.pub := rfl
@[simp] theorem modProt_trk (s : State) (g : Prot → Prot) : (s.modProt g).trk = s.trk := rfl
@[simp] theorem modProt_free (s : State) (g : Prot → Prot) : (s.modProt g).free = s.free := rfl
@[simp] theorem modProt_pending (s : State) (g : Prot → Prot) : (s.modProt g).pending = s.pending := rfl

@[simp] theorem modTwin_clk (s : State) (g : Twin → Twin) : (s.modTwin g).clk = s.clk := rfl
@[simp] theorem modTwin_meas (s : State) (g : Twin → Twin) : (s.modTwin g).meas = s.meas := rfl
@[simp] theorem modTwin_eng (s : State) (g : Twin → Twin) : (s.modTwin g).eng = s.eng := rfl
@[simp] theorem modTwin_kern (s : State) (g : Twin → Twin) : (s.modTwin g).kern = s.kern := rfl
@[simp] theorem modTwin_arm (s : State) (g : Twin → Twin) : (s.modTwin g).arm = s.arm := rfl
@[simp] theorem modTwin_link (s : State) (g : Twin → Twin) : (s.modTwin g).link = s.link := rfl
@[simp] theorem modTwin_nest (s : State) (g : Twin → Twin) : (s.modTwin g).nest = s.nest := rfl
@[simp] theorem modTwin_prot (s : State) (g : Twin → Twin) : (s.modTwin g).prot = s.prot := rfl
@[simp] theorem modTwin_twin (s : State) (g : Twin → Twin) : (s.modTwin g).twin = g s.twin := rfl
@[simp] theorem modTwin_hdg (s : State) (g : Twin → Twin) : (s.modTwin g).hdg = s.hdg := rfl
@[simp] theorem modTwin_acq (s : State) (g : Twin → Twin) : (s.modTwin g).acq = s.acq := rfl
@[simp] theorem modTwin_mbx (s : State) (g : Twin → Twin) : (s.modTwin g).mbx = s.mbx := rfl
@[simp] theorem modTwin_par (s : State) (g : Twin → Twin) : (s.modTwin g).par = s.par := rfl
@[simp] theorem modTwin_sys (s : State) (g : Twin → Twin) : (s.modTwin g).sys = s.sys := rfl
@[simp] theorem modTwin_peat (s : State) (g : Twin → Twin) : (s.modTwin g).peat = s.peat := rfl
@[simp] theorem modTwin_fio (s : State) (g : Twin → Twin) : (s.modTwin g).fio = s.fio := rfl
@[simp] theorem modTwin_hw (s : State) (g : Twin → Twin) : (s.modTwin g).hw = s.hw := rfl
@[simp] theorem modTwin_pub (s : State) (g : Twin → Twin) : (s.modTwin g).pub = s.pub := rfl
@[simp] theorem modTwin_trk (s : State) (g : Twin → Twin) : (s.modTwin g).trk = s.trk := rfl
@[simp] theorem modTwin_free (s : State) (g : Twin → Twin) : (s.modTwin g).free = s.free := rfl
@[simp] theorem modTwin_pending (s : State) (g : Twin → Twin) : (s.modTwin g).pending = s.pending := rfl

@[simp] theorem modHdg_clk (s : State) (g : Hdg → Hdg) : (s.modHdg g).clk = s.clk := rfl
@[simp] theorem modHdg_meas (s : State) (g : Hdg → Hdg) : (s.modHdg g).meas = s.meas := rfl
@[simp] theorem modHdg_eng (s : State) (g : Hdg → Hdg) : (s.modHdg g).eng = s.eng := rfl
@[simp] theorem modHdg_kern (s : State) (g : Hdg → Hdg) : (s.modHdg g).kern = s.kern := rfl
@[simp] theorem modHdg_arm (s : State) (g : Hdg → Hdg) : (s.modHdg g).arm = s.arm := rfl
@[simp] theorem modHdg_link (s : State) (g : Hdg → Hdg) : (s.modHdg g).link = s.link := rfl
@[simp] theorem modHdg_nest (s : State) (g : Hdg → Hdg) : (s.modHdg g).nest = s.nest := rfl
@[simp] theorem modHdg_prot (s : State) (g : Hdg → Hdg) : (s.modHdg g).prot = s.prot := rfl
@[simp] theorem modHdg_twin (s : State) (g : Hdg → Hdg) : (s.modHdg g).twin = s.twin := rfl
@[simp] theorem modHdg_hdg (s : State) (g : Hdg → Hdg) : (s.modHdg g).hdg = g s.hdg := rfl
@[simp] theorem modHdg_acq (s : State) (g : Hdg → Hdg) : (s.modHdg g).acq = s.acq := rfl
@[simp] theorem modHdg_mbx (s : State) (g : Hdg → Hdg) : (s.modHdg g).mbx = s.mbx := rfl
@[simp] theorem modHdg_par (s : State) (g : Hdg → Hdg) : (s.modHdg g).par = s.par := rfl
@[simp] theorem modHdg_sys (s : State) (g : Hdg → Hdg) : (s.modHdg g).sys = s.sys := rfl
@[simp] theorem modHdg_peat (s : State) (g : Hdg → Hdg) : (s.modHdg g).peat = s.peat := rfl
@[simp] theorem modHdg_fio (s : State) (g : Hdg → Hdg) : (s.modHdg g).fio = s.fio := rfl
@[simp] theorem modHdg_hw (s : State) (g : Hdg → Hdg) : (s.modHdg g).hw = s.hw := rfl
@[simp] theorem modHdg_pub (s : State) (g : Hdg → Hdg) : (s.modHdg g).pub = s.pub := rfl
@[simp] theorem modHdg_trk (s : State) (g : Hdg → Hdg) : (s.modHdg g).trk = s.trk := rfl
@[simp] theorem modHdg_free (s : State) (g : Hdg → Hdg) : (s.modHdg g).free = s.free := rfl
@[simp] theorem modHdg_pending (s : State) (g : Hdg → Hdg) : (s.modHdg g).pending = s.pending := rfl

@[simp] theorem modAcq_clk (s : State) (g : Acq → Acq) : (s.modAcq g).clk = s.clk := rfl
@[simp] theorem modAcq_meas (s : State) (g : Acq → Acq) : (s.modAcq g).meas = s.meas := rfl
@[simp] theorem modAcq_eng (s : State) (g : Acq → Acq) : (s.modAcq g).eng = s.eng := rfl
@[simp] theorem modAcq_kern (s : State) (g : Acq → Acq) : (s.modAcq g).kern = s.kern := rfl
@[simp] theorem modAcq_arm (s : State) (g : Acq → Acq) : (s.modAcq g).arm = s.arm := rfl
@[simp] theorem modAcq_link (s : State) (g : Acq → Acq) : (s.modAcq g).link = s.link := rfl
@[simp] theorem modAcq_nest (s : State) (g : Acq → Acq) : (s.modAcq g).nest = s.nest := rfl
@[simp] theorem modAcq_prot (s : State) (g : Acq → Acq) : (s.modAcq g).prot = s.prot := rfl
@[simp] theorem modAcq_twin (s : State) (g : Acq → Acq) : (s.modAcq g).twin = s.twin := rfl
@[simp] theorem modAcq_hdg (s : State) (g : Acq → Acq) : (s.modAcq g).hdg = s.hdg := rfl
@[simp] theorem modAcq_acq (s : State) (g : Acq → Acq) : (s.modAcq g).acq = g s.acq := rfl
@[simp] theorem modAcq_mbx (s : State) (g : Acq → Acq) : (s.modAcq g).mbx = s.mbx := rfl
@[simp] theorem modAcq_par (s : State) (g : Acq → Acq) : (s.modAcq g).par = s.par := rfl
@[simp] theorem modAcq_sys (s : State) (g : Acq → Acq) : (s.modAcq g).sys = s.sys := rfl
@[simp] theorem modAcq_peat (s : State) (g : Acq → Acq) : (s.modAcq g).peat = s.peat := rfl
@[simp] theorem modAcq_fio (s : State) (g : Acq → Acq) : (s.modAcq g).fio = s.fio := rfl
@[simp] theorem modAcq_hw (s : State) (g : Acq → Acq) : (s.modAcq g).hw = s.hw := rfl
@[simp] theorem modAcq_pub (s : State) (g : Acq → Acq) : (s.modAcq g).pub = s.pub := rfl
@[simp] theorem modAcq_trk (s : State) (g : Acq → Acq) : (s.modAcq g).trk = s.trk := rfl
@[simp] theorem modAcq_free (s : State) (g : Acq → Acq) : (s.modAcq g).free = s.free := rfl
@[simp] theorem modAcq_pending (s : State) (g : Acq → Acq) : (s.modAcq g).pending = s.pending := rfl

@[simp] theorem modMbx_clk (s : State) (g : Mbx → Mbx) : (s.modMbx g).clk = s.clk := rfl
@[simp] theorem modMbx_meas (s : State) (g : Mbx → Mbx) : (s.modMbx g).meas = s.meas := rfl
@[simp] theorem modMbx_eng (s : State) (g : Mbx → Mbx) : (s.modMbx g).eng = s.eng := rfl
@[simp] theorem modMbx_kern (s : State) (g : Mbx → Mbx) : (s.modMbx g).kern = s.kern := rfl
@[simp] theorem modMbx_arm (s : State) (g : Mbx → Mbx) : (s.modMbx g).arm = s.arm := rfl
@[simp] theorem modMbx_link (s : State) (g : Mbx → Mbx) : (s.modMbx g).link = s.link := rfl
@[simp] theorem modMbx_nest (s : State) (g : Mbx → Mbx) : (s.modMbx g).nest = s.nest := rfl
@[simp] theorem modMbx_prot (s : State) (g : Mbx → Mbx) : (s.modMbx g).prot = s.prot := rfl
@[simp] theorem modMbx_twin (s : State) (g : Mbx → Mbx) : (s.modMbx g).twin = s.twin := rfl
@[simp] theorem modMbx_hdg (s : State) (g : Mbx → Mbx) : (s.modMbx g).hdg = s.hdg := rfl
@[simp] theorem modMbx_acq (s : State) (g : Mbx → Mbx) : (s.modMbx g).acq = s.acq := rfl
@[simp] theorem modMbx_mbx (s : State) (g : Mbx → Mbx) : (s.modMbx g).mbx = g s.mbx := rfl
@[simp] theorem modMbx_par (s : State) (g : Mbx → Mbx) : (s.modMbx g).par = s.par := rfl
@[simp] theorem modMbx_sys (s : State) (g : Mbx → Mbx) : (s.modMbx g).sys = s.sys := rfl
@[simp] theorem modMbx_peat (s : State) (g : Mbx → Mbx) : (s.modMbx g).peat = s.peat := rfl
@[simp] theorem modMbx_fio (s : State) (g : Mbx → Mbx) : (s.modMbx g).fio = s.fio := rfl
@[simp] theorem modMbx_hw (s : State) (g : Mbx → Mbx) : (s.modMbx g).hw = s.hw := rfl
@[simp] theorem modMbx_pub (s : State) (g : Mbx → Mbx) : (s.modMbx g).pub = s.pub := rfl
@[simp] theorem modMbx_trk (s : State) (g : Mbx → Mbx) : (s.modMbx g).trk = s.trk := rfl
@[simp] theorem modMbx_free (s : State) (g : Mbx → Mbx) : (s.modMbx g).free = s.free := rfl
@[simp] theorem modMbx_pending (s : State) (g : Mbx → Mbx) : (s.modMbx g).pending = s.pending := rfl

@[simp] theorem modPar_clk (s : State) (g : Par → Par) : (s.modPar g).clk = s.clk := rfl
@[simp] theorem modPar_meas (s : State) (g : Par → Par) : (s.modPar g).meas = s.meas := rfl
@[simp] theorem modPar_eng (s : State) (g : Par → Par) : (s.modPar g).eng = s.eng := rfl
@[simp] theorem modPar_kern (s : State) (g : Par → Par) : (s.modPar g).kern = s.kern := rfl
@[simp] theorem modPar_arm (s : State) (g : Par → Par) : (s.modPar g).arm = s.arm := rfl
@[simp] theorem modPar_link (s : State) (g : Par → Par) : (s.modPar g).link = s.link := rfl
@[simp] theorem modPar_nest (s : State) (g : Par → Par) : (s.modPar g).nest = s.nest := rfl
@[simp] theorem modPar_prot (s : State) (g : Par → Par) : (s.modPar g).prot = s.prot := rfl
@[simp] theorem modPar_twin (s : State) (g : Par → Par) : (s.modPar g).twin = s.twin := rfl
@[simp] theorem modPar_hdg (s : State) (g : Par → Par) : (s.modPar g).hdg = s.hdg := rfl
@[simp] theorem modPar_acq (s : State) (g : Par → Par) : (s.modPar g).acq = s.acq := rfl
@[simp] theorem modPar_mbx (s : State) (g : Par → Par) : (s.modPar g).mbx = s.mbx := rfl
@[simp] theorem modPar_par (s : State) (g : Par → Par) : (s.modPar g).par = g s.par := rfl
@[simp] theorem modPar_sys (s : State) (g : Par → Par) : (s.modPar g).sys = s.sys := rfl
@[simp] theorem modPar_peat (s : State) (g : Par → Par) : (s.modPar g).peat = s.peat := rfl
@[simp] theorem modPar_fio (s : State) (g : Par → Par) : (s.modPar g).fio = s.fio := rfl
@[simp] theorem modPar_hw (s : State) (g : Par → Par) : (s.modPar g).hw = s.hw := rfl
@[simp] theorem modPar_pub (s : State) (g : Par → Par) : (s.modPar g).pub = s.pub := rfl
@[simp] theorem modPar_trk (s : State) (g : Par → Par) : (s.modPar g).trk = s.trk := rfl
@[simp] theorem modPar_free (s : State) (g : Par → Par) : (s.modPar g).free = s.free := rfl
@[simp] theorem modPar_pending (s : State) (g : Par → Par) : (s.modPar g).pending = s.pending := rfl

@[simp] theorem modSys_clk (s : State) (g : Sys → Sys) : (s.modSys g).clk = s.clk := rfl
@[simp] theorem modSys_meas (s : State) (g : Sys → Sys) : (s.modSys g).meas = s.meas := rfl
@[simp] theorem modSys_eng (s : State) (g : Sys → Sys) : (s.modSys g).eng = s.eng := rfl
@[simp] theorem modSys_kern (s : State) (g : Sys → Sys) : (s.modSys g).kern = s.kern := rfl
@[simp] theorem modSys_arm (s : State) (g : Sys → Sys) : (s.modSys g).arm = s.arm := rfl
@[simp] theorem modSys_link (s : State) (g : Sys → Sys) : (s.modSys g).link = s.link := rfl
@[simp] theorem modSys_nest (s : State) (g : Sys → Sys) : (s.modSys g).nest = s.nest := rfl
@[simp] theorem modSys_prot (s : State) (g : Sys → Sys) : (s.modSys g).prot = s.prot := rfl
@[simp] theorem modSys_twin (s : State) (g : Sys → Sys) : (s.modSys g).twin = s.twin := rfl
@[simp] theorem modSys_hdg (s : State) (g : Sys → Sys) : (s.modSys g).hdg = s.hdg := rfl
@[simp] theorem modSys_acq (s : State) (g : Sys → Sys) : (s.modSys g).acq = s.acq := rfl
@[simp] theorem modSys_mbx (s : State) (g : Sys → Sys) : (s.modSys g).mbx = s.mbx := rfl
@[simp] theorem modSys_par (s : State) (g : Sys → Sys) : (s.modSys g).par = s.par := rfl
@[simp] theorem modSys_sys (s : State) (g : Sys → Sys) : (s.modSys g).sys = g s.sys := rfl
@[simp] theorem modSys_peat (s : State) (g : Sys → Sys) : (s.modSys g).peat = s.peat := rfl
@[simp] theorem modSys_fio (s : State) (g : Sys → Sys) : (s.modSys g).fio = s.fio := rfl
@[simp] theorem modSys_hw (s : State) (g : Sys → Sys) : (s.modSys g).hw = s.hw := rfl
@[simp] theorem modSys_pub (s : State) (g : Sys → Sys) : (s.modSys g).pub = s.pub := rfl
@[simp] theorem modSys_trk (s : State) (g : Sys → Sys) : (s.modSys g).trk = s.trk := rfl
@[simp] theorem modSys_free (s : State) (g : Sys → Sys) : (s.modSys g).free = s.free := rfl
@[simp] theorem modSys_pending (s : State) (g : Sys → Sys) : (s.modSys g).pending = s.pending := rfl

@[simp] theorem modPeat_clk (s : State) (g : Store → Store) : (s.modPeat g).clk = s.clk := rfl
@[simp] theorem modPeat_meas (s : State) (g : Store → Store) : (s.modPeat g).meas = s.meas := rfl
@[simp] theorem modPeat_eng (s : State) (g : Store → Store) : (s.modPeat g).eng = s.eng := rfl
@[simp] theorem modPeat_kern (s : State) (g : Store → Store) : (s.modPeat g).kern = s.kern := rfl
@[simp] theorem modPeat_arm (s : State) (g : Store → Store) : (s.modPeat g).arm = s.arm := rfl
@[simp] theorem modPeat_link (s : State) (g : Store → Store) : (s.modPeat g).link = s.link := rfl
@[simp] theorem modPeat_nest (s : State) (g : Store → Store) : (s.modPeat g).nest = s.nest := rfl
@[simp] theorem modPeat_prot (s : State) (g : Store → Store) : (s.modPeat g).prot = s.prot := rfl
@[simp] theorem modPeat_twin (s : State) (g : Store → Store) : (s.modPeat g).twin = s.twin := rfl
@[simp] theorem modPeat_hdg (s : State) (g : Store → Store) : (s.modPeat g).hdg = s.hdg := rfl
@[simp] theorem modPeat_acq (s : State) (g : Store → Store) : (s.modPeat g).acq = s.acq := rfl
@[simp] theorem modPeat_mbx (s : State) (g : Store → Store) : (s.modPeat g).mbx = s.mbx := rfl
@[simp] theorem modPeat_par (s : State) (g : Store → Store) : (s.modPeat g).par = s.par := rfl
@[simp] theorem modPeat_sys (s : State) (g : Store → Store) : (s.modPeat g).sys = s.sys := rfl
@[simp] theorem modPeat_peat (s : State) (g : Store → Store) : (s.modPeat g).peat = g s.peat := rfl
@[simp] theorem modPeat_fio (s : State) (g : Store → Store) : (s.modPeat g).fio = s.fio := rfl
@[simp] theorem modPeat_hw (s : State) (g : Store → Store) : (s.modPeat g).hw = s.hw := rfl
@[simp] theorem modPeat_pub (s : State) (g : Store → Store) : (s.modPeat g).pub = s.pub := rfl
@[simp] theorem modPeat_trk (s : State) (g : Store → Store) : (s.modPeat g).trk = s.trk := rfl
@[simp] theorem modPeat_free (s : State) (g : Store → Store) : (s.modPeat g).free = s.free := rfl
@[simp] theorem modPeat_pending (s : State) (g : Store → Store) : (s.modPeat g).pending = s.pending := rfl

@[simp] theorem modFio_clk (s : State) (g : Fio → Fio) : (s.modFio g).clk = s.clk := rfl
@[simp] theorem modFio_meas (s : State) (g : Fio → Fio) : (s.modFio g).meas = s.meas := rfl
@[simp] theorem modFio_eng (s : State) (g : Fio → Fio) : (s.modFio g).eng = s.eng := rfl
@[simp] theorem modFio_kern (s : State) (g : Fio → Fio) : (s.modFio g).kern = s.kern := rfl
@[simp] theorem modFio_arm (s : State) (g : Fio → Fio) : (s.modFio g).arm = s.arm := rfl
@[simp] theorem modFio_link (s : State) (g : Fio → Fio) : (s.modFio g).link = s.link := rfl
@[simp] theorem modFio_nest (s : State) (g : Fio → Fio) : (s.modFio g).nest = s.nest := rfl
@[simp] theorem modFio_prot (s : State) (g : Fio → Fio) : (s.modFio g).prot = s.prot := rfl
@[simp] theorem modFio_twin (s : State) (g : Fio → Fio) : (s.modFio g).twin = s.twin := rfl
@[simp] theorem modFio_hdg (s : State) (g : Fio → Fio) : (s.modFio g).hdg = s.hdg := rfl
@[simp] theorem modFio_acq (s : State) (g : Fio → Fio) : (s.modFio g).acq = s.acq := rfl
@[simp] theorem modFio_mbx (s : State) (g : Fio → Fio) : (s.modFio g).mbx = s.mbx := rfl
@[simp] theorem modFio_par (s : State) (g : Fio → Fio) : (s.modFio g).par = s.par := rfl
@[simp] theorem modFio_sys (s : State) (g : Fio → Fio) : (s.modFio g).sys = s.sys := rfl
@[simp] theorem modFio_peat (s : State) (g : Fio → Fio) : (s.modFio g).peat = s.peat := rfl
@[simp] theorem modFio_fio (s : State) (g : Fio → Fio) : (s.modFio g).fio = g s.fio := rfl
@[simp] theorem modFio_hw (s : State) (g : Fio → Fio) : (s.modFio g).hw = s.hw := rfl
@[simp] theorem modFio_pub (s : State) (g : Fio → Fio) : (s.modFio g).pub = s.pub := rfl
@[simp] theorem modFio_trk (s : State) (g : Fio → Fio) : (s.modFio g).trk = s.trk := rfl
@[simp] theorem modFio_free (s : State) (g : Fio → Fio) : (s.modFio g).free = s.free := rfl
@[simp] theorem modFio_pending (s : State) (g : Fio → Fio) : (s.modFio g).pending = s.pending := rfl

@[simp] theorem modHw_clk (s : State) (g : Hw → Hw) : (s.modHw g).clk = s.clk := rfl
@[simp] theorem modHw_meas (s : State) (g : Hw → Hw) : (s.modHw g).meas = s.meas := rfl
@[simp] theorem modHw_eng (s : State) (g : Hw → Hw) : (s.modHw g).eng = s.eng := rfl
@[simp] theorem modHw_kern (s : State) (g : Hw → Hw) : (s.modHw g).kern = s.kern := rfl
@[simp] theorem modHw_arm (s : State) (g : Hw → Hw) : (s.modHw g).arm = s.arm := rfl
@[simp] theorem modHw_link (s : State) (g : Hw → Hw) : (s.modHw g).link = s.link := rfl
@[simp] theorem modHw_nest (s : State) (g : Hw → Hw) : (s.modHw g).nest = s.nest := rfl
@[simp] theorem modHw_prot (s : State) (g : Hw → Hw) : (s.modHw g).prot = s.prot := rfl
@[simp] theorem modHw_twin (s : State) (g : Hw → Hw) : (s.modHw g).twin = s.twin := rfl
@[simp] theorem modHw_hdg (s : State) (g : Hw → Hw) : (s.modHw g).hdg = s.hdg := rfl
@[simp] theorem modHw_acq (s : State) (g : Hw → Hw) : (s.modHw g).acq = s.acq := rfl
@[simp] theorem modHw_mbx (s : State) (g : Hw → Hw) : (s.modHw g).mbx = s.mbx := rfl
@[simp] theorem modHw_par (s : State) (g : Hw → Hw) : (s.modHw g).par = s.par := rfl
@[simp] theorem modHw_sys (s : State) (g : Hw → Hw) : (s.modHw g).sys = s.sys := rfl
@[simp] theorem modHw_peat (s : State) (g : Hw → Hw) : (s.modHw g).peat = s.peat := rfl
@[simp] theorem modHw_fio (s : State) (g : Hw → Hw) : (s.modHw g).fio = s.fio := rfl
@[simp] theorem modHw_hw (s : State) (g : Hw → Hw) : (s.modHw g).hw = g s.hw := rfl
@[simp] theorem modHw_pub (s : State) (g : Hw → Hw) : (s.modHw g).pub = s.pub := rfl
@[simp] theorem modHw_trk (s : State) (g : Hw → Hw) : (s.modHw g).trk = s.trk := rfl
@[simp] theorem modHw_free (s : State) (g : Hw → Hw) : (s.modHw g).free = s.free := rfl
@[simp] theorem modHw_pending (s : State) (g : Hw → Hw) : (s.modHw g).pending = s.pending := rfl

@[simp] theorem modPub_clk (s : State) (g : Pub → Pub) : (s.modPub g).clk = s.clk := rfl
@[simp] theorem modPub_meas (s : State) (g : Pub → Pub) : (s.modPub g).meas = s.meas := rfl
@[simp] theorem modPub_eng (s : State) (g : Pub → Pub) : (s.modPub g).eng = s.eng := rfl
@[simp] theorem modPub_kern (s : State) (g : Pub → Pub) : (s.modPub g).kern = s.kern := rfl
@[simp] theorem modPub_arm (s : State) (g : Pub → Pub) : (s.modPub g).arm = s.arm := rfl
@[simp] theorem modPub_link (s : State) (g : Pub → Pub) : (s.modPub g).link = s.link := rfl
@[simp] theorem modPub_nest (s : State) (g : Pub → Pub) : (s.modPub g).nest = s.nest := rfl
@[simp] theorem modPub_prot (s : State) (g : Pub → Pub) : (s.modPub g).prot = s.prot := rfl
@[simp] theorem modPub_twin (s : State) (g : Pub → Pub) : (s.modPub g).twin = s.twin := rfl
@[simp] theorem modPub_hdg (s : State) (g : Pub → Pub) : (s.modPub g).hdg = s.hdg := rfl
@[simp] theorem modPub_acq (s : State) (g : Pub → Pub) : (s.modPub g).acq = s.acq := rfl
@[simp] theorem modPub_mbx (s : State) (g : Pub → Pub) : (s.modPub g).mbx = s.mbx := rfl
@[simp] theorem modPub_par (s : State) (g : Pub → Pub) : (s.modPub g).par = s.par := rfl
@[simp] theorem modPub_sys (s : State) (g : Pub → Pub) : (s.modPub g).sys = s.sys := rfl
@[simp] theorem modPub_peat (s : State) (g : Pub → Pub) : (s.modPub g).peat = s.peat := rfl
@[simp] theorem modPub_fio (s : State) (g : Pub → Pub) : (s.modPub g).fio = s.fio := rfl
@[simp] theorem modPub_hw (s : State) (g : Pub → Pub) : (s.modPub g).hw = s.hw := rfl
@[simp] theorem modPub_pub (s : State) (g : Pub → Pub) : (s.modPub g).pub = g s.pub := rfl
@[simp] theorem modPub_trk (s : State) (g : Pub → Pub) : (s.modPub g).trk = s.trk := rfl
@[simp] theorem modPub_free (s : State) (g : Pub → Pub) : (s.modPub g).free = s.free := rfl
@[simp] theorem modPub_pending (s : State) (g : Pub → Pub) : (s.modPub g).pending = s.pending := rfl

@[simp] theorem modTrk_clk (s : State) (g : List Trk → List Trk) : (s.modTrk g).clk = s.clk := rfl
@[simp] theorem modTrk_meas (s : State) (g : List Trk → List Trk) : (s.modTrk g).meas = s.meas := rfl
@[simp] theorem modTrk_eng (s : State) (g : List Trk → List Trk) : (s.modTrk g).eng = s.eng := rfl
@[simp] theorem modTrk_kern (s : State) (g : List Trk → List Trk) : (s.modTrk g).kern = s.kern := rfl
@[simp] theorem modTrk_arm (s : State) (g : List Trk → List Trk) : (s.modTrk g).arm = s.arm := rfl
@[simp] theorem modTrk_link (s : State) (g : List Trk → List Trk) : (s.modTrk g).link = s.link := rfl
@[simp] theorem modTrk_nest (s : State) (g : List Trk → List Trk) : (s.modTrk g).nest = s.nest := rfl
@[simp] theorem modTrk_prot (s : State) (g : List Trk → List Trk) : (s.modTrk g).prot = s.prot := rfl
@[simp] theorem modTrk_twin (s : State) (g : List Trk → List Trk) : (s.modTrk g).twin = s.twin := rfl
@[simp] theorem modTrk_hdg (s : State) (g : List Trk → List Trk) : (s.modTrk g).hdg = s.hdg := rfl
@[simp] theorem modTrk_acq (s : State) (g : List Trk → List Trk) : (s.modTrk g).acq = s.acq := rfl
@[simp] theorem modTrk_mbx (s : State) (g : List Trk → List Trk) : (s.modTrk g).mbx = s.mbx := rfl
@[simp] theorem modTrk_par (s : State) (g : List Trk → List Trk) : (s.modTrk g).par = s.par := rfl
@[simp] theorem modTrk_sys (s : State) (g : List Trk → List Trk) : (s.modTrk g).sys = s.sys := rfl
@[simp] theorem modTrk_peat (s : State) (g : List Trk → List Trk) : (s.modTrk g).peat = s.peat := rfl
@[simp] theorem modTrk_fio (s : State) (g : List Trk → List Trk) : (s.modTrk g).fio = s.fio := rfl
@[simp] theorem modTrk_hw (s : State) (g : List Trk → List Trk) : (s.modTrk g).hw = s.hw := rfl
@[simp] theorem modTrk_pub (s : State) (g : List Trk → List Trk) : (s.modTrk g).pub = s.pub := rfl
@[simp] theorem modTrk_trk (s : State) (g : List Trk → List Trk) : (s.modTrk g).trk = g s.trk := rfl
@[simp] theorem modTrk_free (s : State) (g : List Trk → List Trk) : (s.modTrk g).free = s.free := rfl
@[simp] theorem modTrk_pending (s : State) (g : List Trk → List Trk) : (s.modTrk g).pending = s.pending := rfl

end Sys2Proof.Machine
end

