-- ==== Sys2Proof/Laws/Ops.lean ====
section
/-!
SUPPORT. What the shared operations of Machine/Ops.lean do: lists of units, sticky bits, audit records, interrupt bits.
-/
namespace Sys2Proof.Machine
open Sys2Proof

/-! ### Units of a list -/

theorem onlyAt_refl {α : Type} (k : Nat) (l : List α) : OnlyAt k l l := ⟨rfl, fun _ _ => rfl⟩

theorem onlyAt_modify {α : Type} (l : List α) (k : Nat) (f : α → α) : OnlyAt k l (l.modify k f) :=
  ⟨by simp, fun j hj => by rw [List.getElem?_modify]; simp [Ne.symm hj]⟩

theorem onlyAt_set {α : Type} (l : List α) (k : Nat) (a : α) : OnlyAt k l (l.set k a) :=
  ⟨by simp, fun j hj => by rw [List.getElem?_set]; simp [Ne.symm hj]⟩

theorem modify_at {α : Type} (l : List α) (k : Nat) (f : α → α) (x : α) (h : l[k]? = some x) : (l.modify k f)[k]? = some (f x) := by
  simp [h]

theorem getD_of_some {α : Type} (l : List α) (k : Nat) (d x : α) (h : l[k]? = some x) : l.getD k d = x := by
  simp [List.getD, h]

/-! ### Choice -/

@[simp] theorem when_true (s : State) (f : State → State) : s.when true f = f s := rfl
@[simp] theorem when_false (s : State) (f : State → State) : s.when false f = s := rfl

/-! ### Sticky bits (R7, R8) -/

/-- Setting a bit of one diagnostic leaves every other as it is. -/
theorem evGet_evPut_ne (l : List (Nat × Nat × Word)) (d e d' e' : Nat) (m : Word) (h : ¬(d' = d ∧ e' = e)) :
    evGet (evPut d e m l) d' e' = evGet l d' e' := by
  have hk : ((d == d') && (e == e')) = false := by
    simp only [Bool.and_eq_false_iff, beq_eq_false_iff_ne]
    by_cases hd : d = d'
    · exact .inr (fun q => h ⟨hd.symm, q.symm⟩)
    · exact .inl hd
  induction l with
  | nil => simp [evPut, evGet, hk]
  | cons p l ih =>
    unfold evPut
    split
    · rename_i hp
      simp only [Bool.and_eq_true, beq_iff_eq] at hp
      simp only [evGet, List.find?_cons, hp.1, hp.2, hk]
    · split
      · simp only [evGet, List.find?_cons, hk]
      · simp only [evGet, List.find?_cons] at ih ⊢
        split
        · rfl
        · exact ih

/-- A bit that has been put stands. -/
theorem evGet_evPut_self (l : List (Nat × Nat × Word)) (d e k : Nat) (hk : k < 32) :
    (evGet (evPut d e (bitAt true k) l) d e).getLsbD k = true := by
  induction l with
  | nil => simp [evPut, evGet, bitAt, hk]
  | cons p l ih =>
    unfold evPut
    split
    · simp [evGet, bitAt, hk]
    · rename_i h1
      split
      · simp [evGet, bitAt, hk]
      · have hp : (p.1 == d && p.2.1 == e) = false := by simpa using h1
        simp only [evGet, List.find?_cons, hp] at ih ⊢
        exact ih

@[simp] theorem rcSet_ev (s : State) (d e k : Nat) : (s.rcSet d e k).pub.ev = evPut d e (bitAt true k) s.pub.ev := rfl

/-- The bit that `rcSet` sets stands. -/
theorem rcBit_rcSet (s : State) (d e k : Nat) (hk : k < 32) : (s.rcSet d e k).rcBit d e k = true :=
  evGet_evPut_self _ _ _ _ hk

/-- `rcSet` changes nothing but the sticky bits. -/
theorem rcSet_frame (s : State) (d e k : Nat) : s.rcSet d e k = { s with pub := { s.pub with ev := (s.rcSet d e k).pub.ev } } := rfl

end Sys2Proof.Machine
end

