-- ==== Sys2Proof/Laws/Mailbox.lean ====
section
/-!
SUPPORT. What the shared operations of the mailbox do: the completion of a request, and a command's step (R451, R455 to R458, R462).
-/
namespace Sys2Proof.Machine
open Sys2Proof

/-! ### Channels -/

theorem chan_of_some (s : State) (ch : Nat) (c : Chan) (h : s.mbx.chans[ch]? = some c) : s.chan ch = c := getD_of_some _ _ _ _ h

theorem chan_at (s : State) (ch : Nat) (h : ch < s.mbx.chans.length) : s.mbx.chans[ch]? = some (s.chan ch) := by
  simp [State.chan, List.getD, List.getElem?_eq_getElem h]

@[simp] theorem updChan_mbx (s : State) (c : Nat) (f : Chan → Chan) : (s.updChan c f).mbx = { s.mbx with chans := s.mbx.chans.modify c f } := rfl

theorem chan_updChan (s : State) (c : Nat) (f : Chan → Chan) (h : c < s.mbx.chans.length) : (s.updChan c f).chan c = f (s.chan c) :=
  chan_of_some _ _ _ (modify_at _ _ _ _ (chan_at s c h))

/-- Two modifications of one unit are one. -/
theorem modify_modify {α : Type} (l : List α) (k : Nat) (f g : α → α) : (l.modify k f).modify k g = l.modify k (fun x => g (f x)) := by
  apply List.ext_getElem?
  intro j
  simp only [List.getElem?_modify]
  by_cases h : k = j
  · subst h; simp; rfl
  · simp [h]

theorem map_modify {α β : Type} (l : List α) (k : Nat) (f : α → α) (g : α → β) :
    OnlyAt k (l.map g) ((l.modify k f).map g) :=
  ⟨by simp, fun j hj => by simp [Ne.symm hj]⟩

/-! ### Completion -/

/-- Counters, lockout and session of a channel at a completion. -/
def Chan.counted (c : Chan) (now : Nat) (q : Req) (st : Status) (resp : List Byte) (count : Bool) : Chan :=
  { c with
    nDone := wrap32 (c.nDone + 1), nBusy := if st == .busy then wrap32 (c.nBusy + 1) else c.nBusy
    nAuth := if st == .authFail then wrap32 (c.nAuth + 1) else c.nAuth
    fails := if st == .authFail then c.fails + 1 else 0
    lock := if st == .authFail && c.lock.isNone && 2 ≤ c.fails then some (now + 10000000000) else c.lock
    sess := c.sess.map (fun x => if count && q.sess != 0 && x.id == q.sess then { x with seq := q.seq, last := resp } else x) }

/-- A channel with its response. -/
def Chan.closed (c : Chan) (pcie drop : Bool) (resp : List Byte) : Chan :=
  { c with
    queued := false, exec_ := false, pre := false, req := none, drop := false
    done_ := pcie && !drop, resp := if drop then c.resp else resp, respLen := if drop then c.respLen else resp.length }

/-- What `finish` makes of the channel whose request it completes. -/
def Chan.finished (c : Chan) (now : Nat) (pcie drop : Bool) (q : Req) (st : Status) (resp : List Byte) (count : Bool) : Chan :=
  (c.counted now q st resp count).closed pcie drop resp

/-- A response that is delivered. -/
theorem deliverResp_spec (s : State) (ch : Nat) (resp : List Byte) :
    ∃ i v, s.deliverResp ch resp = { s with mbx := { s.mbx with
      mirq := i, msi := v, chans := s.mbx.chans.modify ch (fun c => c.closed (s.onPcie ch) (s.chan ch).drop resp) } } := by
  unfold State.deliverResp
  dsimp only
  split
  · exact ⟨s.mbx.mirq ||| bitAt true ch, if s.mbx.mirqEn.getLsbD ch then s.mbx.msi ++ [0] else s.mbx.msi, rfl⟩
  · exact ⟨s.mbx.mirq, s.mbx.msi, rfl⟩

theorem finish_eq (s : State) (ch : Nat) (q : Req) (st : Status) (pay : List Byte) (count : Bool) :
    s.finish ch q st pay count =
      ((s.updChan ch (fun c => c.counted s.now q st (respOf q st ((s.sessOf ch q).map (·.key)) pay) count)).modMbx (fun m =>
        { m with maxC0 := max m.maxC0 (if q.cls == 0 then (s.now - q.taken) / 1000 else 0) })).deliverResp ch
          (respOf q st ((s.sessOf ch q).map (·.key)) pay) := rfl

/-- A completion changes its channel, DIA.211 and the channel interrupts. -/
theorem finish_spec (s : State) (ch : Nat) (q : Req) (st : Status) (pay : List Byte) (count : Bool) (h : ch < s.mbx.chans.length) :
    ∃ m i v, s.finish ch q st pay count = { s with mbx := { s.mbx with
      maxC0 := m, mirq := i, msi := v
      chans := s.mbx.chans.modify ch (fun c =>
        c.finished s.now (s.onPcie ch) (s.chan ch).drop q st (respOf q st ((s.sessOf ch q).map (·.key)) pay) count) } } := by
  rw [finish_eq]
  generalize respOf q st ((s.sessOf ch q).map (·.key)) pay = resp
  obtain ⟨i, v, hv⟩ := deliverResp_spec ((s.updChan ch (fun c => c.counted s.now q st resp count)).modMbx (fun m =>
    { m with maxC0 := max m.maxC0 (if q.cls == 0 then (s.now - q.taken) / 1000 else 0) })) ch resp
  have hd : (((s.updChan ch (fun c => c.counted s.now q st resp count)).modMbx (fun m =>
      { m with maxC0 := max m.maxC0 (if q.cls == 0 then (s.now - q.taken) / 1000 else 0) })).chan ch).drop = (s.chan ch).drop :=
    (congrArg Chan.drop (chan_updChan s ch (fun c => c.counted s.now q st resp count) h)).trans rfl
  rw [hd] at hv
  refine ⟨max s.mbx.maxC0 (if q.cls == 0 then (s.now - q.taken) / 1000 else 0), i, v, hv.trans ?_⟩
  simp only [State.modMbx, updChan_mbx, modify_modify]
  rfl

/-- Preempted requests go on; nothing else changes. -/
theorem resume_spec (s : State) : ∃ l, s.resume = { s with mbx := { s.mbx with chans := l } } ∧ l.length = s.mbx.chans.length ∧
    (∀ (j : Nat) (c : Chan), s.mbx.chans[j]? = some c → l[j]? = some c ∨ l[j]? = some c.calm) ∧ l.map Chan.calm = s.mbx.chans.map Chan.calm := by
  unfold State.resume
  split
  · exact ⟨_, rfl, rfl, fun _ _ h => .inl h, rfl⟩
  · refine ⟨_, rfl, by simp, fun j c h => .inr ?_, ?_⟩
    · simp [h, Chan.calm]
    · simp only [List.map_map]; rfl

/-- A completed request: everything but the mailbox stays; in it the channel, the marks of preemption, DIA.211 and channel interrupts. -/
theorem finish_resume_spec (s : State) (ch : Nat) (q : Req) (st : Status) (pay : List Byte) (count : Bool) (h : ch < s.mbx.chans.length) :
    let t := (s.finish ch q st pay count).resume
    t = { s with mbx := t.mbx } ∧ MailboxStep s t ch ∧
      t.chan ch = (s.chan ch).finished s.now (s.onPcie ch) (s.chan ch).drop q st (respOf q st ((s.sessOf ch q).map (·.key)) pay) count := by
  obtain ⟨m, i, v, hf⟩ := finish_spec s ch q st pay count h
  obtain ⟨l, hl, hn, hj, hc⟩ := resume_spec (s.finish ch q st pay count)
  have hm : s.mbx.chans[ch]? = some (s.chan ch) := chan_at s ch h
  intro t
  have ht : t = { s.finish ch q st pay count with mbx := { (s.finish ch q st pay count).mbx with chans := l } } := hl
  rw [hf] at hj hc hn ht
  simp only at hj hc hn ht
  refine ⟨by rw [ht], ⟨by rw [ht], ?_⟩, ?_⟩
  · rw [ht]; simp only [hc]; exact map_modify _ _ _ _
  · have hat := modify_at s.mbx.chans ch (fun c =>
        c.finished s.now (s.onPcie ch) (s.chan ch).drop q st (respOf q st ((s.sessOf ch q).map (·.key)) pay) count) _ hm
    rcases hj ch _ hat with h1 | h1
    · exact chan_of_some _ _ _ (by rw [ht]; exact h1)
    · exact chan_of_some _ _ _ (by rw [ht]; exact h1)

/-- The answer to a request in state `u`, which holds the channel of `s` but for parts that bear on no response. -/
theorem answered_of (s u : State) (ch : Nat) (q : Req) (st : Status) (pay : List Byte) (count : Bool) (h : ch < u.mbx.chans.length)
    (hk : (u.sessOf ch q).map (·.key) = (s.sessOf ch q).map (·.key)) (hd : (u.chan ch).drop = (s.chan ch).drop) :
    Answered s (u.finish ch q st pay count).resume ch q st pay := by
  obtain ⟨h1, -, h3⟩ := finish_resume_spec u ch q st pay count h
  have hp : (u.finish ch q st pay count).resume.onPcie ch = u.onPcie ch := by rw [h1]; rfl
  refine ⟨by rw [h3]; rfl, by rw [h3]; rfl, by rw [h3]; rfl, fun hn => ?_⟩
  rw [h3, hp]
  simp [Chan.finished, Chan.closed, hd, hn, hk]

/-! ### A command's step -/

/-- A command whose channel executes its request acts, and its reply completes the request. -/
theorem command_eq (s : State) (ch op : Nat) (q : Req) (f : State → Req → Author → State × Reply) (h : s.executing ch op q)
    (hm : s.mute = false ∨ op = 1) :
    s.command ch op f = ((f s q (s.author ch q)).1.finishWith ch q (f s q (s.author ch q)).2).resume := by
  obtain ⟨h1, h2, -, h3, h4, h5, h6⟩ := h
  unfold State.command
  rw [h5]
  rcases hm with hm | hm <;> simp [h1, h2, h3, h4, h6, hm]

/-- A command whose meaning changes nothing but what `u` shows: what it answers, and what stays. -/
theorem command_answers (s : State) (ch op : Nat) (q : Req) (f : State → Req → Author → State × Reply) (h : s.executing ch op q)
    (hm : s.mute = false ∨ op = 1) (u : State) (r : Reply) (hf : f s q (s.author ch q) = (u, r)) (hu : u.mbx.chans = s.mbx.chans) :
    let t := s.command ch op f
    t = { u with mbx := t.mbx } ∧ MailboxStep u t ch ∧ Answered s t ch q r.st r.pay := by
  have hl : ch < u.mbx.chans.length := by rw [hu, h.2.2.1]; exact h.2.1
  have hc : u.chan ch = s.chan ch := by simp [State.chan, hu]
  intro t
  have ht : t = (u.finish ch q r.st r.pay true).resume := by
    show s.command ch op f = _
    rw [command_eq s ch op q f h hm, hf]; rfl
  rw [ht]
  obtain ⟨h1, h2, -⟩ := finish_resume_spec u ch q r.st r.pay true hl
  exact ⟨h1, h2, answered_of s u ch q r.st r.pay true hl (by simp [State.sessOf, hc]) (by rw [hc])⟩

end Sys2Proof.Machine
end

