-- ==== Sys2Proof/Tests/Slice0.lean ====
section
/-!
SUPPORT. Tests on small states: what WellFormed refuses, values worked out by hand from the manual, and for every obligation with
hypotheses a state and operands that meet them, clause by clause.
-/
namespace Sys2Proof.Tests
open Sys2Proof Sys2Proof.Machine

set_option Elab.async false

/-! ### States -/

/-- A module in a state, its clocks locked. -/
def inState (m : MState) : State :=
  { State.reset with
    sys := { Sys.reset with st := m }
    clk := { Clk.reset with powC := true, powL := true, powH := true, lockC := true, lockL := true, lockH := true } }

/-- With parameter values: group, number, element, value. -/
def par (s : State) (l : List (Nat × Nat × Nat × Nat)) : State :=
  { s with par := { s.par with vals := l.map (fun x => ⟨⟨x.1, x.2.1⟩, x.2.2.1, BitVec.ofNat 64 x.2.2.2⟩) } }

/-- At a frame number of a 5,000 ns grid. -/
def atFrame (s : State) (f : Nat) : State := s.modClk (fun c => { c with frame := f, tai := f * 5000 })

/-- A module in READY. -/
def ready : State := inState .ready

/-- With a session of a role on channel 1. -/
def sess (s : State) (r : SRole) : State := s.updChan 1 (fun c => { c with sess := some { Sess.reset with id := 7, role := r } })

/-- A request outside a session with an opcode and a payload. -/
def rq (op : Nat) (pay : List Byte := []) : Req :=
  { Req.reset with op := op, cls := 1, len := pay.length, pay := pay, size := 32 + pay.length, tag := List.replicate 16 0
                   hdr := List.replicate 16 0 }

/-- The same in the session of `sess`. -/
def rqs (op : Nat) (pay : List Byte := []) : Req := { rq op pay with sess := 7, seq := 1 }

/-- Executing a request on channel 1. -/
def doing (s : State) (q : Req) : State := s.updChan 1 (fun c => { c with exec_ := true, req := some q })

/-! ### Well-formed commands -/

/-- A term that each check refuses. -/
theorem test_wf_refuses : ([.abort 8, .returnFrameMissing 32, .nestUp 36 [], .exception { fnum := 0, crcOk := true } 97 [] [], .refreshDue 512, .crossingTimeout 4,
    .thermalShutdown 16, .inputLevelChange 32 true, .rcRegisterRead 6, .registerWrite 131072 0, .analogConversionComplete 24 ⟨0, 0⟩,
    .analogConversionComplete 0 ⟨32768, 0⟩, .seal { fnum := 18446744073709551616, crcOk := true } 0, .safetyCycle false { ins := [], levels := [], breaks := [] },
    .crossLinkMessage true (some ⟨[], [], [], [], [], 0, []⟩), .sampledValueMessage ⟨0, 0, 0, false, 0, [⟨0, [], [], []⟩]⟩,
    .vector { fnum := 0, crcOk := true } ⟨[], [], [], [], 0, 0, []⟩, .fieldFrame { mv := [] }, .timeSourceLost 0, .timeSourceLost 7, .sdFault 8,
    .nestLoss 33, .sourceRaised 64, .functionRaised true 4, .discFault 8, .outputPairTest 2 { hsFollows := true, lsFollows := true, crossSeen := false },
    .powerUp 16 false true 0 [], .loadLevelChange 101, .imageCommit 0 [], .guFwStart 0 [512], .reAdmitCell 0 512, .compareArm 0 4 true,
    .rejoin 0 32, .programEraseFailure 32768 false, .uncorrectable 9 false 0 0, .wireBreak 16] : List Instr).all (fun c => !c.wf) = true := by
  decide

/-- Terms at the ends of the ranges. -/
theorem test_wf_accepts : ([.abort 7, .returnFrameMissing 31, .nestUp 35 [], .exception { fnum := 18446744073709551615, crcOk := true } 96 [] [], .refreshDue 511,
    .crossingTimeout 3, .thermalShutdown 15, .inputLevelChange 31 true, .registerWrite 131068 0, .analogConversionComplete 23 ⟨-32768, 0⟩,
    .timeSourceLost 1, .timeSourceLost 6, .nestLoss 32, .sourceRaised 63, .loadLevelChange 100, .imageCommit 0 (List.replicate 32 0),
    .guFwStart 7 [0, 511], .uncorrectable 8 false 0 0] : List Instr).all (fun c => c.wf) = true := by decide

/-- The table gives no row bits, so no word spells a command. -/
theorem test_decodeTableWord : decodeTableWord 32 0 = none ∧ decodeTableWord 0 0 = none := ⟨rfl, rfl⟩

/-! ### Values worked out from the manual -/

/-- The check value of the CRC-32 of the manual over "123456789". -/
theorem test_crc32 : crc32 (asciiOf "123456789") = 0xCBF43926 := by decide +kernel
/-- The first word of SHA-256 of "abc" (FIPS 180-4). -/
theorem test_sha256 : (sha256 (asciiOf "abc")).take 4 = [0xBA, 0x78, 0x16, 0xBF] := by decide +kernel
/-- 1.0 + 2^-24 rounds to even (R4). -/
theorem test_fAdd : fAdd 0x3F800000 0x33800000 = 0x3F800000 ∧ fAdd 0x3F800001 0x33800000 = 0x3F800002 := by decide +kernel
/-- 3 / 2 = 1.5. -/
theorem test_fDiv : fDiv 0x40400000 0x40000000 = 0x3FC00000 := by decide +kernel
/-- With 5,000 ns frames 200 frames make a millisecond, and the boundary after frame 199 is frame 200 (R24, R27). -/
theorem test_grid : (ready.fpms, ready.nextSup 199, ready.nextSup 200, ready.nextCtl 7) = (200, 200, 400, 8) := by decide +kernel

/-- 1,000 A for one frame of 5 µs: N_c = 1,000,000 · 2,048,000, which books 5,000 µC (chapter 07, Fen ledger, its example). -/
theorem test_charge :
    chargeOf true .insertPos .insertPos 0 2048000 (cutAt 0 (pieces 0 2048000 [(0, 1000000)])) = 2048000000000 ∧
      (Cell.book 5000 7 2048000000000 Cell.reset).1.acct = 5000 := by decide +kernel
/-- A doorbell of 32 bytes on an idle channel queues, and one of 31 counts in MB_ERR (R452). -/
theorem test_doorbell :
    (((ready.doorbell 0 32).chan 0).queued, (ready.doorbell 0 31).mbx.err, (ready.doorbell 0 4097).mbx.err) = (true, 1, 1) := by decide +kernel
/-- 603 and 618 counts of REF set the fallback, 604 and 617 do not (R417). -/
theorem test_refFallback : ([603, 604, 617, 618].map (fun n => match exec (.refFallback n) ready with
    | .next t => t.clk.refFallback
    | _ => false)) = [true, false, false, true] := by decide +kernel
/-- A step takes the front command off the queue. -/
theorem test_step : (match step { ready with pending := [.refFallback 0, .powerFail] } with
    | .next t => (t.clk.refFallback, t.pending)
    | _ => (false, [])) = (true, [.powerFail]) := by decide +kernel

/-! ### The obligations' hypotheses -/

theorem witness_StepRunsFrontCommand :
    ({ State.reset with pending := [.timeLocked, .powerFail] } : State).pending = .timeLocked :: [.powerFail] ∧ State.reset.pending = [] := ⟨rfl, rfl⟩

theorem witness_SafetyOutputsStayOff :
    ∃ s t : State, s.safetyInv ∧ step s = .next t ∧ s.pending = [.powerUp 3 false true 60 [true]] :=
  ⟨{ State.reset with pending := [.powerUp 3 false true 60 [true]] }, _, fun _ => by unfold State.safetyOff; decide, rfl, rfl⟩

theorem witness_RetiredStaysRetired : ∃ s t : State, s.retiredInv ∧ step s = .next t ∧ s.pending = [.sustoWorksProcedure 5 6] :=
  ⟨{ State.reset with sys := { Sys.reset with life := .retired, key0 := 0, creds := List.replicate 32 Cred.reset }
                      pending := [.sustoWorksProcedure 5 6] }, _, by unfold State.retiredInv Sys.keysErased; decide, rfl, rfl⟩

theorem witness_BanksKeepTheirSize : ∃ s t : State, s.banksInv ∧ step s = .next t ∧ s.pending = [.powerFail] :=
  ⟨{ ready with pending := [.powerFail] }, _, ⟨List.length_replicate, List.length_replicate⟩, rfl, rfl⟩

theorem witness_AnalogConversionTaken :
    let s := par (atFrame ready 7) [(gMEA, 1, 22, 1), (gMEA, 2, 22, 2), (gMEA, 3, 22, 24), (gMEA, 9, 11, 1)]
    s.awake = true ∧ s.aiOn 23 = true ∧ s.meas.ai[s.aiOf 23]? = some AIn.reset ∧
      s.convDue 23 ⟨32767, 2048000 * 7 + 4096 * 24 + 102400⟩ = true ∧ s.convDue 23 ⟨32767, 2048000 * 7 + 4096 * 24⟩ = false := by decide +kernel

/-- R47, R48, R57: a FRAME input samples at the boundary plus the delay; the delay of before a change still holds for what started before. -/
theorem test_frame_trigger :
    let s := (par (atFrame ready 7) [(gMEA, 1, 3, 1), (gMEA, 3, 3, 100)]).modMeas (fun m => { m with
      ai := m.ai.modify 3 (fun a => { a with dlyOld := 440, dlyF := 7 }) })
    s.convDue 3 ⟨0, 2048000 * 7 + 409600⟩ = true ∧ s.convDue 3 ⟨0, 2048000 * 7 + 409601⟩ = false ∧
      s.convDue 3 ⟨0, 2048000 * 6 + 1802240⟩ = false ∧ s.convDue 3 ⟨0, 2048000 * 6 + 1966080⟩ = false ∧
      (s.modMeas (fun m => { m with ai := m.ai.modify 3 (fun a => { a with dlyOld := 470 }) })).convDue 3 ⟨0, 2048000 * 6 + 1925120⟩ = true := by
  decide +kernel

theorem witness_SigmaDeltaInputEvents :
    let s := (par ready [(gMEA, 40, 7, 1), (gMEA, 41, 7, 1), (gMEA, 42, 7, 20)]).modMeas (fun m => { m with
      sd := m.sd.set 7 { SdIn.reset with integ := [5], comb := [2], fault := true } })
    s.awake = true ∧ s.pb gMEA 40 7 = true ∧ s.meas.sd[7]? = some { SdIn.reset with integ := [5], comb := [2], fault := true } ∧
      s.pn gMEA 41 7 = 1 ∧ s.pb gMEA 46 = true ∧ s.sdDue 7 (List.replicate 20 true) 4000 SdIn.reset = true ∧
      s.sdDue 7 (List.replicate 20 true) 4999 SdIn.reset = false ∧
      (par s [(gMEA, 42, 7, 400)]).sdDue 7 (List.replicate 400 true) 0 SdIn.reset = false ∧
      (par (atFrame s 3) [(gMEA, 42, 7, 400)]).sdDue 7 (List.replicate 400 true) 0 SdIn.reset = true := by decide +kernel

theorem witness_SampledValueMessageAccepted :
    let s := par (atFrame ready 200000) [(gMEA, 80, 7, 1), (gMEA, 81, 7, 9), (gMEA, 82, 7, 0x4000), (gMEA, 83, 7, 1), (gMEA, 88, 7, 1)]
    let m : SvMessage := ⟨9, 0x4000, 1, true, 2, [⟨5, List.replicate 8 1, List.replicate 8 true, List.replicate 8 false⟩]⟩
    s.awake = true ∧ s.meas.sv[7]? = some SvIn.reset ∧ s.pb gMEA 80 7 = true ∧ s.pn gMEA 81 7 = m.mac ∧ s.pn gMEA 82 7 = m.appid ∧
      m.portE2 = decide (s.pn gMEA 88 7 = 1) ∧ s.pn gMEA 83 7 = m.confRev ∧ SvIn.reset.lastT < s.svTime 7 5 ∧ s.pn gMEA 83 7 ≠ 2 ∧
      s.pb gMEA 80 6 = false ∧ m.asdus.length = (if s.pn gMEA 84 7 = 0 then 1 else 8) := by decide +kernel

theorem witness_TrackerCrossingTimeout :
    let s := par (atFrame ready 200000) [(gANG, 1, 3, 1)]
    s.engOn = true ∧ s.pb gANG 1 3 = true ∧ s.trk[3]? = some Trk.reset ∧ Trk.reset.sinceX + s.pn gANG 9 3 ≤ s.now := by decide +kernel

/-- A run of the supervisory group and one of the background group. -/
def withRuns : State := (atFrame ready 199).modEng (fun e => { e with
  runs := [none, none, some { Run.reset with dueF := 200 }, some Run.reset], frmRun := 15, conRun := 15, bgStart := some 0 })

theorem witness_GroupOverrunDiscardsRun :
    withRuns.eng.runs[Grp.supervisory.ix]? = some (some { Run.reset with dueF := 200 }) ∧ 200 ≤ withRuns.fr + 1 ∧
      withRuns.eng.totals[Grp.supervisory.ix]? = some 0 := by decide +kernel

theorem witness_LoopOverrunRaises : withRuns.pn gLPE 2 ≤ withRuns.eng.frmRun ∧ withRuns.pn gLPE 3 ≤ withRuns.eng.conRun := by decide +kernel

theorem witness_BackgroundGroupEvents :
    (ready.engOn = true ∧ ready.eng.runs[3]? = some none) ∧
    (let s := atFrame withRuns 100000000
     s.eng.runs[3]? = some (some Run.reset) ∧ s.eng.bgStart = some 0 ∧ s.eng.bgEnded = false ∧ s.eng.bgLate = false ∧
       0 + s.pn gLPE 6 ≤ s.now) ∧
    withRuns.eng.runs[Grp.background.ix]? = some (some Run.reset) := by decide +kernel

/-- With one configured channel 511 on port 31. -/
def withCell (s : State) (y : Cell) : State :=
  s.modArm (fun a => { a with cells := a.cells.set 511 { y with conf := true, port := 31 } })

theorem witness_CellSupervisionEvents :
    (let s := withCell ready { Cell.reset with idle := 100000 }
     (s.arm.cells[511]?.map (·.conf)) = some true ∧ s.pn gARM 20 ≤ 100000 * s.tf) ∧
    (let s := withCell ready { Cell.reset with idle := 200000, due := true }
     (s.cell 511).due = true ∧ (s.cell 511).overdue = false ∧ (s.cell 511).excluded = false ∧ 2 * s.pn gARM 20 ≤ (s.cell 511).idle * s.tf) ∧
    (let s := withCell (atFrame ready 20000) { Cell.reset with gsSince := some 0 }
     (s.cell 511).gsSince = some 0 ∧ s.pn gARM 22 ≤ (s.fr - 0) * s.tf) ∧
    (let s := withCell ready { Cell.reset with noStat := 16 }
     s.pn gARM 23 ≤ (s.cell 511).noStat) := by decide +kernel

theorem witness_DriftWindowTakesNewReference :
    let s := withCell (atFrame ready 200000000) { Cell.reset with pair := some (3, 4) }
    s.engOn = true ∧ s.isLeaf = true ∧ s.nest.winStart + s.pn gNST 62 ≤ s.now ∧ (s.arm.cells[511]?.map (·.pair)) = some (some (3, 4)) := by
  decide +kernel

/-- A port's record in the Crihel link. -/
def withPort (s : State) (p : Nat) (x : Port) : State := s.modLink (fun l => { l with ports := l.ports.set p x })

theorem witness_ReturnFrameStatuses :
    let s := withPort (par (atFrame ready 1000) [(gLNK, 1, 31, 1)]) 31 { Port.reset with sent := [1000] }
    let b := fun (f : Nat) => bytesOfNat 4 f ++ List.replicate 272 0
    s.lanesOn = true ∧ s.cellPort 31 = true ∧ (b 0).length = 276 ∧ (s.link.ports[31]?).map (·.sent) = some [1000] ∧
      misaligned s.fr (extendF s.fr (beAt (b 1003) 0 4)) = true ∧ misaligned s.fr (extendF s.fr (beAt (b 1002) 0 4)) = false ∧
      extendF s.fr (beAt (b 1002) 0 4) ∉ [1000].take 2 ∧ extendF s.fr (beAt (b 1000) 0 4) ∈ [1000].take 2 := by decide +kernel

/-- A returned frame 1000 whose slot 15 is filled and good. -/
def slotFrame : List Byte :=
  let w := bytesOfNat 8 (2 ^ 45 + 8 * 256)
  bytesOfNat 4 1000 ++ bytesOfNat 4 31 ++ bytesOfNat 4 0x40 ++ List.replicate 256 0 ++ w.take 7 ++ [crc8 (w.take 7 ++ [15])]

theorem witness_ReturnFrameStatuses_slot :
    let s := withCell (withPort (par (atFrame ready 1000) [(gLNK, 1, 31, 1)]) 31 { Port.reset with sent := [1000] }) { Cell.reset with pos := 15 }
    slotFrame.length = 276 ∧ beAt slotFrame 8 4 / 4 % 32 = 16 ∧ slotUsable ((slotFrame.drop (148 + 8 * 15)).take 8) 15 1000 = true ∧
      (s.chanAt 31 (s.posFrom 31 15 false)).isSome = true := by decide +kernel

/-- An open request of SEQ 5 that left at frame 136. -/
def openReq : Nat × Nat × Msg := (5, 136, { mtype := 0x10, target := 3, seq := 5, addr := 0, payload := [] })

theorem witness_MessageCreditsReturn :
    let s := withPort (atFrame ready 200) 31 { Port.reset with credits := 7, reqs := [openReq] }
    (s.link.ports[31]?).map (·.reqs) = some [openReq] ∧ (∃ r ∈ [openReq], r.1 = 5 ∧ 0x90 = r.2.2.mtype + 0x80) ∧
      (∀ r ∈ [openReq], r.1 ≠ 6) ∧ s.isSup s.fr = true ∧ (∃ r ∈ [openReq], r.1 = 5 ∧ r.2.1 + s.pn gLNK 21 ≤ s.fr) := by decide +kernel

theorem witness_MessageCreditsReturn_readBack :
    let q : Msg := { mtype := 3, target := 0, seq := 5, addr := 0, payload := [] }
    let s := withCell (withPort (par (atFrame ready 200) [(gLNK, 1, 31, 1)]) 31 { Port.reset with credits := 7, reqs := [(5, 136, q)] }) Cell.reset
    (s.link.ports[31]?).map (·.reqs) = some [(5, 136, q)] ∧ q.mtype = 3 ∧ q.addr = 0 ∧ (s.chanAt 31 (s.posFrom 31 0 s.twin.sideB)).isSome = true ∧
      (0x83 : Nat) = q.mtype + 0x80 := by decide +kernel

theorem witness_PortAndNestLosses :
    (let s := withPort (par ready [(gLNK, 1, 31, 4)]) 31 { Port.reset with sent := [7] }
     s.awake = true ∧ s.cellPort 31 = true ∧ (s.link.ports[31]?).map (fun x => (x.got, x.sent)) = some (false, [7])) ∧
    (let s := withCell ready { Cell.reset with noStat := 4 }
     ∃ c ∈ s.portCells 31, s.pn gLNK 20 ≤ (s.cell c).noStat) ∧
    (let s := ready.modNest (fun n => { n with par := { n.par with miss := 4 } })
     s.hasParent = true ∧ s.pn gNST 10 ≤ s.nest.par.miss) ∧
    (let s := (par ready [(gNST, 3, 31, 9)]).updKid 31 (fun k => { k with miss := 4 })
     (s.nest.kids[31]?).map (·.miss) = some 4 ∧ s.pn gNST 3 31 ≠ 0 ∧ s.pn gNST 10 ≤ 4) := by decide +kernel

/-- A nest frame of a length with a type, an FNUM and a digest, and its CRC. -/
def nestFrame (len ty f dig : Nat) : List Byte :=
  let b := bytesOfNat 4 f ++ bytesOfNat 4 0x00010000 ++ bytesOfNat 4 (ty * 2 ^ 28) ++ bytesOfNat 4 dig ++ List.replicate (len - 20) 0
  b ++ bytesOfNat 4 (crc32 b).toNat

theorem witness_NestDownObeyed :
    let s := par (atFrame ready 1000) [(gNST, 1, 0, 1)]
    s.lanesOn = true ∧ s.hasParent = true ∧ s.parPorts.contains 32 = true ∧
      (∀ f ∈ [1002, 1003], (nestFrame 44 4 f 0).length = 44 ∧ crcTail (nestFrame 44 4 f 0) = true ∧ (nestHdr (nestFrame 44 4 f 0)).ftype = 4) ∧
      crcTail (nestFrame 44 4 1002 1) = true ∧
      misaligned s.fr (extendF s.fr (nestHdr (nestFrame 44 4 1003 0)).fnum) = true ∧
      misaligned s.fr (extendF s.fr (nestHdr (nestFrame 44 4 1002 1)).fnum) = false ∧ (nestHdr (nestFrame 44 4 1002 1)).digest ≠ s.topoDigest ∧
      (nestHdr (nestFrame 44 4 1002 0)).digest = s.topoDigest ∧ s.nest.par.obeys (nestHdr (nestFrame 44 4 1002 0)) 1002 = true ∧
      s.nest.par.fresh (nestHdr (nestFrame 44 4 1002 0)) (portRank 32) = true ∧
      ({ s.nest.par with gotNow := some 0 } : Nst).fresh (nestHdr (nestFrame 44 4 1002 0)) (portRank 32) = false := by
  decide +kernel

/-- R269: what the encoder of a NEST_DOWN frame writes, the decoder reads. -/
theorem test_nest_down_bytes :
    let h : NestHdr := { fnum := 1002, lepoch := 7, nodeId := 9, sideB := true, shadow := false, ready := false, port := 33, ftype := 4, fper := 1,
                         childIdx := 31, dsub := 0, digest := 77 }
    let d : DownRep := { applyF := 1009, valid := true, demand := false, two := true, ack := 15, xtrig := 0x4001, grant0 := -3, vref0 := -7, grant1 := 5, vref1 := 6 }
    (downBytes h d).length = 44 ∧ nestHdr (downBytes h d) = h ∧ downOf 1000 (downBytes h d) = d := by decide +kernel

/-- One byte of a CRC-32. -/
def crcByte (c : Word) (b : Byte) : Word := crc32Shift 8 (c ^^^ b.setWidth 32)

/-- Header of a NEST_UP frame. -/
def upHead (f dig : Nat) : List Byte := bytesOfNat 4 f ++ bytesOfNat 4 0x00010000 ++ bytesOfNat 4 (5 * 2 ^ 28) ++ bytesOfNat 4 dig

/-- A NEST_UP frame with its CRC written out. -/
def upFrame (f dig : Nat) (crc : Word) : List Byte := upHead f dig ++ List.replicate 148 0 ++ bytesOfNat 4 crc.toNat

/-- The CRC of such a frame in five parts: the register after the header and after each 37 bytes of zeros. -/
theorem upFrame_crc (f dig : Nat) (c0 c1 c2 c3 c4 : Word) (h0 : (upHead f dig).foldl crcByte 0xFFFFFFFF = c0)
    (h1 : (List.replicate 37 (0 : Byte)).foldl crcByte c0 = c1) (h2 : (List.replicate 37 (0 : Byte)).foldl crcByte c1 = c2)
    (h3 : (List.replicate 37 (0 : Byte)).foldl crcByte c2 = c3) (h4 : (List.replicate 37 (0 : Byte)).foldl crcByte c3 = c4)
    (hl : (upFrame f dig (~~~c4)).length - 4 = 164) (ht : (upFrame f dig (~~~c4)).take 164 = upHead f dig ++ List.replicate 148 0)
    (hb : BitVec.ofNat 32 (beAt (upFrame f dig (~~~c4)) 164 4) = ~~~c4) : crcTail (upFrame f dig (~~~c4)) = true := by
  have hz : List.replicate 148 (0 : Byte) = List.replicate 37 0 ++ (List.replicate 37 0 ++ (List.replicate 37 0 ++ List.replicate 37 0)) := by
    simp only [List.replicate_append_replicate]
  have hc : crc32 (upHead f dig ++ List.replicate 148 0) = ~~~c4 := by
    show ~~~((upHead f dig ++ List.replicate 148 0).foldl crcByte 0xFFFFFFFF) = _
    rw [hz, List.foldl_append, List.foldl_append, List.foldl_append, List.foldl_append, h0, h1, h2, h3, h4]
  unfold crcTail
  rw [hl, ht, hc, hb]
  exact beq_self_eq_true _

theorem witness_NestUpTaken :
    let s := par (atFrame ready 1000) [(gSYS, 1, 0, 3), (gLNK, 1, 31, 5), (gNST, 2, 63, 36), (gNST, 3, 31, 9)]
    s.kidOfPort 31 = some 31 ∧ s.nest.kids[31]? = some Nst.reset ∧ s.lanesOn = true ∧
      (let b := upFrame 997 0 (~~~0x129C5146)
       b.length = 168 ∧ crcTail b = true ∧ (nestHdr b).ftype = 5 ∧ misaligned s.fr (extendF s.fr (nestHdr b).fnum) = true) ∧
      (let b := upFrame 998 1 (~~~0x387F25FC)
       b.length = 168 ∧ crcTail b = true ∧ (nestHdr b).ftype = 5 ∧ misaligned s.fr (extendF s.fr (nestHdr b).fnum) = false ∧
         (nestHdr b).digest ≠ s.topoDigest) ∧
      (let b := upFrame 998 0 (~~~0x28D78DC2)
       b.length = 168 ∧ crcTail b = true ∧ (nestHdr b).ftype = 5 ∧ misaligned s.fr (extendF s.fr (nestHdr b).fnum) = false ∧
         (nestHdr b).digest = s.topoDigest ∧ Nst.reset.obeys (nestHdr b) 998 = true ∧ Nst.reset.fresh (nestHdr b) (portRank 31) = true ∧
         ({ Nst.reset with gotNow := some 34 } : Nst).fresh (nestHdr b) (portRank 31) = false) := by
  refine ⟨by decide +kernel, by decide +kernel, by decide +kernel, ⟨by decide +kernel, upFrame_crc _ _ 0x483BF12D 0x37B4153E 0x59C1F2A4 0x01E90EA1 0x129C5146 ?_ ?_ ?_ ?_ ?_ ?_ ?_ ?_, by decide +kernel⟩,
    ⟨by decide +kernel, upFrame_crc _ _ 0x82F6AD75 0xED1EC48E 0x88E977E4 0xAC1A3121 0x387F25FC ?_ ?_ ?_ ?_ ?_ ?_ ?_ ?_, by decide +kernel⟩,
    ⟨by decide +kernel, upFrame_crc _ _ 0xF5F19DE3 0x6096396C 0x74B7B079 0x9DE2011E 0x28D78DC2 ?_ ?_ ?_ ?_ ?_ ?_ ?_ ?_, by decide +kernel⟩⟩ <;> decide +kernel

theorem witness_BrambleSourceRaisedAndCleared :
    let s := par ready [(gPRT, 1, 16 * 63 + 15, 2)]
    let a := s.modProt (fun p => { p with onN := p.onN.set 63 1 })
    let c := s.modProt (fun p => { p with offN := p.offN.set 63 1, raised := p.raised.set 63 true })
    s.prot.raised.length = 64 ∧ s.prot.raisedN.length = 64 ∧ s.prot.latch.length = 16 ∧ (∀ l ∈ s.prot.latch, l.length = 4) ∧
      a.filterOf 63 + 1 ≤ a.prot.onN.getD 63 0 ∧ a.srcUp 63 = false ∧ a.matrix 63 15 = .block ∧
      c.filterOf 63 + 1 ≤ c.prot.offN.getD 63 0 ∧ c.srcUp 63 = true := by decide +kernel

theorem witness_PllLockLossRelock :
    (let s := ready.modClk (fun c => { c with lockL := false })
     s.clk.pow .l = true ∧ s.clk.lock .l = false ∧ s.clk.back .l = false) ∧
    (ready.up = true ∧ ready.clk.pow .l = true ∧ ready.clk.lock .l = true ∧ ready.clk.pllStand.length = 3 ∧ ready.clk.lossN.length = 3) ∧
    (let s := ready.modClk (fun c => { c with lockL := false, backL := true })
     s.clk.pow .l = true ∧ s.clk.back .l = true) := by decide +kernel

theorem witness_ReferenceClockEvents :
    let s := par (inState .standby) [(gTIM, 1, 0, 1)]
    s.up = true ∧ ((603 : Nat) < 604 ∨ 617 < 603) ∧ ((618 : Nat) < 604 ∨ 617 < 618) ∧ s.pn gTIM 1 = 1 := by decide +kernel

theorem witness_TimeMeasurementsKeepLimits :
    let r := (atFrame ready 2000000).modHw (fun h => { h with e2 := true })
    let s := { r with clk := { r.clk with rho := 200000, setTai := some 9000000000 } }
    let m : PtpMsg := { e2 := true, origin := some 1000, peer := some ⟨0, 0, 0, 0, 0⟩ }
    s.up = true ∧ s.clk.srcSeen.length = 6 ∧ s.clk.rho ≤ 200000 ∧ s.ptpGood m = true ∧ s.ptpOther m = false ∧ s.clk.ptpM.length = 2 ∧ s.srcOk 1 = false ∧ m.offset = 1000 ∧ (s.raw gTIM 20).getLsbD 2 = true ∧
      (s.raw gTIM 20).getLsbD 3 = true ∧ s.clk.setTai = some 9000000000 ∧ s.srcOk 3 = false ∧ (s.raw gTIM 20).getLsbD 4 = true ∧
      (1000 : Int).natAbs ≤ s.pn gTIM 24 ∧
    (let u := s.modClk (fun c => { c with ptpM := [(0, []), (7, [1])], srcSeen := c.srcSeen.set 1 (some c.tai) })
     u.ptpOther m = true ∧ u.ptpGood m = true) := by decide +kernel

theorem witness_FirstMeasurementStepsTime :
    let s := ((atFrame ready 2000000).modClk (fun c => { c with tstate := .acquiring, fresh := true, source := 1 })).modHw (fun h => { h with e1 := true })
    let m : PtpMsg := { origin := some 7000, rx := 1000, peer := some ⟨0, 0, 0, -2, 0⟩ }
    s.ptpGood m = true ∧ s.running = false ∧ s.clk.master = m.master ∧ s.clk.masterE2 = false ∧ s.ptpOther m = false ∧ s.srcOk 2 = false ∧
      s.clk.srcSeen.length = 6 ∧ s.clk.tstate = .acquiring ∧ s.clk.fresh = true ∧ s.clk.source = 1 ∧ s.pn gTIM 24 < m.offset.natAbs ∧
      0 ≤ ((s.clk.tai : Int) + m.offset) := by decide +kernel

/-- LOCKED to source 1, which has been silent for more than 3 s. -/
def silentSource : State := (atFrame ready 2000000).modClk (fun c => { c with tstate := .locked, source := 1, srcSeen := c.srcSeen.set 0 (some 0) })

theorem silentSource_ok (j : Nat) : silentSource.srcOk j = false := by
  have h : ∀ j < 7, silentSource.srcOk j = false := by decide +kernel
  by_cases hj : j < 7
  · exact h j hj
  · have : silentSource.clk.srcSeen.getD (j - 1) none = none := by
      rw [List.getD, List.getElem?_eq_none]
      · rfl
      · show 6 ≤ j - 1; omega
    simp only [State.srcOk, this, Bool.and_false]

theorem witness_StationTimeStates :
    (let s := ready.modClk (fun c => { c with tstate := .acquiring, good := 16 })
     s.up = true ∧ s.clk.tstate = .acquiring ∧ 16 ≤ s.clk.good) ∧
    ((silentSource.clk.srcSeen.getD 0 none).isSome = true ∧ silentSource.srcOk 1 = false ∧ silentSource.clk.source = 1 ∧
      silentSource.clk.tstate = .locked ∧ ∀ j, silentSource.srcOk j = false) ∧
    (let s := (atFrame ready 720000000).modClk (fun c => { c with tstate := .holdover, leapArmed := true, ppsHigh := true })
     s.up = true ∧ s.clk.tstate = .holdover ∧ s.clk.stateSince + s.pn gTIM 26 ≤ s.now ∧ s.clk.leapArmed = true ∧
       s.clk.ppsRise < s.now / 1000000000 * 1000000000 ∧ s.clk.ppsHigh = true ∧ s.clk.ppsRise + s.pn gTIM 30 ≤ s.now) ∧
    State.reset.clk.tstate = .free := by
  refine ⟨by decide +kernel, ⟨?_, ?_, ?_, ?_, silentSource_ok⟩, by decide +kernel, by decide +kernel⟩ <;> decide +kernel

/-- Both channels agree, a reset has been given, both outputs energised. -/
def energised : State := ready.modHdg (fun h => { h with
  sa := { h.sa with valid := true }, sb := { h.sb with valid := true }, given := true
  outs := [{ HOut.reset with hs := true, ls := true, pend := true }, { HOut.reset with hs := true, ls := true, pend := true }] })

theorem witness_SafetyCycleDrivesOwnSwitches :
    energised.sys.st ≠ .dormant ∧ energised.hdg.outs.length = 2 ∧ energised.chOff false 1 = false ∧ energised.chOff true 1 = false := by
  decide +kernel

theorem witness_ChannelFaultsOpenBothOutputs :
    (let s := energised.modHdg (fun h => { h with sa := { h.sa with noMsg := 3 }, sb := { h.sb with crcBad := 3 } })
     s.sys.st ≠ .dormant ∧ s.hdg.outs.length = 2 ∧ 3 ≤ (s.hdg.ch false).noMsg ∧ 2 < (s.hdg.ch true).crcBad) ∧
    (let s := energised.modHdg (fun h => { h with sa := { h.sa with xErr := [0, 0, 0, 0, 0, 101] } })
     ∃ i, i < 6 ∧ s.pn gHDG 81 < (s.hdg.ch false).xErr.getD i 0) ∧
    200 < (-201 : Int).natAbs ∧ (200 : Int).natAbs ≤ 200 := by decide +kernel

theorem witness_CrossLinkMessageCompared : energised.sys.st ≠ .dormant ∧ (0 : Nat) = (energised.hdg.ch true).crc ∧
    (1 : Nat) ≠ (energised.hdg.ch true).crc := by decide +kernel

theorem witness_SafetyDemandsOpenOutputs :
    (let s := (par energised [(gHDG, 41, 3, 2)]).modHdg (fun h => { h with sb := { h.sb with cond := [false, false, false, true] } })
     s.sys.st ≠ .dormant ∧ s.hdg.outs.length = 2 ∧ (s.hdg.ch true).cond.getD 3 false = true ∧ (s.hdg.ch true).fnLat.length = 4 ∧
       (s.hdg.ch true).fnLat.getD 3 false = false ∧ s.pn gHDG 41 3 = 2 ∧ s.hdg.stop = none ∧ s.hdg.so1Off = false) ∧
    (let s := (par energised [(gHDG, 41, 0, 2)]).modHdg (fun h => { h with stop := some 0, sa := { h.sa with fnLat := [true, false, false, false] } })
     s.hdg.stop = some 0 ∧ (s.hdg.ch false).fnLat.getD 0 false = true ∧ s.pn gHDG 41 0 = 2) ∧
    (let s := (par energised [(gHDG, 50, 7, 4)]).modHdg (fun h => { h with dsN := h.dsN.set 7 10000000000 })
     s.pairFn 7 ≠ 0 ∧ s.pn gHDG 52 7 ≤ s.hdg.dsN.getD 7 0 ∧ s.hdg.dsF.length = 8) := by decide +kernel

theorem witness_OutputPairTestDetects :
    (let s := atFrame energised 2000000
     s.sys.st ≠ .dormant ∧ s.hdg.outs.length = 2 ∧ s.hdg.outs[1]? = some { HOut.reset with hs := true, ls := true, pend := true } ∧
       s.chOff false 1 = false ∧ s.chOff true 1 = false ∧ s.testSlot 0 = true ∧ s.testSlot 1 = true) ∧
    (let s := (atFrame energised 2000000).modHdg (fun h => { h with given := false })
     s.chOff false 0 = true ∧ s.testSlot 0 = true ∧ s.hdg.outs[0]? = some { HOut.reset with hs := true, ls := true, pend := true }) ∧
    (let s := (atFrame energised 2000000).modHdg (fun h => { h with given := false, outs := [HOut.reset, HOut.reset] })
     s.chOff false 0 = true ∧ s.testSlot 0 = true ∧ (s.hdg.out 0).hs = false ∧ (s.hdg.out 0).ls = false) := by decide +kernel

theorem witness_DoorbellAbortAndDoneClear :
    (ready.hostUp = true ∧ ready.onPcie 5 = true ∧ ready.mbx.chans.length = 8 ∧ ready.mbx.chans[5]? = some Chan.reset ∧
      32 ≤ (32 : Word).toNat % 8192 ∧ (4096 : Word).toNat % 8192 ≤ 4096 ∧ (31 : Word).toNat % 8192 < 32 ∧ 4096 < (4097 : Word).toNat % 8192) ∧
    (let s := ready.updChan 0 (fun c => { c with queued := true, req := some (rq 1) })
     (s.chan 0).queued = true ∧ (s.chan 0).req = some (rq 1)) := by decide +kernel

theorem witness_E1ConnectionsCarryRequests :
    let s := { ready with hw := { ready.hw with e1 := true } }
    s.hostUp = true ∧ s.onE1 7 = true ∧ s.mbx.chans[7]? = some Chan.reset ∧ s.hw.e1 = true ∧
      (let t := s.updChan 7 (fun c => { c with e1 := true })
       (t.chan 7).e1 = true ∧ (t.chan 7).queued = false ∧ (t.chan 7).exec_ = false ∧ (t.chan 7).sess = none) ∧
      (let t := s.updChan 7 (fun c => { c with e1 := true, sess := some Sess.reset })
       (t.chan 7).e1 = true ∧ (t.chan 7).sess = some Sess.reset) := by decide +kernel

/-- Channel 1 has a request queued, channel 2 one of the same class. -/
def queued (s : State) (q : Req) : State :=
  (s.updChan 1 (fun c => { c with queued := true, req := some q })).updChan 2 (fun c => { c with queued := true, req := some q })

theorem witness_RequestsStartByClass :
    (let s := queued ready (rq 1)
     s.hostUp = true ∧ s.mbx.chans.length = 8 ∧ s.nextReq = some 1 ∧ (s.chan 1).req = some (rq 1) ∧ (s.chan 1).exec_ = false ∧
       (s.chan 1).lock = none ∧ (rq 1).sess = 0 ∧ s.startCheck 1 (rq 1) = none) ∧
    (let s := (queued ready (rq 1)).updChan 1 (fun c => { c with lock := some 5, fails := 3 })
     s.nextReq = some 1 ∧ (s.chan 1).lock.isSome = true) ∧
    (let x : Sess := { Sess.reset with id := 7, last := [1] }
     let good := fun (n : Nat) => { rqs 1 with seq := n, tag := tagOf [] (rqs 1).hdr [] }
     let at_ := fun (q : Req) => queued (sess ready .observer) q |>.updChan 1 (fun c => { c with fails := 2, sess := some x })
     (∀ n ∈ [0, 1, 2], (at_ (good n)).nextReq = some 1 ∧ ((at_ (good n)).chan 1).lock = none ∧ (at_ (good n)).sessOf 1 (good n) = some x) ∧
       (at_ (rqs 1)).sessOf 1 (rqs 1) = some x ∧ tagOf x.key (rqs 1).hdr (rqs 1).pay ≠ (rqs 1).tag ∧
       (2 ≤ ((at_ (rqs 1)).chan 1).fails) ∧ (good 1).seq = x.seq + 1 ∧ (at_ (good 1)).startCheck 1 (good 1) = none ∧
       (good 0).seq = x.seq ∧ x.last ≠ [] ∧ (good 2).seq ≠ x.seq ∧ (good 2).seq ≠ x.seq + 1) := by decide +kernel

theorem witness_SessionsEnd :
    ((doing (sess ready .observer) (rqs 4)).executing 1 0x04 (rqs 4) ∧ ready.mute = false ∧ (rqs 4).pay = [] ∧
      ((doing (sess ready .observer) (rqs 4)).chan 1).sess ≠ none) ∧
    (let s := sess (atFrame ready 180000000) .guardian
     s.up = true ∧ ((s.chan 1).sess.map (·.used)) = some 0 ∧ 0 + s.pn gMBX 3 ≤ s.now ∧ (s.chan 1).exec_ = false) ∧
    (let s := (atFrame ready 2000000).updChan 1 (fun c => { c with lock := some 10000000000 })
     s.up = true ∧ (s.chan 1).lock = some 10000000000 ∧ 10000000000 ≤ s.now) := by unfold State.executing; decide +kernel

/-- The nonce and the payload of an AUTH_SESSION as GUARDIAN with credential 0 on channel 1. -/
def authPay (last : Byte) : List Byte :=
  [0, 0, 3, 0] ++ (hmac (List.replicate 32 0) (List.replicate 16 9 ++ [1, 3])).take 31 ++ [last]

theorem witness_SessionsOpenWithAGoodMac :
    (doing ready (rq 2)).executing 1 0x02 (rq 2) ∧ ready.mute = false ∧ (rq 2).sess = 0 ∧ (rq 2).pay = [] ∧
      ((doing ready (rq 2)).chan 1).sess = none ∧ ((doing (sess ready .observer) (rq 2)).chan 1).sess ≠ none ∧
    (let mac := hmac (List.replicate 32 0) (List.replicate 16 9 ++ [1, 3])
     let s := ready.updChan 1 (fun c => { c with nonce := some (List.replicate 16 9) })
     (∀ b ∈ [mac.getD 31 0, mac.getD 31 0 ^^^ 1],
       (doing s (rq 3 (authPay b))).executing 1 0x03 (rq 3 (authPay b)) ∧ (authPay b).length = 36 ∧
         natOfBytes (((authPay b).drop 3).take 1) = 0 ∧ natOfBytes (((authPay b).drop 2).take 1) = 3) ∧
       s.sys.creds[natOfBytes ((authPay 0).take 2)]? = some { key := List.replicate 32 0, role := .guardian, on := true } ∧
       ((authPay (mac.getD 31 0)).drop 4).take 32 = mac ∧ ((authPay (mac.getD 31 0 ^^^ 1)).drop 4).take 32 ≠ mac) := by
  unfold State.executing; decide +kernel

/-- Payload of one entry: identifier code, FIRST 0, COUNT 1, values. -/
def entPay (code : Nat) (v : List Byte) : List Byte := [0, 1, 0, 0] ++ bytesOfNat 4 code ++ [0, 0, 0, 1] ++ v

theorem witness_InformationAndParametersRead :
    (let s := doing { ready with sys := { ready.sys with life := .retired } } (rq 1)
     s.executing 1 0x01 (rq 1) ∧ (rq 1).pay = []) ∧
    (let q := { rqs 0x10 (entPay (Pid.code ⟨gSYS, 4⟩) []) with flags := 1 }
     let s := doing (sess ready .observer) q
     let l : List Ent := [⟨Pid.code ⟨gSYS, 4⟩, 0, 1, []⟩]
     s.executing 1 0x10 q ∧ s.mute = false ∧ payEnts false q.pay = some l ∧ s.readBad l = none ∧ s.sys.st ≠ .configPending ∧
       q.flags % 2 = 1 ∧ (s.author 1 q).role = .observer ∧ s.pb gLOG 1 = false) := by unfold State.executing; decide +kernel

theorem witness_WritesWaitForTheirBoundary :
    let q := fun (v : Byte) => rqs 0x11 (entPay (Pid.code ⟨gTIM, 31⟩) [0, 0, 0, v])
    let l := fun (v : Nat) => ([⟨Pid.code ⟨gTIM, 31⟩, 0, 1, [v]⟩] : List Ent)
    let s := fun (v : Byte) => doing (sess ready .operator) (q v)
    (∀ v ∈ [0, 100, 101], (s v).executing 1 0x11 (q v) ∧ (s v).mute = false ∧ payEnts true (q v).pay = some (l v.toNat) ∧
      (s v).hostShadow = false ∧ (s v).sys.st ≠ .configPending) ∧
    (∀ e ∈ l 100, e.eff = .control ∨ e.eff = .supervisory) ∧
    (s 100).firstBad ((s 100).author 1 (q 100)) ((l 100).flatMap ((s 100).writesOf ((s 100).author 1 (q 100)))) 0 [] (l 100) = none ∧
    ((s 101).firstBad ((s 101).author 1 (q 101)) ((l 101).flatMap ((s 101).writesOf ((s 101).author 1 (q 101)))) 0 [] (l 101)).isSome = true := by
  unfold State.executing; decide +kernel

theorem witness_SingleParameterCommandsTakeEffect :
    (let s := (sess ready .engineer).modArm (fun a => { a with cells := [{ Cell.reset with conf := true }] })
     s.mayWrite 1 .operator { Sess.reset with id := 7, role := .engineer } ∧ 2 ≤ SRole.engineer.rank ∧ s.isLeaf = true ∧
       s.sys.st = .ready ∧ s.commitBad 65535 = none ∧ (∀ w ∈ s.par.wait, s.fr < w.at_) ∧ s.trk[3]? = some Trk.reset ∧
       ¬(s.kern.core.mode = .sync ∧ s.syncTrk = some 3) ∧ s.running = false ∧ (9223372036000000000 : Int) % 1000000000 = 0 ∧
       s.arm.cells[0]? = some { Cell.reset with conf := true }) ∧
    (let s := sess (par ready [(gSYS, 1, 0, 3)]) .operator
     s.mayWrite 1 .operator { Sess.reset with id := 7, role := .operator } ∧ s.isRoot = true) := by
  unfold State.mayWrite; decide +kernel

theorem witness_BankCommands :
    (let s := doing (sess ready .engineer) (rqs 0x20)
     s.mute = false ∧ s.executing 1 0x20 (rqs 0x20) ∧ ((1 : Nat) == 1) = !s.eng.actB ∧ 8191 + [(5 : Word)].length ≤ 8192 ∧ s.eng.swapAt = none) ∧
    (doing (sess ready .observer) (rqs 0x21)).executing 1 0x21 (rqs 0x21) ∧ 0 + 8192 ≤ 8192 ∧
    (let s := doing (sess (atFrame ready 7) .engineer) (rqs 0x22)
     s.executing 1 0x22 (rqs 0x22) ∧ 12 % s.nc = 0 ∧ s.nextCtl s.fr < 12 ∧ s.eng.swapAt = none ∧ s.kernOn = false) ∧
    (let s := doing (sess (atFrame ready 7) .engineer) (rqs 0x23) |>.modEng (fun e => { e with swapAt := some 8 })
     s.executing 1 0x23 (rqs 0x23) ∧ s.eng.swapAt = some 8 ∧ s.fr < 8) := by unfold State.executing; decide +kernel

theorem witness_BankCommands_size : (doing (sess ready .engineer) (rqs 0x20)).banksInv := ⟨List.length_replicate, List.length_replicate⟩

theorem word_succ_ne (w : Word) : w + 1 ≠ w := by bv_omega

theorem witness_BankCommands_crc : ∃ crc : Word, crc ≠ (doing (sess ready .engineer) (rqs 0x22)).eng.crc true := ⟨_, word_succ_ne _⟩

theorem witness_DeblockAndHaltAreAccepted :
    (let s := doing (sess (par ready [(gTIM, 34, 0, 0)]) .operator) (rqs 0x30)
     s.mute = false ∧ (rqs 0x30).pay = [] ∧ s.executing 1 0x30 (rqs 0x30) ∧ s.deblockBad = none) ∧
    (let s := doing (sess ready .operator) (rqs 0x30)
     s.executing 1 0x30 (rqs 0x30) ∧ s.deblockBad = some .timNotLocked) ∧
    (let s := doing (sess (inState .running) .operator) (rqs 0x31)
     s.executing 1 0x31 (rqs 0x31) ∧ s.running = true ∧ s.sys.st ≠ .ready) ∧
    (let s := doing (sess ready .operator) (rqs 0x31)
     s.executing 1 0x31 (rqs 0x31) ∧ s.running = false) := by unfold State.executing; decide +kernel

theorem witness_SleepShutsDownAndWakesStart :
    (let s := doing (sess ready .engineer) (rqs 0x32)
     s.mute = false ∧ s.executing 1 0x32 (rqs 0x32) ∧ s.awake = true ∧ s.sys.st ≠ .running ∧ s.sys.shut = 0) ∧
    (let s := doing (sess (inState .running) .engineer) (rqs 0x32)
     s.executing 1 0x32 (rqs 0x32) ∧ s.sys.st = .running) ∧
    (let s := doing (sess (par (inState .standby) [(gPWR, 1, 0, 7), (gPWR, 2, 0, 32), (gGFM, 3, 0, 32)]) .operator) (rqs 0x33)
     s.executing 1 0x33 (rqs 0x33) ∧ (s.raw gPWR 1).getLsbD 0 = true ∧ (s.raw gPWR 1).getLsbD 1 = true ∧ (s.raw gPWR 1).getLsbD 2 = true ∧
       s.sys.st = .standby ∧ s.pn gPWR 2 ≠ 0 ∧ s.up = true ∧ s.pn gGFM 3 ≠ 0 ∧ fLt s.hw.base (degC (-25)) = false ∧
       fLt (degC (-26)) (degC (-25)) = true) ∧
    (let s := inState .standby |>.modSys (fun x => { x with coldHold := true })
     s.sys.st = .standby ∧ s.sys.coldHold = true ∧ fLt s.hw.base (degC (-25)) = false) := by unfold State.executing; decide +kernel

/-- A signed CONFIG image of 544 bytes: eight sections, all empty but the Hedgerow section, which is the reference of 32 zero bytes; the
signature of its header under `ownerKey`. -/
def image : List Byte := bytesOfNat 544 0x585a433100020101000000010000000001000000000000000000000000000220010000000000020000000000e3b0c44298fc1c149afbf4c8996fb92427ae41e4020000000000020000000000e3b0c44298fc1c149afbf4c8996fb92427ae41e4030000000000020000000000e3b0c44298fc1c149afbf4c8996fb92427ae41e4040000000000020000000000e3b0c44298fc1c149afbf4c8996fb92427ae41e405000000000002000000002066687aadf862bd776c8fc18b8e9f8e2008971485060000000000020000000000e3b0c44298fc1c149afbf4c8996fb92427ae41e4070000000000020000000000e3b0c44298fc1c149afbf4c8996fb92427ae41e4080000000000020000000000e3b0c44298fc1c149afbf4c8996fb92427ae41e46b17d1f2e12c4247f8bce6e563a440f277037d812deb33a0f4a13945d898c2966b17d1f2e12c4247f8bce6e563a440f277037d812deb33a0f4a13945d898c296000000000000000000000000000000000000000000000000000000000000000000000000000000000000000000000000000000000000000000000000000000000000000000000000000000000000000000000000000000000000000000000000000000000000000000000000000000000000000000000000000000000000000000000000000000000000000000000000000000000000000000000000000000000000000000000000000000000000000000000000000000000000000000000000
/-- A public key for P-256, x then y. -/
def ownerKey : Nat := 0xcccc0a5653a426b8787e44eacb7d67bc33ea41898e235827d9e900940cabcb4c2736e43cdef1306df4ff947a77056df220016d588854dcb54c71d1f0a71d778
/-- A complete transfer of `image` on channel 1. -/
def imageDone : Xfer := { ch := 1, kind := 1, len := 544, data := image, hdg := false }

theorem witness_ImageTransfersAndSelection :
    (let s := doing (sess ready .engineer) (rqs 0x40)
     s.mute = false ∧ s.sys.slots.length = 2 ∧ s.executing 1 0x40 (rqs 0x40) ∧ s.sys.life = .provisioned ∧ s.sys.xfer = none) ∧
    (let s := (doing (sess ready .guardian) (rqs 0x41)).modSys (fun x => { x with xfer := some { Xfer.reset with ch := 1, kind := 1, len := 4032 } })
     s.executing 1 0x41 (rqs 0x41) ∧ s.sys.xfer = some { Xfer.reset with ch := 1, kind := 1, len := 4032 } ∧
       (s.author 1 (rqs 0x41)).role = .guardian ∧ (List.replicate 4032 (0 : Byte)).length ≤ 4032 ∧ 0 + 4032 ≤ 4032) ∧
    (let s := (doing (sess ready .guardian) (rqs 0x42)).modSys (fun x => { x with xfer := some imageDone })
     s.executing 1 0x42 (rqs 0x42) ∧ (s.author 1 (rqs 0x42)).role = .guardian ∧ imageDone.data.length = imageDone.len) ∧
    (let s := (doing (sess ready .guardian) (rqs 0x43)).modSys (fun x => { x with slots := [Slot_.reset, { Slot_.reset with complete := true }] })
     s.executing 1 0x43 (rqs 0x43) ∧ (s.author 1 (rqs 0x43)).role = .guardian ∧ s.sys.st ≠ .running ∧ s.selReady false true = true) := by
  unfold State.executing; decide +kernel

theorem witness_SnapshotRings :
    (let v : Word := 0x84016000
     ready.hostUp = true ∧ v.getLsbD 31 = true ∧ v.getLsbD 30 = false ∧ ready.mbx.ctrl.getLsbD 31 = false ∧ ready.mbx.ctrl.getLsbD 30 = false ∧
       geoOk (ready.mbx.geoOf (v &&& snpMask)) = true ∧
       1088 + ((ready.sys.run.map (·.snapBytes)).getD 0) + 4 ≤ (ready.mbx.geoOf (v &&& snpMask)).2.2.1 * 4096) ∧
    (let p : SnapPend := { SnapPend.reset with seq := 3, own := { SnapOwn.reset with ok := true }, kern := some [] }
     let s := ready.modMbx (fun m => { m with snapDue := [p], sActive := true, geom := some (0, 4, 1, 6) })
     s.mbx.snapDue = p :: [] ∧ s.snapComplete p = true ∧ s.mbx.sActive = true ∧ s.mbx.geom = some (0, 4, 1, 6) ∧
       ringFull (2 ^ 4) s.mbx.head s.mbx.tail = false ∧
       ringFull (2 ^ 4) 15 0 = true) ∧
    (let s := doing (sess ready .engineer) (rqs 0x50)
     s.executing 1 0x50 (rqs 0x50)) := by unfold State.executing; decide +kernel

theorem witness_SnapshotRings_commands :
    (let s := doing (sess ready .engineer) (rqs 0x51)
     let ids : List (Pid × Nat) := [(⟨gDIA, 40⟩, 3)]
     s.mute = false ∧ s.executing 1 0x51 (rqs 0x51) ∧ (∀ x ∈ ids, s.fastOk x.1 = true ∧ s.idLen x.1 = some 4 ∧ x.2 < 4) ∧
       (ids.flatMap (fun x => s.valBytes x.1 x.2)).length ≤ 256) ∧
    (rqs 0x50).pay = [] := by unfold State.executing; decide +kernel

theorem witness_RecordsLogAndGateFirmware :
    (∀ op ∈ [0x60, 0x61, 0x62, 0x70, 0x80, 0x81], (doing (sess ready .engineer) (rqs op)).executing 1 op (rqs op)) ∧ ready.mute = false ∧
    (let r : Rec := { Rec.reset with num := 4 }
     [r].find? (fun x => x.num == 4 && x.kept) = some r) ∧
    ready.peatFree .exportRead = true ∧ (ready.modPeat (fun p => { p with dirty := 8 })).peatFree .exportRead = false ∧
    (4096 : Nat) ≠ 0 ∧ 4096 ≠ ready.peat.guFile.length ∧
    (let s := withCell (doing (sess ready .engineer) (rqs 0x81)) Cell.reset
     s.executing 1 0x81 (rqs 0x81) ∧ (s.cell 511).conf = true ∧ s.link.ports[(s.cell 511).port]? = some Port.reset) := by
  unfold State.executing; decide +kernel

theorem witness_RegistersReadAndWritten :
    ready.hostUp = true ∧ 4092 % 4 = 0 ∧ (({ Chan.reset with buf := List.replicate 4096 0 } : Chan).buf.length = 4096) ∧
      (ready.updChan 7 (fun c => { c with buf := List.replicate 4096 0 })).mbx.chans[7]? =
        some { Chan.reset with buf := List.replicate 4096 0 } := ⟨by decide +kernel, rfl, List.length_replicate, rfl⟩

theorem witness_PowerUpAndPowerFail :
    State.reset.sys.st = .dormant ∧ State.reset.sys.bootBad = 0 ∧ 0 < State.reset.pn gCFG 31 ∧
      State.reset.sys.fwOk.getD (if State.reset.sys.fwSelB then 1 else 0) false = true ∧ State.reset.sys.lifeReq = none ∧
      State.reset.sys.seqNo ≤ State.reset.peat.stored ∧ ready.sys.st ≠ .dormant ∧ ready.pb gTWN 1 = false ∧ ready.awake = true ∧
    (let s := (par ready [(gTWN, 1, 0, 1), (gLNK, 1, 31, 4)]).modLink (fun l => { l with txOn := true })
     s.pb gTWN 1 = true ∧ s.twin.shadow = true ∧ s.twin.selfFailed = false ∧ s.twinOn = true ∧ s.link.txOn = true ∧ s.txGo = true ∧
       s.cellPort 31 = true ∧ 31 < s.link.ports.length) := by decide +kernel

theorem witness_ManagementSideResetsAndLoad :
    ready.up = true ∧ ready.mbx.chans.length = 8 ∧ ready.onPcie 5 = true ∧ ready.onPcie 6 = false ∧ ready.sys.bootBad + 1 < ready.pn gCFG 31 ∧
      (ready.modSys (fun x => { x with life := .service })).sys.life = .service ∧ ready.sys.creds.length = 32 ∧ ready.sys.life = .provisioned ∧
      ready.mbx.level ≤ 3 ∧ 0 + 10 ≤ levelFrom 3 ∧ 80 + 10 ≤ levelFrom 3 ∧ levelFrom 3 < 81 + 10 := by decide +kernel

theorem witness_SelfTestSlicesAreRecorded :
    let s := ready.modSys (fun x => { x with shut := 2, sliceGo := true, slice := 12 })
    s.sys.shut = 2 ∧ s.sys.sliceGo = true ∧ s.sys.tests[s.sys.slice]? = some SliceS.reset ∧ s.sys.lifeReq = none := by decide +kernel

theorem witness_IdentityRetryRepeatsTheMatch :
    (let s := (atFrame (inState .configPending) 1000).modSys (fun x => { x with retry := true, retryAt := 5000000 })
     s.sys.st = .configPending ∧ s.sys.retry = true ∧ s.sys.retryAt ≤ s.now) ∧
    (let s := (atFrame (inState .configPending) 999).modSys (fun x => { x with retry := true, retryAt := 5000000 })
     s.now < s.sys.retryAt) := by decide +kernel

theorem witness_PeatWritesWhatIsDue :
    (let s := ready.modPeat (fun p => { p with dirty := 8, pageN := 64 })
     s.up = true ∧ 8 ≤ s.peat.dirty ∧ s.journalDue = true ∧ s.peat.commitN = 0) ∧
    (let s := ready.modPeat (fun p => { p with dirty := 7, pageN := 64, commitN := 65 })
     s.journalDue = false ∧ 64 ≤ s.peat.pageN ∧ s.auditDue = true ∧ s.peat.commitN % 64 ≠ 0) ∧
    (let s := (atFrame ready 200000).modPeat (fun p => { p with dirty := 1, pageN := 1 })
     0 < s.peat.dirty ∧ s.peat.lastC + s.pn gSTO 4 ≤ s.now ∧ 0 < s.peat.pageN ∧ s.peat.pageT + s.pn gSTO 5 ≤ s.now) ∧
    (let s := ready.modAcq (fun a => { a with done_ := [{ Rec.reset with size := recBytes }] })
     s.journalDue = false ∧ s.auditDue = false ∧ s.acq.done_ = { Rec.reset with size := recBytes } :: [] ∧ 64 < s.peat.spare ∧ s.peat.recUsed + recBytes ≤ recBytes) := by decide +kernel

theorem witness_PeatReadsAndFailures :
    ready.up = true ∧ (∀ b ∈ [7, 25], b < ready.pn gSTO 2 ∨ 24 < b) ∧ (mGet ready.peat.reads 0).getD 0 + 1 < 100000 ∧
      32767 ∉ ready.peat.bad ∧ peatCopies 0 = 2 ∧ ready.peatFree .scrub = true ∧
      (let s := ready.modPeat (fun p => { p with blocks := [(5, 0, 0)] })
       s.peatFree .scrub = true ∧ (∃ b ∈ [24], s.pn gSTO 2 ≤ b ∧ b ≤ 24) ∧ s.peat.movable 5 = true ∧ s.peat.freeBlocks.isEmpty = false) ∧
      (let s := ready.modAcq (fun a => { a with done_ := [Rec.reset] })
       s.journalDue = false ∧ s.auditDue = false ∧ s.recDue = true) := by decide +kernel

theorem witness_FieldInputsDebounceAndReport :
    (let s := (par ready [(gGFM, 3, 0, 32)]).modFio (fun f => { f with raw := 0x80000000, since := f.since.set 31 101 })
     s.up = true ∧ s.fio.raw.getLsbD 31 = true ∧ s.fio.lev.getLsbD 31 ≠ true ∧ s.pn gFIO 1 31 + 1 ≤ s.fio.since.getD 31 0) ∧
    (let s := (par ready [(gFIO, 3, 15, 1)]).modFio (fun f => { f with lpMiss := false, below := f.below.set 15 wireSamples })
     s.fio.lpMiss = false ∧ s.pb gFIO 3 15 = true ∧ wireSamples ≤ s.fio.below.getD 15 0) ∧
    (let s := ready.modFio (fun f => { f with lpMiss := false, brk := 0x8000, above := f.above.set 15 wireSamples })
     s.fio.brk.getLsbD 15 = true ∧ wireSamples ≤ s.fio.above.getD 15 0) := by decide +kernel

/-- With the record of field output 15. -/
def withOut (s : State) (y : OutS) : State := s.modFio (fun f => { f with outs := f.outs.set 15 y, lpMiss := false })

theorem witness_FieldOutputFaults :
    (let y : OutS := { OutS.reset with cmd := true, limit := true, shuts := [1, 1] }
     (withOut ready y).up = true ∧ (withOut ready y).fio.outs[15]? = some y ∧ y.therm = false ∧ (withOut ready y).fio.lpMiss = false ∧
       2 ≤ (y.shuts.filter (fun a => decide (ready.now < a + 10000000000))).length) ∧
    (OutS.reset.shuts.filter (fun a => decide (ready.now < a + 10000000000))).length < 2 ∧
    (let s := withOut (par ready [(gFIO, 27, 15, 1)]) { OutS.reset with cmd := true, mA := 2 }
     s.pb gFIO 27 15 = true ∧ (s.outS 15).cmd = true ∧ (s.outS 15).mA < 3 ∧ (s.outS 15).open_ = false) ∧
    (let s := withOut ready { OutS.reset with term := true, open_ := true, therm := true }
     (s.outS 15).cmd = false ∧ (s.outS 15).term = true ∧ s.outPaired 15 = false ∧ (s.outS 15).extHi = false ∧ (s.outS 15).open_ = true ∧
       (s.outS 15).therm = true) ∧
    (let s := withOut (atFrame ready 2000000) { OutS.reset with cmd := true, extHi := true }
     (s.outS 15).therm = false ∧ s.pb gFIO 24 15 = true ∧ s.cmpHolds 15 = false ∧ s.outPaired 15 = false ∧
       (s.outS 15).lastT + s.pn gFIO 26 ≤ s.now ∧ s.fio.lastPulse + 10000000 ≤ s.now ∧ s.hdgQuiet = true ∧ s.fio.outs.length = 16 ∧
       ((s.updOut 3 (fun y => { y with cmd := true })).outS 3).cmd = true ∧ (s.outS 15).extHi = true) ∧
    (let s := (par ready [(gANG, 24, 3, 1)]).updTrk 3 (fun x => { x with pulseEnd := some 0 })
     s.trk[3]? = some { Trk.reset with pulseEnd := some 0 } ∧ 0 ≤ s.now ∧ s.cmpOut 3 ≠ some 15) := by decide +kernel

theorem witness_SilenceSupplyAndPlatform :
    (let s := atFrame ready 20000
     s.up = true ∧ s.fio.silent = false ∧ s.fio.lastF + s.pn gFIO 23 ≤ s.now) ∧
    (let s := ready.modFio (fun f => { f with silent := true, ok := true, lpMissN := lpSamples, lpLowC := lpSamples })
     s.fio.silent = true ∧ s.fio.ok = true ∧ lpSamples ≤ s.fio.lpMissN ∧ s.fio.lpLowN < lpSamples ∧ lpSamples ≤ s.fio.lpLowC) := by
  decide +kernel

theorem witness_RecorderStates :
    (let s := (par ready [(gACQ, 3, 0, 0)]).modAcq (fun a => { a with st := .filling })
     s.acq.st = .filling ∧ s.nPre ≤ s.acq.ring.length) ∧
    (let s := (atFrame ready 200000).modAcq (fun a => { a with st := .holdoff, hoEnd := 1000000000 })
     s.acq.st = .holdoff ∧ s.pn gACQ 7 ≠ 1 ∧ s.acq.hoEnd ≤ s.now ∧ s.acq.stopDis = false ∧ s.sRec ≤ s.acqFree) ∧
    (let s := ready.modAcq (fun a => { a with st := .waitMemory })
     s.acq.st = .waitMemory ∧ s.sRec ≤ s.acqFree) := by decide +kernel

theorem witness_RecorderStates_record :
    let s := (par ready [(gACQ, 4, 0, 0), (gACQ, 5, 0, 0)]).modAcq (fun a => { a with st := .recording, cur := some Rec.reset })
    s.acq.cur = some Rec.reset ∧ s.acq.st = .recording ∧ s.recordFull Rec.reset = true ∧ s.acq.stopDis = false ∧
      (if s.pn gACQ 7 = 1 then s.pn gACQ 9 else s.pn gACQ 8) ≠ 0 := by decide +kernel

/-- A POLE in READY whose image has a kernel. -/
def pole : State := (par ready [(gSYS, 1, 0, 3), (gGFM, 5, 0, 4)]).modSys (fun x => { x with run := some { gfmSet := true } })

theorem witness_KernelOwnSteps :
    (let s := pole.modKern (fun k => { k with core := { k.core with mode := .sync, matchN := 4294967295 } })
     s.kernOn = true ∧ s.kern.core.mode = .sync ∧ s.kern.synArm = false ∧ s.kern.synHold = false ∧ s.kern.fired = none ∧
       s.syncTrk = some 3 ∧ s.trk[3]? = some Trk.reset ∧ (s.gw s.eng.actB 73).toNat ≤ s.kern.core.matchN) ∧
    (let s := (atFrame pole 60000).modKern (fun k => { k with core := { k.core with mode := .sync }, fired := some 0, due4 := true, due6 := true })
     s.kernOn = true ∧ s.kern.fired = some 0 ∧ 0 + s.pn gGFM 76 ≤ s.now ∧ s.kern.due4 = true ∧ s.kern.due6 = true) := by decide +kernel

/-- A member of a pair with link T running. -/
def member (shadow : Bool) : State :=
  (par (atFrame ready 1000) [(gTWN, 1, 0, 1)]).modTwin (fun t => { t with shadow := shadow })

theorem witness_TwinBlocksTaken :
    (member true).twinOn = true ∧ (member true).isShadow = true ∧ (member false).isShadow = false ∧
      misaligned (member true).fr (extendF (member true).fr 1003) = true ∧ misaligned (member true).fr (extendF (member true).fr 1002) = false ∧
      extendF (member true).fr 1002 ≠ (member true).fr ∧ extendF (member true).fr 1000 = (member true).fr ∧
    (let s := (member true).modTwin (fun t => { t with phase := 2, excN := 376 })
     s.twin.phase = 2 ∧ s.twin.excN + 8 ≤ 384 ∧ 384 < s.twin.excN + 9 ∧ s.twin.excN ≤ 384) ∧
    (let s := withCell (par (member true) [(gTWN, 1, 0, 1), (gLNK, 1, 31, 1)]) Cell.reset
     s.isShadow = true ∧ s.chanAt 31 0 = some 511 ∧ s.arm.cells[511]? = some { Cell.reset with conf := true, port := 31 }) ∧
    (let s := (member false).modTwin (fun t => { t with plan := some 2000 }) |>.modLink (fun l => { l with txOn := true })
     s.twin.plan = some 2000 ∧ s.link.txOn = true ∧ s.link.ports[31]? = some Port.reset) ∧
    (par (member true) [(gTWN, 1, 0, 1), (gLNK, 1, 31, 4)]).topoOf 31 = 4 ∧ (par (member true) [(gTWN, 1, 0, 1), (gLNK, 1, 31, 1)]).topoOf 31 ≠ 4 := by
  decide +kernel

theorem witness_TwinRolesChange :
    (let s := (member true).modTwin (fun t => { t with formTai := some 0 })
     s.pb gTWN 1 = true ∧ s.twinOn = true ∧ s.twin.formTai.isSome = true ∧ s.sys.st = .ready ∧ true ≠ s.twin.sideB ∧ 0 = s.imageDigest) ∧
    (let s := (member true).modTwin (fun t => { t with paired := true, ready := true })
     s.partnerDead = true ∧ s.twin.latchDue = 0 ∧ s.twin.shadow = true ∧ s.twin.selfFailed = false ∧ s.twin.plan = none ∧
       s.twin.partFailed = false ∧ s.twin.ready = true) ∧
    (let s := (member true).modTwin (fun t => { t with ready := true, ownDig := some (1000, 5) })
     s.twin.ownDig = some (1000, 5) ∧ extendF s.fr 1000 = 1000 ∧ misaligned s.fr (extendF s.fr 1000) = false ∧ s.twin.ready = true) ∧
    (let s := (member true).modTwin (fun t => { t with phase := 4, ownDig := some (1000, 5), joinBad := 3, gotT := [1000, 999], paired := true, latchDue := 1 })
     s.twin.phase = 4 ∧ s.twin.ownDig = some (s.fr, 5) ∧ s.twin.giveup = false ∧ s.pn gTWN 8 ≤ s.twin.joinBad ∧ s.twin.missing4 s.twin.gotC s.hbDue = true ∧
       s.twin.missing4 s.twin.gotT s.hbDue = false ∧ s.twin.lostC = false ∧ s.twin.latchDue ≠ 0) ∧
    (let s := (par (atFrame ready 17280000000) [(gTWN, 1, 0, 1), (gTWN, 2, 0, 1)]).modTwin (fun t =>
       { t with shadow := false, paired := true, gotC := [17279999999] })
     s.pn gTWN 2 = 1 ∧ s.twin.lastChg + s.pn gTWN 3 ≤ s.now ∧ s.twin.plan = none ∧ s.twin.missing4 s.twin.gotT s.fr = true ∧ s.twin.missing4 s.twin.gotC s.hbDue = false ∧
       s.twin.lostT = false) := by decide +kernel

theorem witness_BoundariesAdvanceTheGrid :
    ready.up = true ∧ State.reset.up = false ∧ ready.twin.latchDue = 0 ∧
    (let s := atFrame ready 1000
     s.coreGo = true ∧ s.isCtl s.fr = true ∧ s.eng.runs = [none, none, none, none] ∧ s.engOn = true ∧ s.isSup s.fr = true ∧
       s.twin.latchDue.testBit 2 = false ∧ (s.modTwin (fun t => { t with latchDue := 1 })).twin.latchDue = 1 ∧
       (s.modEng (fun e => { e with swapAt := some 1000 })).swapDue s.fr = true) ∧
    (atFrame ready 1001).isCtl 1001 = false ∧ (atFrame ready 1001).isSup 1001 = false := by decide +kernel

theorem witness_ImageTransfersAndSelection_integrity :
    (ready.modSys (fun x => { x with key1 := some ownerKey })).integrity image = [] := by decide +kernel

end Sys2Proof.Tests
end

section
/-!
SUPPORT. The write of one element through the session of a channel (R10, R460, R464, R466): what admits it, what it leaves where it waits
for a boundary, and what it does where its term is Immediate.
-/
namespace Sys2Proof.Machine
open Sys2Proof

/-! ### The entry and its element write -/

/-- The element write that an entry of one element spells, by the row of its parameter (R464, R466). -/
def State.elemWrite (s : State) (a : Author) (id : Pid) (r : PRow) (e v : Nat) : Write :=
  { ch := a.ch, role := a.role, sess := a.sess, cred := a.cred, id := id, e := e, v := storedVal id (r.ty.val v), eff := r.eff
    at_ := s.boundaryOf r.eff }

section
variable (s : State) (a : Author) (id : Pid) (r : PRow) (e v : Nat)

@[simp] theorem elemWrite_id : (s.elemWrite a id r e v).id = id := rfl
@[simp] theorem elemWrite_e : (s.elemWrite a id r e v).e = e := rfl
@[simp] theorem elemWrite_v : (s.elemWrite a id r e v).v = storedVal id (r.ty.val v) := rfl
@[simp] theorem elemWrite_eff : (s.elemWrite a id r e v).eff = r.eff := rfl
@[simp] theorem elemWrite_at_ : (s.elemWrite a id r e v).at_ = s.boundaryOf r.eff := rfl

end

/-- What an entry of one element has to meet to be accepted: parameter, element, role, range and rules (R7, R12, R460, R466). -/
structure State.Admits (s : State) (a : Author) (id : Pid) (r : PRow) (e v : Nat) : Prop where
  group : id.g < gDIA
  number : id.n < 1024
  row : prow id = some r
  elem : e < s.arrLen id r
  term : r.eff ≠ .image
  priv : r.priv.rank ≤ a.role.rank
  range : s.inRange id e r (r.ty.val v) = true
  rule : s.ruleBad 0 [s.elemWrite a id r e v] [] [s.elemWrite a id r e v] = none

/-- An entry spells one element of a parameter with the bytes of one value (R464). -/
structure Ent.Spells (y : Ent) (id : Pid) (e v : Nat) : Prop where
  code : pidOf y.code = some id
  first : y.first = e
  count : y.count = 1
  vals : y.vals = [v]

/-- The entry of a row that is the write of one element spells that element. -/
theorem oneEnt_spells (id : Pid) (e v : Nat) (hg : id.g < gDIA) (hn : id.n < 1024) : (oneEnt id.g id.n e v).Spells id e v := by
  refine ⟨?_, rfl, rfl, rfl⟩
  have hc : (oneEnt id.g id.n e v).code = (id.g * 1024 + id.n) * 131072 := by
    simp only [oneEnt, Pid.code]; omega
  have h1 : (id.g * 1024 + id.n) * 131072 % 131072 = 0 := by omega
  have h2 : (id.g * 1024 + id.n) * 131072 / 134217728 = id.g := by omega
  have h3 : (id.g * 1024 + id.n) * 131072 / 131072 % 1024 = id.n := by omega
  have h4 : id.g ≤ 21 := Nat.le_of_lt hg
  rw [hc]
  simp only [pidOf, h1, h2, h3, h4, beq_self_eq_true, decide_true, Bool.and_self, if_true]

theorem ruleBad_single (s : State) (i : Nat) (all : List Write) (w : Write) (h : w.id ≠ ⟨gCFG, 5⟩) :
    s.ruleBad i all [] [w] = none ↔ s.ruleOf (s.viewFor w [] all) w = none := by
  simp only [State.ruleBad, beq_eq_false_iff_ne.mpr h, Bool.false_eq_true, if_false]
  split <;> simp [*]

theorem ruleBad_of_ruleOf (s : State) (i : Nat) (all : List Write) (w : Write) (h : ∀ u, s.ruleOf u w = none) :
    s.ruleBad i all [] [w] = none := by
  simp only [State.ruleBad, h]

/-- With no write waiting for a boundary already past, the first Immediate write of a request is judged on the present values with its own
(R466). -/
theorem viewFor_immediate (s : State) (w : Write) (all : List Write) (hw : w.eff = .immediate) (hq : ∀ y ∈ s.par.wait, w.at_ < y.at_) :
    s.viewFor w [] all = s.store w.id w.e w.v := by
  have hnone : s.par.wait.filter (fun y => decide (y.at_ ≤ w.at_)) = [] := by simpa using hq
  simp [State.viewFor, hw, hnone, forAll]

section Entry
variable {s : State} {a : Author} {id : Pid} {r : PRow} {e v : Nat} {y : Ent}

theorem State.Admits.spells (h : s.Admits a id r e v) : (oneEnt id.g id.n e v).Spells id e v :=
  oneEnt_spells id e v h.group h.number

theorem State.Admits.writesOf (h : s.Admits a id r e v) (hy : y.Spells id e v) : s.writesOf a y = [s.elemWrite a id r e v] := by
  unfold State.writesOf
  simp only [hy.code, hy.vals, hy.first, h.row]
  rfl

theorem State.Admits.entBad (h : s.Admits a id r e v) (hy : y.Spells id e v) : s.entBad a 0 y = none := by
  have hl : s.idLen id = some (s.arrLen id r) := by
    simp only [State.idLen, beq_eq_false_iff_ne.mpr (Nat.ne_of_lt h.group), h.row, Bool.false_eq_true, if_false, Option.map_some]
  have helem : ¬ s.arrLen id r < e + 1 := Nat.not_lt.mpr h.elem
  have hpriv : ¬ a.role.rank < r.priv.rank := Nat.not_lt.mpr h.priv
  unfold State.entBad
  simp only [hy.code, hy.first, hy.count, hy.vals, hl, h.row, helem, hpriv, beq_eq_false_iff_ne.mpr h.term, List.zipIdx_singleton,
    List.all_cons, List.all_nil, Nat.add_zero, h.range, Bool.and_self, Bool.false_eq_true, if_false, if_true]

theorem State.Admits.firstBad (h : s.Admits a id r e v) (hy : y.Spells id e v) :
    s.firstBad a [s.elemWrite a id r e v] 0 [] [y] = none := by
  simp [State.firstBad, h.writesOf hy, h.entBad hy, h.rule]

/-- An admitted entry is accepted, and its element write with it. -/
theorem State.Admits.writeLogged (h : s.Admits a id r e v) (hy : y.Spells id e v) (hh : s.hostShadow = false)
    (hc : s.sys.st ≠ .configPending) : (s.writeLogged a [y]).1 = s.acceptWrite (s.elemWrite a id r e v) := by
  have hr : ∃ p : Reply, (p.st = .ok ∨ p.st = .accepted) ∧ s.writeReq a [y] = (s.acceptWrite (s.elemWrite a id r e v), p) := by
    simp only [State.writeReq, hh, beq_eq_false_iff_ne.mpr hc, List.flatMap_cons, List.flatMap_nil, List.append_nil, h.writesOf hy,
      h.firstBad hy, forAll, List.foldl_cons, List.foldl_nil]
    rw [if_neg (by decide), if_neg (by decide)]
    split
    · exact ⟨_, .inl rfl, rfl⟩
    · exact ⟨_, .inr rfl, rfl⟩
  obtain ⟨p, hp, hw⟩ := hr
  rcases hp with hp | hp <;> simp [State.writeLogged, hw, hp]

end Entry

/-- The session that writes, as the author of its writes. -/
def Sess.author (x : Sess) (ch : Nat) : Author := ⟨ch, x.role, x.id, x.cred⟩

/-- A row that is the write of one element: where the session may write and the entry is admitted, the write is accepted. -/
theorem hostWrite_accepts {s : State} {ch : Nat} {low : SRole} {x : Sess} {id : Pid} {r : PRow} {e v : Nat} {y : Ent}
    (hs : s.mayWrite ch low x) (h : s.Admits (x.author ch) id r e v) (hy : y.Spells id e v) :
    s.hostWrite ch y = s.acceptWrite (s.elemWrite (x.author ch) id r e v) := by
  obtain ⟨hup, hch, hmute, hsess, -, hexec, hshadow, hpend⟩ := hs
  have hr : (s.writeLogged ⟨ch, x.role, x.id, x.cred⟩ [y]).1 = _ := h.writeLogged hy hshadow hpend
  unfold State.hostWrite
  simp only [hsess, hup, hch, hmute, hexec, hr, decide_true, Bool.and_self, Bool.not_true, Bool.or_self, Bool.false_and, Bool.false_eq_true,
    if_false]
  split <;> rfl

/-! ### Parameters of plain form -/

/-- Parameters with reserved bits (R6). -/
def maskedIds : List Pid := [⟨gACQ, 41⟩, ⟨gTIM, 20⟩, ⟨gPWR, 1⟩]

/-- Parameters whose length, range or stored form has a rule of its own (R6, R12, R466). -/
def formedIds : List Pid :=
  [⟨gARM, 1⟩, ⟨gARM, 3⟩, ⟨gARM, 4⟩, ⟨gARM, 5⟩, ⟨gPWM, 10⟩, ⟨gPWM, 32⟩, ⟨gACQ, 30⟩, ⟨gACQ, 41⟩, ⟨gACQ, 45⟩, ⟨gLOG, 2⟩, ⟨gTIM, 50⟩,
   ⟨gTIM, 20⟩, ⟨gPWR, 1⟩]

theorem maskedIds_subset : maskedIds ⊆ formedIds := by decide

/-- A parameter of the release that a host may write, of an unsigned type counted from 0, with no rule of form of its own. -/
abbrev PRow.Plain (id : Pid) (r : PRow) : Prop :=
  id.g < gDIA ∧ id.n < 1024 ∧ id ∉ formedIds ∧ r.eff ≠ .image ∧ r.ty ∈ [PTy.bool, .u8, .u16, .enum] ∧ r.lo = 0

theorem PRow.Plain.val {id : Pid} {r : PRow} (h : r.Plain id) (v : Nat) : r.ty.val v = (v : Int) := by
  obtain ⟨-, -, -, -, ht, -⟩ := h
  simp only [List.mem_cons, List.not_mem_nil, or_false] at ht
  rcases ht with ht | ht | ht | ht <;> simp [ht, PTy.val]

/-- A parameter without reserved bits stores all 64 bits of a value (R6). -/
theorem storedVal_whole (id : Pid) (v : Int) (h : id ∉ maskedIds) : storedVal id v = BitVec.ofInt 64 v := by
  simp only [maskedIds, List.mem_cons, List.not_mem_nil, or_false, not_or] at h
  simp only [storedVal, h, beq_iff_eq, if_false]
  exact BitVec.and_allOnes

theorem PRow.Plain.storedVal {id : Pid} {r : PRow} (h : r.Plain id) (v : Nat) : storedVal id (r.ty.val v) = BitVec.ofNat 64 v := by
  have hval := h.val v
  obtain ⟨-, -, hf, -⟩ := h
  rw [hval, storedVal_whole id v (fun hm => hf (maskedIds_subset hm)), BitVec.ofInt_natCast]

theorem PRow.Plain.arrLen {id : Pid} {r : PRow} (h : r.Plain id) (s : State) : s.arrLen id r = r.len := by
  obtain ⟨-, -, hf, -⟩ := h
  have harm : ¬(id.g = gARM ∧ (id.n = 1 ∨ 3 ≤ id.n ∧ id.n ≤ 5)) := by
    obtain ⟨g, n⟩ := id
    rintro ⟨hg, hn⟩
    dsimp only at hg hn
    have h4 : n = 1 ∨ n = 3 ∨ n = 4 ∨ n = 5 := by omega
    subst hg
    rcases h4 with hn | hn | hn | hn <;> exact hf (by subst hn; decide)
  exact if_neg (by simpa using harm)

theorem PRow.Plain.inRange {id : Pid} {r : PRow} (h : r.Plain id) (s : State) (e v : Nat) (hv : (v : Int) ≤ r.hi) :
    s.inRange id e r (r.ty.val v) = true := by
  rw [h.val v]
  obtain ⟨-, -, hf, -, ht, hlo⟩ := h
  have hty : r.ty ≠ .f32 := by rintro h32; simp [h32] at ht
  simp only [formedIds, List.mem_cons, List.not_mem_nil, or_false, not_or] at hf
  simp [State.inRange, hty, hf, hlo, hv]

/-- A plain parameter's entry of one element is admitted by its length, role, upper end and rules. -/
theorem PRow.Plain.admits {s : State} {a : Author} {id : Pid} {r : PRow} {e v : Nat} (h : r.Plain id) (row : prow id = some r)
    (elem : e < r.len) (priv : r.priv.rank ≤ a.role.rank) (top : (v : Int) ≤ r.hi)
    (rule : s.ruleBad 0 [s.elemWrite a id r e v] [] [s.elemWrite a id r e v] = none) : s.Admits a id r e v := by
  have elem' : e < s.arrLen id r := (h.arrLen s).symm ▸ elem
  have range := h.inRange s e v top
  obtain ⟨group, number, -, term, -, -⟩ := h
  exact ⟨group, number, row, elem', term, priv, range, rule⟩

/-! ### A write that waits -/

/-- A lead tells its shadow of a write (R330); nothing else changes. -/
theorem carry_spec (s : State) (op : Nat) (w : Write) : ∃ l, s.carry op w = s.modTwin (fun t => { t with acts := l }) := by
  unfold State.carry
  split
  · exact ⟨_, rfl⟩
  · exact ⟨s.twin.acts, rfl⟩

/-- A Control or Supervisory write waits for its boundary, behind those that wait (R10, R466). -/
theorem acceptWrite_waits (s : State) (ch : Nat) (x : Sess) (id : Pid) (r : PRow) (e v : Nat)
    (term : r.eff = .control ∨ r.eff = .supervisory) :
    WaitsFor s (s.acceptWrite (s.elemWrite (x.author ch) id r e v)) ch x id e (storedVal id (r.ty.val v)) r.eff (s.boundaryOf r.eff) := by
  obtain ⟨l, hl⟩ := carry_spec s 0x11 (s.elemWrite (x.author ch) id r e v)
  have hw : s.acceptWrite (s.elemWrite (x.author ch) id r e v) =
      (s.modTwin (fun t => { t with acts := l })).modPar (fun p => { p with wait := p.wait ++ [s.elemWrite (x.author ch) id r e v] }) := by
    rcases term with ht | ht <;> simp only [State.acceptWrite, hl, elemWrite_eff, ht]
  rw [hw]
  exact ⟨rfl, rfl⟩

/-- A row that is the write of one plain parameter by Control or Supervisory term waits for its boundary. -/
theorem hostWrite_waits {s : State} {ch : Nat} {low : SRole} {x : Sess} (hs : s.mayWrite ch low x) (id : Pid) {r : PRow} (v : Nat)
    (row : prow id = some r) (plain : r.Plain id) (len : r.len = 1) (term : r.eff = .control ∨ r.eff = .supervisory)
    (priv : r.priv.rank ≤ x.role.rank) (top : (v : Int) ≤ r.hi)
    (rule : ∀ u, s.ruleOf u (s.elemWrite (x.author ch) id r 0 v) = none) :
    WaitsFor s (s.hostWrite ch (oneEnt id.g id.n 0 v)) ch x id 0 (BitVec.ofNat 64 v) r.eff (s.boundaryOf r.eff) := by
  have ha : s.Admits (x.author ch) id r 0 v :=
    plain.admits row (by omega) priv top (ruleBad_of_ruleOf s 0 _ _ rule)
  rw [hostWrite_accepts hs ha ha.spells, ← plain.storedVal v]
  exact acceptWrite_waits s ch x id r 0 v term

/-! ### A write that acts at once -/

/-- One record more: the ring, its number and Peat's page buffer, and nothing else (R508, R510, R526). -/
theorem logPush_spec (s : State) (r : Audit) : LoggedOne s (s.logPush r) r.ty ∧ SameButLog s (s.logPush r) :=
  ⟨⟨{ r with seq := s.sys.seqNo + 1 }, rfl, rfl, rfl, rfl⟩, rfl⟩

/-- An event with no reason names and no further values leaves one record (R508, R509). -/
theorem audit_spec (s : State) (ty : Nat) (w : Who) (subj : Nat) (old new : Int) :
    LoggedOne s (s.audit ty w subj old new) ty ∧ SameButLog s (s.audit ty w subj old new) := logPush_spec s _

/-- A write takes effect by its value, its further effects and one record, where it is neither a trigger delay nor a write of Hedgerow
(R386, R508). -/
theorem applyWrite_spec (s : State) (w : Write) (hm : w.id ≠ ⟨gMEA, 3⟩) (hh : w.id.g ≠ gHDG) :
    LoggedOne ((s.store w.id w.e w.v).hook w) (s.applyWrite w) 0x01 ∧ SameButLog ((s.store w.id w.e w.v).hook w) (s.applyWrite w) := by
  unfold State.applyWrite
  simp only [beq_eq_false_iff_ne.mpr hm, beq_eq_false_iff_ne.mpr hh, when_false, Bool.false_eq_true, if_false]
  exact audit_spec _ _ _ _ _ _

/-- A WO parameter holds no value (R7). -/
theorem store_wo (s : State) {id : Pid} {r : PRow} (e : Nat) (v : Raw) (row : prow id = some r) (wo : r.wo = true) : s.store id e v = s := by
  simp [State.store, row, wo]

/-- An Immediate write, carried to the shadow, takes effect now (R10, R330). -/
theorem acceptWrite_immediate (s : State) (w : Write) (h : w.eff = .immediate) :
    ∃ l, s.acceptWrite w = (s.modTwin (fun t => { t with acts := l })).applyWrite w := by
  obtain ⟨l, hl⟩ := carry_spec s 0x11 w
  exact ⟨l, by simp only [State.acceptWrite, hl, h]⟩

/-- A row that is the write of one element by Immediate term does what the write does, once it has been carried to the shadow, and leaves
one record. -/
theorem hostWrite_acts {s : State} {ch : Nat} {low : SRole} {x : Sess} {id : Pid} {r : PRow} {e v : Nat} (hs : s.mayWrite ch low x)
    (h : s.Admits (x.author ch) id r e v) (term : r.eff = .immediate) (hm : id ≠ ⟨gMEA, 3⟩) (hh : id.g ≠ gHDG) :
    ∃ l y p, let u := s.modTwin (fun t => { t with acts := l })
      let d := (u.store id e (storedVal id (r.ty.val v))).hook (s.elemWrite (x.author ch) id r e v)
      LoggedOne d (s.hostWrite ch (oneEnt id.g id.n e v)) 0x01 ∧ s.hostWrite ch (oneEnt id.g id.n e v) = { d with sys := y, peat := p } := by
  obtain ⟨l, hl⟩ := acceptWrite_immediate s (s.elemWrite (x.author ch) id r e v) term
  rw [hostWrite_accepts hs h h.spells, hl]
  obtain ⟨hlog, hsame⟩ := applyWrite_spec (s.modTwin (fun t => { t with acts := l })) (s.elemWrite (x.author ch) id r e v) hm hh
  exact ⟨l, _, _, hlog, hsame⟩

end Sys2Proof.Machine
end

section
/-!
SUPPORT. The rows that are the write of one parameter: those that wait for their boundary, a commit, the arming of a compare, and the setting
of time; last, the statement about them.
-/
namespace Sys2Proof.Machine
open Sys2Proof

/-! ### Rows that wait (R10, R466) -/

/-- Supervisory parameters by which an OPERATOR asks for an act, each with its upper end: Bramble reset, rejoin, resynchronise, swap, recorder
arm, manual trigger, scrub, output fault reset, host reset. -/
def operatorRows : List (Pid × Nat) :=
  [(⟨gPRT, 40⟩, 1), (⟨gLNK, 23⟩, 31), (⟨gTWN, 11⟩, 1), (⟨gTWN, 12⟩, 1), (⟨gACQ, 12⟩, 1), (⟨gACQ, 13⟩, 1), (⟨gSTO, 20⟩, 1),
   (⟨gFIO, 30⟩, 65535), (⟨gHDG, 61⟩, 1)]

theorem prow_operatorRow {p : Pid × Nat} (hp : p ∈ operatorRows) :
    ∃ r, prow p.1 = some r ∧ r.Plain p.1 ∧ r.len = 1 ∧ r.eff = .supervisory ∧ r.priv = .operator ∧ r.hi = p.2 := by
  simp only [operatorRows, List.mem_cons, List.not_mem_nil, or_false] at hp
  rcases hp with rfl | rfl | rfl | rfl | rfl | rfl | rfl | rfl | rfl <;> exact ⟨_, rfl, by decide⟩

/-! What `State.ruleOf` asks of each of these writes: nothing, or the condition named. -/

section
variable (s u : State) {w : Write}

/-- No rule relates such a write to the module's state or to another parameter. -/
theorem ruleOf_operatorRow {p : Pid × Nat} (hp : p ∈ operatorRows) (hw : w.id = p.1) : s.ruleOf u w = none := by
  simp only [operatorRows, List.mem_cons, List.not_mem_nil, or_false] at hp
  cases w
  rcases hp with rfl | rfl | rfl | rfl | rfl | rfl | rfl | rfl | rfl <;> cases hw <;> rfl

theorem ruleOf_modeRequest (hw : w.id = ⟨gGFM, 1⟩) (he : w.eff = .control) :
    s.ruleOf u w = if !s.isRoot then some .gfmRole else none := by
  cases w; cases hw; cases he; rfl

theorem ruleOf_reAdmitCell (hw : w.id = ⟨gARM, 41⟩) : s.ruleOf u w = if !s.isLeaf then some .armRole else none := by
  cases w; cases hw; rfl

theorem ruleOf_testMode (hw : w.id = ⟨gPWM, 30⟩) : s.ruleOf u w =
    if !s.isLeaf then some .armRole else if w.v != 0 && s.sys.st != .ready then some .pwmNotReady else none := by
  cases w; cases hw; rfl

theorem ruleOf_commit (hw : w.id = ⟨gPWM, 13⟩) :
    s.ruleOf u w = if !s.isLeaf then some .armRole else u.commitBad w.v.toNat := by
  cases w; cases hw; rfl

theorem ruleOf_compareArm (hw : w.id = ⟨gANG, 23⟩) :
    s.ruleOf u w = if s.kern.core.mode == .sync && s.syncTrk == some w.e then some .gfmOwned else none := by
  cases w; cases hw; rfl

theorem ruleOf_setTime (hw : w.id = ⟨gTIM, 50⟩) : s.ruleOf u w = if s.running then some .pwrRunning else none := by
  cases w; cases hw; rfl

end

section
variable {s : State} {ch : Nat} {x : Sess} (hs : s.mayWrite ch .operator x)
include hs

theorem operator_rank : 1 ≤ x.role.rank := by
  obtain ⟨-, -, -, -, hr, -⟩ := hs
  exact hr

theorem hostWrite_operatorRow (id : Pid) {top : Nat} (v : Nat) (hp : (id, top) ∈ operatorRows) (hv : v ≤ top) :
    WaitsFor s (s.hostWrite ch (oneEnt id.g id.n 0 v)) ch x id 0 (BitVec.ofNat 64 v) .supervisory (s.nextSup s.fr) := by
  obtain ⟨r, row, plain, len, term, priv, hi⟩ := prow_operatorRow hp
  have h := hostWrite_waits hs id v row plain len (.inr term) (priv ▸ operator_rank hs) (by rw [hi]; exact_mod_cast hv)
    (fun u => ruleOf_operatorRow s u hp rfl)
  rwa [term] at h

theorem modeRequest_waits (m : Nat) (hm : m < 4) (hr : s.isRoot = true) :
    WaitsFor s (s.hostWrite ch (oneEnt gGFM 1 0 m)) ch x ⟨gGFM, 1⟩ 0 (BitVec.ofNat 64 m) .control (s.nextCtl s.fr) :=
  hostWrite_waits hs ⟨gGFM, 1⟩ m rfl (by decide) rfl (.inl rfl) (operator_rank hs) (by dsimp only; omega)
    (fun u => by rw [ruleOf_modeRequest s u rfl rfl, hr]; rfl)

theorem reAdmitCell_waits (c : Nat) (hc : c < 512) (hx : 2 ≤ x.role.rank) (hl : s.isLeaf = true) :
    WaitsFor s (s.hostWrite ch (oneEnt gARM 41 0 c)) ch x ⟨gARM, 41⟩ 0 (BitVec.ofNat 64 c) .supervisory (s.nextSup s.fr) :=
  hostWrite_waits hs ⟨gARM, 41⟩ c rfl (by decide) rfl (.inr rfl) hx (by dsimp only; omega)
    (fun u => by rw [ruleOf_reAdmitCell s u rfl, hl]; rfl)

theorem testMode_waits (on : Bool) (hx : 2 ≤ x.role.rank) (hl : s.isLeaf = true) (hon : on = true → s.sys.st = .ready) :
    WaitsFor s (s.hostWrite ch (oneEnt gPWM 30 0 on.toNat)) ch x ⟨gPWM, 30⟩ 0 (BitVec.ofNat 64 on.toNat) .supervisory (s.nextSup s.fr) :=
  hostWrite_waits hs ⟨gPWM, 30⟩ on.toNat rfl (by decide) rfl (.inr rfl) hx (by cases on <;> decide)
    (fun u => by
      rw [ruleOf_testMode s u rfl, hl]
      cases on with
      | false => rfl
      | true => rw [hon rfl]; rfl)

end

/-! ### COMMIT (R208, R211) -/

/-- A cell whose staged values have moved to the shadow registers, in an arm of mode `mode` (R208, R211). -/
def Cell.committed (mode : Nat) (y : Cell) : Cell :=
  { y with shP := y.stP, shF := if mode = 2 then y.shF else y.stF, shD := if mode = 0 then y.stD else y.shD, shPend := true }

/-- The cells after the commit of some channels. -/
def commitCells (mode : Nat → Nat) (l : List Nat) (cells : List Cell) : List Cell :=
  l.foldl (fun cs c => cs.modify c (fun y => y.committed (mode y.arm))) cells

theorem length_commitCells (mode : Nat → Nat) (l : List Nat) (cells : List Cell) : (commitCells mode l cells).length = cells.length := by
  induction l generalizing cells with
  | nil => rfl
  | cons c l ih => exact (ih _).trans (List.length_modify ..)

theorem getElem?_commitCells (mode : Nat → Nat) (l : List Nat) (cells : List Cell) (hl : l.Nodup) (c : Nat) :
    (commitCells mode l cells)[c]? = if c ∈ l then cells[c]?.map (fun y => y.committed (mode y.arm)) else cells[c]? := by
  induction l generalizing cells with
  | nil => rfl
  | cons d l ih =>
    obtain ⟨hd, hl⟩ := List.nodup_cons.mp hl
    have h := ih (cells.modify d (fun y => y.committed (mode y.arm))) hl
    rw [List.getElem?_modify] at h
    refine h.trans ?_
    by_cases hdc : d = c
    · subst hdc; simp [hd]
    · simp [hdc, Ne.symm hdc]

/-- One channel of a commit, in terms of the cell that it changes. -/
theorem updCell_commit (s : State) (c : Nat) :
    s.updCell c (fun y => { y with
        shP := y.stP, shF := if s.pn gARM 1 (s.cell c).arm == 2 then y.shF else y.stF
        shD := if s.pn gARM 1 (s.cell c).arm == 0 then y.stD else y.shD, shPend := true }) =
      s.updCell c (fun y => y.committed (s.pn gARM 1 y.arm)) := by
  have h : s.arm.cells.modify c (Cell.committed (s.pn gARM 1 (s.cell c).arm)) =
      s.arm.cells.modify c (fun y => y.committed (s.pn gARM 1 y.arm)) := by
    apply List.ext_getElem?
    intro j
    rw [List.getElem?_modify, List.getElem?_modify]
    by_cases hj : c = j
    · subst hj
      cases hc : s.arm.cells[c]? with
      | none => rfl
      | some y => simp [State.cell, List.getD, hc]
    · simp [hj]
  simp only [beq_iff_eq]
  exact congrArg (fun l => s.modArm (fun a => { a with cells := l })) h

/-- A commit changes the cells alone. -/
theorem commit_eq (s : State) (m : Nat) :
    s.commit m = s.modArm (fun a => { a with cells := commitCells (fun a => s.pn gARM 1 a) (s.commitChans m) s.arm.cells }) := by
  unfold State.commit
  simp only [updCell_commit]
  generalize s.commitChans m = l
  induction l generalizing s with
  | nil => rfl
  | cons c l ih => exact ih (s.updCell c (fun y => y.committed (s.pn gARM 1 y.arm)))

theorem nodup_commitChans (s : State) (m : Nat) : (s.commitChans m).Nodup := List.nodup_range.filter _

/-- A commit changes the cells alone: the staged values of each configured cell of the groups named have moved, and the others stay. -/
theorem commit_spec (s : State) (m : Nat) : ∃ cells, s.commit m = s.modArm (fun a => { a with cells := cells }) ∧
    cells.length = s.arm.cells.length ∧ ∀ (c : Nat) (y : Cell), s.arm.cells[c]? = some y → c < 512 →
      cells[c]? = some (if y.conf && m.testBit (s.pn gPWM 1 c) then y.committed (s.pn gARM 1 y.arm) else y) := by
  refine ⟨_, commit_eq s m, length_commitCells _ _ _, fun c y hy hc => ?_⟩
  have hcell : s.cell c = y := getD_of_some _ _ _ _ hy
  have hmem : c ∈ s.commitChans m ↔ (y.conf && m.testBit (s.pn gPWM 1 c)) = true := by
    simp [State.commitChans, hcell, hc]
  rw [getElem?_commitCells _ _ _ (nodup_commitChans s m), hy]
  simp only [hmem]
  split <;> rfl

/-! ### Rows that act at once -/

theorem LoggedOne.of_sys {s u t : State} {ty : Nat} (h : LoggedOne u t ty) (hu : u.sys = s.sys) : LoggedOne s t ty := by
  unfold LoggedOne at h ⊢
  rwa [hu] at h

theorem hook_commit (s : State) (w : Write) (h : w.id = ⟨gPWM, 13⟩) : s.hook w = s.commit w.v.toNat := by
  simp [State.hook, h]

theorem hook_setTime (s : State) (w : Write) (h : w.id = ⟨gTIM, 50⟩) : s.hook w = s.modClk (fun c => { c with setTai := some w.v.toInt }) := by
  simp [State.hook, h]

theorem hook_compareArm (s : State) (w : Write) (h : w.id = ⟨gANG, 23⟩) :
    s.hook w = s.updTrk w.e (fun y => { y with evalDue := w.v != 0 && !y.set.armed || y.evalDue, set := { y.set with armed := w.v != 0 } }) := by
  simp [State.hook, State.cmpWrite, h]

section
variable {s : State} {ch : Nat} {x : Sess} (hs : s.mayWrite ch .operator x)
include hs

/-- COMMIT leaves the cells as `State.commit` does, and one record. -/
theorem hostWrite_commit (hx : 2 ≤ x.role.rank) (hl : s.isLeaf = true) (m : Nat) (hm : m < 65536) (hbad : s.commitBad m = none)
    (hq : ∀ w ∈ s.par.wait, s.fr < w.at_) :
    ∃ l y p, let d := (s.modTwin (fun t => { t with acts := l })).commit m
      LoggedOne d (s.hostWrite ch (oneEnt gPWM 13 0 m)) 0x01 ∧ s.hostWrite ch (oneEnt gPWM 13 0 m) = { d with sys := y, peat := p } := by
  obtain ⟨r, row, plain, len, term, priv, hi, wo⟩ : ∃ r, prow ⟨gPWM, 13⟩ = some r ∧ r.Plain ⟨gPWM, 13⟩ ∧ r.len = 1 ∧
    r.eff = .immediate ∧ r.priv = .engineer ∧ r.hi = 65535 ∧ r.wo = true := ⟨_, rfl, by decide⟩
  have hv : (storedVal ⟨gPWM, 13⟩ (r.ty.val m)).toNat = m := by
    rw [plain.storedVal m, BitVec.toNat_ofNat]; omega
  have hq' : ∀ w ∈ s.par.wait, s.boundaryOf r.eff < w.at_ := by rw [term]; exact hq
  have rule : s.ruleBad 0 [s.elemWrite (x.author ch) ⟨gPWM, 13⟩ r 0 m] [] [s.elemWrite (x.author ch) ⟨gPWM, 13⟩ r 0 m] = none := by
    rw [ruleBad_single _ _ _ _ (by simp), viewFor_immediate _ _ _ term hq']
    rw [elemWrite_id, store_wo s _ _ row wo, ruleOf_commit s s rfl, hl, elemWrite_v, hv, hbad]
    rfl
  have ha : s.Admits (x.author ch) ⟨gPWM, 13⟩ r 0 m := plain.admits row (by omega) (priv ▸ hx) (by omega) rule
  obtain ⟨l, y, p, h⟩ := hostWrite_acts hs ha term (by decide) (by decide)
  refine ⟨l, y, p, ?_⟩
  simpa only [store_wo _ 0 _ row wo, hook_commit _ (s.elemWrite (x.author ch) ⟨gPWM, 13⟩ r 0 m) rfl, elemWrite_v, hv] using h

/-- COMPARE_ARM stores the bit and arms or disarms the tracker, and leaves one record. -/
theorem hostWrite_compareArm (k : Nat) (hk : k < 4) (on : Bool) (hown : ¬(s.kern.core.mode = .sync ∧ s.syncTrk = some k)) :
    ∃ l y p, let d := ((s.modTwin (fun t => { t with acts := l })).setRaw ⟨gANG, 23⟩ k (BitVec.ofNat 64 on.toNat)).updTrk k (fun z =>
        { z with evalDue := on && !z.set.armed || z.evalDue, set := { z.set with armed := on } })
      LoggedOne d (s.hostWrite ch (oneEnt gANG 23 k on.toNat)) 0x01 ∧
        s.hostWrite ch (oneEnt gANG 23 k on.toNat) = { d with sys := y, peat := p } := by
  obtain ⟨r, row, plain, len, term, priv, hi, wo⟩ : ∃ r, prow ⟨gANG, 23⟩ = some r ∧ r.Plain ⟨gANG, 23⟩ ∧ r.len = 4 ∧
    r.eff = .immediate ∧ r.priv = .operator ∧ r.hi = 1 ∧ r.wo = false := ⟨_, rfl, by decide⟩
  have rule (u : State) : s.ruleOf u (s.elemWrite (x.author ch) ⟨gANG, 23⟩ r k on.toNat) = none := by
    have hfree : (s.kern.core.mode == .sync && s.syncTrk == some k) = false := by
      rw [Bool.eq_false_iff, ne_eq, Bool.and_eq_true, beq_iff_eq, beq_iff_eq]
      exact hown
    rw [ruleOf_compareArm s u rfl, elemWrite_e, hfree]
    rfl
  have ha : s.Admits (x.author ch) ⟨gANG, 23⟩ r k on.toNat :=
    plain.admits row (by omega) (priv ▸ operator_rank hs) (by have := on.toNat_le; omega) (ruleBad_of_ruleOf s 0 _ _ rule)
  have hstore (u : State) (v : Raw) : u.store ⟨gANG, 23⟩ k v = u.setRaw ⟨gANG, 23⟩ k v := by
    simp [State.store, row, wo, term]
  have hon : (BitVec.ofNat 64 on.toNat != 0) = on := by cases on <;> rfl
  obtain ⟨l, y, p, h⟩ := hostWrite_acts hs ha term (by decide) (by decide)
  refine ⟨l, y, p, ?_⟩
  simpa only [hstore, hook_compareArm _ (s.elemWrite (x.author ch) ⟨gANG, 23⟩ r k on.toNat) rfl, elemWrite_v, elemWrite_e,
    plain.storedVal, hon] using h

/-- SET_TIME holds the time for the next PPS edge, and leaves one record. -/
theorem hostWrite_setTime (tai : Int) (hlo : -9223372036854775808 ≤ tai) (hhi : tai ≤ 9223372036854775807) (hsec : tai % 1000000000 = 0)
    (hrun : s.running = false) :
    ∃ l y p, let d := (s.modTwin (fun t => { t with acts := l })).modClk (fun c => { c with setTai := some tai })
      LoggedOne d (s.hostWrite ch (oneEnt gTIM 50 0 (BitVec.ofInt 64 tai).toNat)) 0x01 ∧
        s.hostWrite ch (oneEnt gTIM 50 0 (BitVec.ofInt 64 tai).toNat) = { d with sys := y, peat := p } := by
  obtain ⟨r, row, len, term, priv, hty, hrlo, hrhi, wo⟩ : ∃ r, prow ⟨gTIM, 50⟩ = some r ∧ r.len = 1 ∧ r.eff = .immediate ∧
    r.priv = .operator ∧ r.ty = .time ∧ r.lo = -9223372036854775808 ∧ r.hi = 9223372036854775807 ∧ r.wo = true := ⟨_, rfl, by decide⟩
  have hint : (BitVec.ofInt 64 tai).toInt = tai := BitVec.toInt_ofInt_eq_self (by decide) (by simpa using hlo) (by simp; omega)
  have hval : r.ty.val (BitVec.ofInt 64 tai).toNat = tai := by
    rw [hty, PTy.val, BitVec.ofNat_toNat, BitVec.setWidth_eq, hint]
  have hv : storedVal ⟨gTIM, 50⟩ tai = BitVec.ofInt 64 tai := storedVal_whole _ _ (by decide)
  have hrange : s.inRange ⟨gTIM, 50⟩ 0 r tai = true := by
    simp [State.inRange, hty, hrlo, hrhi, hlo, hhi, hsec]
  have rule (u : State) : s.ruleOf u (s.elemWrite (x.author ch) ⟨gTIM, 50⟩ r 0 (BitVec.ofInt 64 tai).toNat) = none := by
    rw [ruleOf_setTime s u rfl, hrun]
    rfl
  have ha : s.Admits (x.author ch) ⟨gTIM, 50⟩ r 0 (BitVec.ofInt 64 tai).toNat :=
    { group := by decide, number := by decide, row := row, elem := by simp [State.arrLen, len], term := by simp [term]
      priv := priv ▸ operator_rank hs, range := hval.symm ▸ hrange, rule := ruleBad_of_ruleOf s 0 _ _ rule }
  obtain ⟨l, y, p, h⟩ := hostWrite_acts hs ha term (by decide) (by decide)
  refine ⟨l, y, p, ?_⟩
  simpa only [store_wo _ 0 _ row wo, hook_setTime _ (s.elemWrite (x.author ch) ⟨gTIM, 50⟩ r 0 _) rfl, elemWrite_v, hval, hv, hint] using h

end

/-! ### The statement -/

/-- A truth value as the operand of a row, and as the value that the statement writes. -/
theorem ofNat_toNat_bool (on : Bool) : BitVec.ofNat 64 on.toNat = (if on then 1 else 0 : Raw) := by cases on <;> rfl

theorem toNat_eq_ite (on : Bool) : on.toNat = if on then 1 else 0 := by cases on <;> rfl

/-- Settles O39: each row is the write of one parameter; a Supervisory or Control one waits for its boundary, an Immediate one acts at once
and leaves one record. -/
theorem singleParameterCommandsTakeEffect : Obligations.SingleParameterCommandsTakeEffect := by
  unfold Obligations.SingleParameterCommandsTakeEffect
  intro s ch x hs sup
  have row (id : Pid) {top : Nat} (v : Nat) (hp : (id, top) ∈ operatorRows) (hv : v ≤ top) := hostWrite_operatorRow hs id v hp hv
  refine ⟨⟨_, rfl, row ⟨gPRT, 40⟩ 1 (by decide) (Nat.le_refl _)⟩,
    fun p hp => ⟨_, rfl, row ⟨gLNK, 23⟩ p (by decide) (Nat.le_of_lt_succ hp)⟩,
    ⟨_, rfl, row ⟨gTWN, 11⟩ 1 (by decide) (Nat.le_refl _)⟩,
    ⟨_, rfl, row ⟨gTWN, 12⟩ 1 (by decide) (Nat.le_refl _)⟩,
    fun on => ⟨_, rfl, ?recorderArm⟩,
    ⟨_, rfl, row ⟨gACQ, 13⟩ 1 (by decide) (Nat.le_refl _)⟩,
    ⟨_, rfl, row ⟨gSTO, 20⟩ 1 (by decide) (Nat.le_refl _)⟩,
    fun m hm => ⟨_, rfl, row ⟨gFIO, 30⟩ m (by decide) (Nat.le_of_lt_succ hm)⟩,
    ⟨_, rfl, row ⟨gHDG, 61⟩ 1 (by decide) (Nat.le_refl _)⟩,
    fun m hm hr => ⟨_, rfl, modeRequest_waits hs m hm hr⟩,
    fun hx hl => ⟨fun c hc => ⟨_, rfl, reAdmitCell_waits hs c hc hx hl⟩, fun on hon => ⟨_, rfl, ?testMode⟩,
      fun m hm hbad hq => ⟨_, rfl, ?commit⟩⟩,
    fun k on y hk hy hown => ⟨_, rfl, ?compareArm⟩,
    fun tai hlo hhi hsec hrun => ⟨_, rfl, ?setTime⟩⟩
  case recorderArm =>
    rw [← ofNat_toNat_bool, ← toNat_eq_ite]
    exact row ⟨gACQ, 12⟩ on.toNat (by decide) on.toNat_le
  case testMode =>
    rw [← ofNat_toNat_bool, ← toNat_eq_ite]
    exact testMode_waits hs on hx hl hon
  case commit =>
    obtain ⟨l, z, p, hlog, ht⟩ := hostWrite_commit hs hx hl m hm hbad hq
    obtain ⟨cells, hd, hlen, hcells⟩ := commit_spec (s.modTwin (fun t => { t with acts := l })) m
    rw [hd] at hlog ht
    exact ⟨hlog.of_sys rfl, by rw [ht]; rfl, by rw [ht]; exact hlen, by rw [ht]; exact hcells⟩
  case compareArm =>
    rw [← toNat_eq_ite]
    obtain ⟨l, z, p, hlog, ht⟩ := hostWrite_compareArm hs k hk on hown
    refine ⟨hlog.of_sys rfl, ?_, by rw [ht]; rfl, ?_⟩
    · rw [ht]
      exact onlyAt_modify _ _ _
    · rw [ht]
      exact modify_at _ _ _ _ hy
  case setTime =>
    obtain ⟨l, z, p, hlog, ht⟩ := hostWrite_setTime hs tai hlo hhi hsec hrun
    exact ⟨hlog.of_sys rfl, by rw [ht]; rfl⟩

end Sys2Proof.Machine
end

section
/-!
SUPPORT. A returned Crihel frame (R28, R231 to R235, R260): the frame that is turned away, the frame that is taken, and the statuses
in it; last, the statement about it.
-/
namespace Sys2Proof.Machine
open Sys2Proof

/-! ### Changes of the twin record alone -/

/-- `t` is `s` but for its twin record. -/
def TwinOnly (s t : State) : Prop := ∃ w, t = s.modTwin (fun _ => w)

theorem TwinOnly.refl (s : State) : TwinOnly s s := ⟨s.twin, rfl⟩

theorem TwinOnly.trans {s t u : State} (h : TwinOnly s t) (k : TwinOnly t u) : TwinOnly s u := by
  obtain ⟨v, rfl⟩ := h
  obtain ⟨w, rfl⟩ := k
  exact ⟨w, rfl⟩

theorem TwinOnly.when {s t : State} {b : Bool} {f : State → State} (h : TwinOnly s t) (hf : ∀ u, TwinOnly u (f u)) :
    TwinOnly s (t.when b f) := by
  cases b with
  | false => exact h
  | true => exact h.trans (hf t)

theorem twinOnly_modTwin (s : State) (g : Twin → Twin) : TwinOnly s (s.modTwin g) := ⟨g s.twin, rfl⟩

/-- A block on link T (R331). -/
theorem twinOnly_tSend (s : State) (b : TBody) : TwinOnly s (s.tSend b) := by
  unfold State.tSend
  split
  · exact twinOnly_modTwin s _
  · exact .refl s

/-! ### A sticky bit under a condition -/

/-- A sticky bit that is set where `b` holds: nothing but the sticky bits changes, and the bit stands (R7, R8). -/
theorem when_rcSet_spec (s : State) (b : Bool) (d e k : Nat) (hk : k < 32) :
    ∃ ev, s.when b (fun s => s.rcSet d e k) = s.modPub (fun p => { p with ev := ev }) ∧ (b = true → (evGet ev d e).getLsbD k = true) := by
  cases b with
  | false => exact ⟨s.pub.ev, rfl, nofun⟩
  | true => exact ⟨_, rfl, fun _ => rcBit_rcSet s d e k hk⟩

/-! ### Ports -/

theorem port_of_some {s : State} {p : Nat} {x : Port} (h : s.link.ports[p]? = some x) : s.port p = x := getD_of_some _ _ _ _ h

theorem port_updPort {s : State} {p : Nat} {x : Port} (g : Port → Port) (h : s.link.ports[p]? = some x) : (s.updPort p g).port p = g x :=
  port_of_some (modify_at _ _ _ _ h)

@[simp] theorem updPort_link (s : State) (p : Nat) (g : Port → Port) :
    (s.updPort p g).link = { s.link with ports := s.link.ports.modify p g } := rfl

theorem updPort_updPort (s : State) (p : Nat) (f g : Port → Port) : (s.updPort p f).updPort p g = s.updPort p (fun x => g (f x)) := by
  simp only [State.updPort, State.modLink, modify_modify]

/-- The port has sent frame `f` lately, by the record of the port (R252, R260). -/
theorem sentLately_iff {s : State} {p : Nat} {x : Port} (h : s.link.ports[p]? = some x) (f : Nat) :
    s.sentLately p f = true ↔ f ∈ x.sent.take (if x.split then 3 else 2) := by
  simp only [State.sentLately, port_of_some h, List.contains_iff_mem]

/-- A frame that shows the link up bears on no list of frames sent. -/
theorem sentLately_linkUp {s : State} {p : Nat} {x : Port} (h : s.link.ports[p]? = some x) (f : Nat) :
    (s.updPort p (fun x => { x with linkUp := true })).sentLately p f = s.sentLately p f := by
  simp only [State.sentLately, port_updPort _ h, port_of_some h]

/-! ### The statuses of a frame -/

/-- The usable statuses of a frame are those of its slots that pass the check and name a known channel (R229, R235). -/
theorem mem_usableIn {s : State} {q f : Nat} {sideB : Bool} {base count dep : Nat} {bytes : List Byte} {y : Nat × Slot} :
    y ∈ s.usableIn q f sideB base count dep bytes ↔ ∃ i < count, slotUsable (slotAt bytes i) (base + i) f = true ∧
      s.chanAt q (s.posFrom q (base + i) sideB) = some y.1 ∧
      y.2 = { slotOf (beAt (slotAt bytes i) 0 8) with far := s.sentFar q sideB, dep := dep } := by
  simp only [State.usableIn, List.mem_filterMap, List.mem_range, Option.ite_none_right_eq_some, Option.map_eq_some_iff]
  refine exists_congr fun i => and_congr_right fun _ => and_congr_right fun _ => ?_
  constructor
  · rintro ⟨c, hc, rfl⟩
    exact ⟨hc, rfl⟩
  · rintro ⟨hc, hy⟩
    exact ⟨y.1, hc, Prod.ext rfl hy.symm⟩

/-! ### The frame -/

/-- A port whose frame has returned: the frame counts as returned, a bad CRC-32 and `rej` rejected slots are counted (R235, R260). -/
def Port.returned (x : Port) (crcOk : Bool) (rej d : Nat) (sl : List Slot) : Port :=
  { x with got := true, cCrc := if crcOk then x.cCrc else wrap32 (x.cCrc + 1), cRej := wrap32 (x.cRej + rej), dig := some d, slots := sl }

section
variable {s : State} {p : Nat} {bytes : List Byte} {x : Port} (hon : s.lanesOn = true) (hp : p < 32) (hcell : s.cellPort p = true)
  (hlen : bytes.length = 276) (hx : s.link.ports[p]? = some x)
include hon hp hcell hlen

/-- A frame of 276 bytes on a cell port, with the lanes running, is heard (R231). -/
theorem crihelFrame_heard : ¬(!s.lanesOn || !(decide (p < 32) && s.cellPort p) || bytes.length != 276) = true := by
  simp [hon, hp, hcell, hlen]

include hx

/-- A frame that is misaligned, or that the port did not send lately, is counted (R28, R260). -/
theorem crihelFrame_turnedAway (hbad : misaligned s.fr (extendF s.fr (beAt bytes 0 4)) = true ∨
      extendF s.fr (beAt bytes 0 4) ∉ x.sent.take (if x.split then 3 else 2)) :
    s.crihelFrame p bytes = s.updPort p (fun x => { x with linkUp := true, cMis := wrap32 (x.cMis + 1) }) := by
  have haway : (misaligned s.fr (extendF s.fr (beAt bytes 0 4)) || !s.sentLately p (extendF s.fr (beAt bytes 0 4))) = true := by
    rw [Bool.or_eq_true, Bool.not_eq_true', ← Bool.not_eq_true, sentLately_iff hx]
    exact hbad
  rw [← sentLately_linkUp hx] at haway
  unfold State.crihelFrame
  rw [if_neg (crihelFrame_heard hon hp hcell hlen)]
  exact (if_pos haway).trans (updPort_updPort s p _ _)

/-- A frame that the port sent: its port's counts, CRC_ERROR, the statuses it brings, and what the pair does with it (R235, R260). -/
theorem crihelFrame_taken (hal : misaligned s.fr (extendF s.fr (beAt bytes 0 4)) = false)
    (hsent : extendF s.fr (beAt bytes 0 4) ∈ x.sent.take (if x.split then 3 else 2)) :
    let f := extendF s.fr (beAt bytes 0 4)
    let crcOk := crc32 (bytes.take 144) == BitVec.ofNat 32 (beAt bytes 144 4)
    let q := if s.topoOf p == 4 then p else beAt bytes 4 4 % 32
    let base := beAt bytes 8 4 / 128 % 32
    let count := min 16 (beAt bytes 8 4 / 4 % 32)
    ∃ (d : Nat) (sl : List Slot) (u : State),
      TwinOnly (((s.updPort p (fun x => { x with linkUp := true })).updPort p
        (fun x => x.returned crcOk (rejectedIn f base count bytes) d sl)).when (!crcOk) (fun s => s.rcSet 120 p 2)) u ∧
      s.crihelFrame p bytes = u.modLink (fun l => { l with
        stq := l.stq ++ (s.usableIn q f ((beAt bytes 4 4).testBit 7) base count (beAt bytes 12 4 / 1024 % 4096) bytes).map (fun y => (f, y)) }) := by
  have hours : (misaligned s.fr (extendF s.fr (beAt bytes 0 4)) || !s.sentLately p (extendF s.fr (beAt bytes 0 4))) = false := by
    rw [hal, (sentLately_iff hx _).mpr hsent]
    rfl
  rw [← sentLately_linkUp hx, ← Bool.not_eq_true] at hours
  intro f crcOk q base count
  unfold State.crihelFrame
  rw [if_neg (crihelFrame_heard hon hp hcell hlen)]
  have hfr : (s.updPort p (fun x => { x with linkUp := true })).fr = s.fr := rfl
  have htopo : (s.updPort p (fun x => { x with linkUp := true })).topoOf p = s.topoOf p := rfl
  have huse : (s.updPort p (fun x => { x with linkUp := true })).usableIn = s.usableIn := rfl
  generalize s.updPort p (fun x => { x with linkUp := true }) = s1 at hours hfr htopo huse ⊢
  dsimp only
  rw [hfr, if_neg hours, htopo, huse]
  exact ⟨_, _, _, (((TwinOnly.refl _).when (fun u => twinOnly_modTwin u _)).when (fun u => twinOnly_tSend u _)).when
    (fun u => twinOnly_tSend u _), rfl⟩

end

/-- Settles O16: a frame that the port did not send is counted; of any other the usable statuses are kept, whatever its CRC-32. -/
theorem returnFrameStatuses : Obligations.ReturnFrameStatuses := by
  unfold Obligations.ReturnFrameStatuses
  intro s p bytes x hon hp hcell hlen hx
  refine ⟨fun hbad => ?away, fun hal hsent => ?taken⟩
  case away =>
    exact ⟨_, congrArg Host.Outcome.next (crihelFrame_turnedAway hon hp hcell hlen hx hbad), rfl, onlyAt_modify _ _ _, modify_at _ _ _ _ hx⟩
  case taken =>
    obtain ⟨d, sl, u, ⟨w, rfl⟩, hu⟩ := crihelFrame_taken hon hp hcell hlen hx hal hsent
    obtain ⟨ev, hev, hbit⟩ := when_rcSet_spec ((s.updPort p (fun x => { x with linkUp := true })).updPort p (fun x => x.returned
      (crc32 (bytes.take 144) == BitVec.ofNat 32 (beAt bytes 144 4)) (rejectedIn (extendF s.fr (beAt bytes 0 4))
        (beAt bytes 8 4 / 128 % 32) (min 16 (beAt bytes 8 4 / 4 % 32)) bytes) d sl))
      (!(crc32 (bytes.take 144) == BitVec.ofNat 32 (beAt bytes 144 4))) 120 p 2 (by decide)
    rw [hev, updPort_updPort] at hu
    refine ⟨_, _, congrArg Host.Outcome.next hu, rfl, onlyAt_modify _ _ _, rfl, rfl, modify_at _ _ _ _ hx, rfl, rfl, rfl, rfl, ?crc,
      fun hcrc => hbit (by simpa using hcrc), rfl, _, rfl, ?kept, ?all⟩
    case crc =>
      simp only [Port.returned, beq_iff_eq]
    case kept =>
      intro y hy
      obtain ⟨z, hz, rfl⟩ := List.mem_map.mp hy
      obtain ⟨i, hi, hus, hch, hsl⟩ := mem_usableIn.mp hz
      refine ⟨rfl, i, _, hi, ?_, hus, hsl⟩
      simpa using hch
    case all =>
      intro i c hi hus hch
      refine ⟨_, List.mem_map.mpr ⟨(c, _), mem_usableIn.mpr ⟨i, hi, hus, ?_, rfl⟩, rfl⟩, rfl, rfl, rfl, rfl⟩
      simpa using hch

end Sys2Proof.Machine
end

section
/-!
SUPPORT. A measurement of station time (R25, R428, R430): what a step of time does, and when a measurement steps it; last, the statement
about the first measurement.
-/
namespace Sys2Proof.Machine
open Sys2Proof

/-! ### A step of station time (R25, R430) -/

/-- Station time after a step by `off` ns and `frac` 2^-32 ns, in 2^-32 ns; never below 0. -/
def Clk.stepped (c : Clk) (off : Int) (frac : Nat) : Nat := ((c.tai : Int) * 4294967296 + c.frac + off * 4294967296 + frac).toNat

/-- A step sets time, its fraction and the frame number that follows from them. -/
theorem stepTime_clk (s : State) (off : Int) (frac : Nat) : (s.stepTime off frac).clk = { s.clk with
    tai := s.clk.stepped off frac / 4294967296, frac := s.clk.stepped off frac % 4294967296
    frame := s.clk.stepped off frac / 4294967296 / s.tf, stepPending := false } := rfl

theorem stepTime_ev (s : State) (off : Int) (frac : Nat) : (s.stepTime off frac).pub.ev = evPut 201 0 (bitAt true 17) s.pub.ev := rfl

/-- A step leaves one record of type 0x51. -/
theorem stepTime_logged (s : State) (off : Int) (frac : Nat) : LoggedOne s (s.stepTime off frac) 0x51 :=
  ⟨_, rfl, rfl, rfl, rfl⟩

/-- The time after a step that does not lead before 0. -/
theorem stepped_eq (c : Clk) (off : Int) (frac : Nat) (h : 0 ≤ (c.tai : Int) + off) :
    ((c.stepped off frac : Nat) : Int) = ((c.tai : Int) + off) * 4294967296 + c.frac + frac := by
  unfold Clk.stepped
  omega

/-! ### A measurement (R428, R430) -/

/-- The first measurement in ACQUIRING beyond TIM.024, outside RUNNING, steps station time (R430). -/
theorem measureTime_steps (s : State) (code : Nat) (off : Int) (frac : Nat) (hacq : s.clk.tstate = .acquiring) (hfresh : s.clk.fresh = true)
    (hsrc : s.clk.source = code) (hbig : s.pn gTIM 24 < off.natAbs) (hrun : s.running = false) :
    s.measureTime code off frac false = (s.stepTime off frac).modClk (fun c => { c with offset := off, fresh := false, good := 0 }) := by
  simp [State.measureTime, hacq, hfresh, hsrc, hbig, hrun]

/-- A source that is enabled and has just been heard is available (R428). -/
theorem srcOk_of_heard {s : State} {code : Nat} (hon : (s.raw gTIM 20).getLsbD (code - 1) = true)
    (hseen : s.clk.srcSeen[code - 1]? = some (some s.now)) : s.srcOk code = true := by
  have hget : s.clk.srcSeen.getD (code - 1) none = some s.now := getD_of_some _ _ _ _ hseen
  unfold State.srcOk
  rw [hon, hget]
  simp

/-- Whether a source is available depends on its switch, on when it was last heard, and on the time (R428). -/
theorem srcOk_congr {s t : State} {code : Nat} (hraw : t.raw gTIM 20 = s.raw gTIM 20)
    (hseen : t.clk.srcSeen[code - 1]? = s.clk.srcSeen[code - 1]?) (hnow : t.now = s.now) : t.srcOk code = s.srcOk code := by
  have hget : t.clk.srcSeen.getD (code - 1) none = s.clk.srcSeen.getD (code - 1) none := congrArg (·.getD none) hseen
  unfold State.srcOk
  rw [hraw, hget, hnow]

/-- The master on E1 is the best source where it has been heard and E2 is silent (R428). -/
theorem bestSrc_eq_one {s : State} (h1 : s.srcOk 1 = true) (h2 : s.srcOk 2 = false) : s.bestSrc = 1 := by
  simp [State.bestSrc, State.ptpBest, h1, h2]

/-- A state in which a PTP message has been heard on E1: the port's master and rank, the time of the source, and the master followed. -/
def State.heardE1 (s : State) (m : PtpMsg) : State :=
  s.modClk (fun c => { c with
    ptpM := c.ptpM.set 0 (m.master, m.rank), srcSeen := c.srcSeen.set 0 (some c.tai), master := m.master, masterE2 := false })

theorem heardE1_bestSrc {s : State} (m : PtpMsg) (hon : (s.raw gTIM 20).getLsbD 0 = true) (h2 : s.srcOk 2 = false)
    (hlen : s.clk.srcSeen.length = 6) : (s.heardE1 m).bestSrc = 1 := by
  refine bestSrc_eq_one (srcOk_of_heard hon ?_) ?_
  · simp [State.heardE1, State.now, hlen]
  · rw [← h2]
    exact srcOk_congr rfl (by simp [State.heardE1]) rfl

/-- Hearing the source once more in the same frame changes nothing. -/
theorem heardE1_again (s : State) (m : PtpMsg) :
    (s.heardE1 m).modClk (fun c => { c with srcSeen := c.srcSeen.set 0 (some c.tai) }) = s.heardE1 m := by
  simp [State.heardE1, State.modClk]

/-- A valid time of a source that is enabled, just heard and the best available is a measurement (R428). -/
theorem timeFrom_measures {s : State} {code : Nat} (off : Int) (frac : Nat) (hup : s.up = true)
    (hon : (s.raw gTIM 20).getLsbD (code - 1) = true)
    (hheard : s.modClk (fun c => { c with srcSeen := c.srcSeen.set (code - 1) (some c.tai) }) = s) (hbest : s.bestSrc = code) :
    s.timeFrom code off frac false = s.measureTime code off frac false := by
  simp [State.timeFrom, hup, hon, hheard, hbest]

/-- A good PTP message on E1 of the master followed, with E2 silent, is a measurement of source 1; it may also give the UTC offset
(R428, R436). -/
theorem ptpMessage_measures {s : State} {m : PtpMsg} (hgood : s.ptpGood m = true) (he2 : m.e2 = false) (hmaster : s.clk.master = m.master)
    (hport : s.clk.masterE2 = false) (hother : s.ptpOther m = false) (h2 : s.srcOk 2 = false) (hlen : s.clk.srcSeen.length = 6) :
    ∃ o v, exec (.ptpMessage m) s = .next (((s.heardE1 m).measureTime 1 m.offset m.frac false).modClk
      (fun c => { c with utcOff := o, utcValid := v })) := by
  have hcode : m.port = 0 := by simp [PtpMsg.port, he2]
  obtain ⟨hup, hon⟩ : s.up = true ∧ (s.raw gTIM 20).getLsbD 0 = true := by
    simp only [State.ptpGood, he2, Bool.and_eq_true, Bool.false_eq_true, if_false] at hgood
    obtain ⟨⟨⟨⟨⟨⟨hup, -⟩, -⟩, hon⟩, -⟩, -⟩, -⟩ := hgood
    exact ⟨hup, hon⟩
  have hbest := heardE1_bestSrc m hon h2 hlen
  have hmine : (s.modClk (fun c => { c with ptpM := c.ptpM.set 0 (m.master, m.rank), srcSeen := c.srcSeen.set 0 (some c.tai) })).bestSrc = 1 :=
    hbest
  have htime := timeFrom_measures (s := s.heardE1 m) (code := 1) m.offset m.frac hup hon (heardE1_again s m) hbest
  unfold exec execPtpMessage
  simp only [hgood, hother, hcode, he2, hmine, modClk_clk, hmaster, hport, Bool.not_true, Bool.or_self, Bool.false_eq_true, if_false,
    Nat.zero_add, bne_self_eq_false, beq_self_eq_true, when_true]
  split
  · rename_i u _
    by_cases hsrc : (((s.heardE1 m).timeFrom 1 m.offset m.frac false).clk.source == 1) = true
    · exact ⟨u, true, congrArg Host.Outcome.next ((if_pos hsrc).trans (by rw [← htime]; rfl))⟩
    · exact ⟨_, _, congrArg Host.Outcome.next ((if_neg hsrc).trans (by rw [← htime]; rfl))⟩
  · exact ⟨_, _, congrArg Host.Outcome.next (by rw [← htime]; rfl)⟩

/-- Settles O25: the message is a measurement of the best source, and as the first in ACQUIRING it steps station time by its offset. -/
theorem firstMeasurementStepsTime : Obligations.FirstMeasurementStepsTime := by
  unfold Obligations.FirstMeasurementStepsTime
  intro s m hgood hrun he2 hmaster hport hother h2 hlen hacq hfresh hsrc hbig hpos
  obtain ⟨o, v, hexec⟩ := ptpMessage_measures hgood he2 hmaster hport hother h2 hlen
  rw [measureTime_steps (s.heardE1 m) 1 m.offset m.frac hacq hfresh hsrc hbig hrun] at hexec
  have hstep := stepped_eq s.clk m.offset m.frac hpos
  refine ⟨_, hexec, ?time, Nat.mod_lt _ (by decide), rfl, evGet_evPut_self _ _ _ _ (by decide), rfl, stepTime_logged (s.heardE1 m) _ _⟩
  case time =>
    show (((s.clk.stepped m.offset m.frac / 4294967296 : Nat) : Int)) * 4294967296 +
      ((s.clk.stepped m.offset m.frac % 4294967296 : Nat) : Int) = _
    omega

end Sys2Proof.Machine
end

section
/-!
SUPPORT. Nest frames (R21, R23, R28, R267, R268, R270 to R272): what a frame from the parent and from a child does to its link, and what it
may change beside the links; last, the statements about them.
-/
namespace Sys2Proof.Machine
open Sys2Proof

/-! ### What a nest frame changes beside the links -/

/-- `t` is `s` but for what a nest frame touches beside the links: station time and what a step of it moves, the recorder with its
cross-triggers, the twin record, sticky bits and the log. -/
def BesideLinks (s t : State) : Prop :=
  ∃ clk meas arm acq twin pub sys peat seen fire, t = { s with
    clk := clk, meas := meas, arm := arm, acq := acq, twin := twin, pub := pub, sys := sys, peat := peat
    nest := { s.nest with xSeen := seen, fire := fire } }

namespace BesideLinks
variable {s t u : State}

theorem refl (s : State) : BesideLinks s s := ⟨_, _, _, _, _, _, _, _, _, _, rfl⟩

theorem trans (h : BesideLinks s t) (k : BesideLinks t u) : BesideLinks s u := by
  obtain ⟨_, _, _, _, _, _, _, _, _, _, rfl⟩ := h
  obtain ⟨_, _, _, _, _, _, _, _, _, _, rfl⟩ := k
  exact ⟨_, _, _, _, _, _, _, _, _, _, rfl⟩

theorem when {b : Bool} {f : State → State} (h : BesideLinks s t) (hf : ∀ v, BesideLinks v (f v)) : BesideLinks s (t.when b f) := by
  cases b with
  | false => exact h
  | true => exact h.trans (hf t)

theorem ite {c : Prop} [Decidable c] (h : BesideLinks s t) (k : BesideLinks s u) : BesideLinks s (if c then t else u) := by
  split
  · exact h
  · exact k

/-- The nest records stay but for the cross-triggers. -/
theorem nest (h : BesideLinks s t) : ∃ seen fire, t.nest = { s.nest with xSeen := seen, fire := fire } := by
  obtain ⟨_, _, _, _, _, _, _, _, seen, fire, rfl⟩ := h
  exact ⟨seen, fire, rfl⟩

end BesideLinks

theorem besideLinks_modClk (s : State) (g : Clk → Clk) : BesideLinks s (s.modClk g) := ⟨_, _, _, _, _, _, _, _, _, _, rfl⟩
theorem besideLinks_modAcq (s : State) (g : Acq → Acq) : BesideLinks s (s.modAcq g) := ⟨_, _, _, _, _, _, _, _, _, _, rfl⟩
/-- A cross-trigger is noted and goes out with the frames of the boundary (R406, R407). -/
theorem besideLinks_crossTrigger (s : State) (seen : Nest → List (Nat × Nat)) (fire : Nest → Option (Nat × Nat × Nat)) :
    BesideLinks s (s.modNest (fun n => { n with xSeen := seen n, fire := fire n })) := ⟨_, _, _, _, _, _, _, _, _, _, rfl⟩
theorem besideLinks_rcSet (s : State) (d e k : Nat) : BesideLinks s (s.rcSet d e k) := ⟨_, _, _, _, _, _, _, _, _, _, rfl⟩

theorem TwinOnly.besideLinks {s t : State} (h : TwinOnly s t) : BesideLinks s t := by
  obtain ⟨_, rfl⟩ := h
  exact ⟨_, _, _, _, _, _, _, _, _, _, rfl⟩

/-- The digest of a frame goes to the lead (R334). -/
theorem besideLinks_twinDigest (s : State) (item d : Nat) : BesideLinks s (s.twinDigest item d) :=
  .ite (twinOnly_tSend s _).besideLinks (.refl s)

/-- A step of station time (R430). -/
theorem besideLinks_stepTime (s : State) (off : Int) (frac : Nat) : BesideLinks s (s.stepTime off frac) :=
  ⟨_, _, _, _, _, _, _, _, _, _, rfl⟩

/-- A measurement of station time (R428 to R432). -/
theorem besideLinks_measureTime (s : State) (code : Nat) (off : Int) (frac : Nat) (anew : Bool) :
    BesideLinks s (s.measureTime code off frac anew) := by
  unfold State.measureTime
  dsimp only
  refine .trans (t := if anew || s.clk.tstate == .free || s.clk.tstate == .holdover || s.clk.source != code then
      s.modClk (fun c => { (c.setState .acquiring) with source := code }) else s) (.ite (besideLinks_modClk _ _) (.refl s)) ?_
  refine .ite ((besideLinks_stepTime _ _ _).trans (besideLinks_modClk _ _)) (.ite ?_ (besideLinks_modClk _ _))
  exact (besideLinks_modClk _ _).trans (besideLinks_modClk _ _)

/-- The parent as a source of time (R29, R428). -/
theorem besideLinks_timeNest (s : State) (port : Nat) (off : Int) : BesideLinks s (s.timeNest port off) :=
  .ite (.refl s) (.ite ((besideLinks_modClk s _).trans (besideLinks_measureTime _ _ _ _ _)) (besideLinks_modClk s _))

theorem besideLinks_reserve (s : State) : BesideLinks s s.reserve := by
  unfold State.reserve
  exact besideLinks_modAcq s _

theorem besideLinks_acqArm (s : State) : BesideLinks s s.acqArm :=
  .ite ((besideLinks_modAcq s _).trans (besideLinks_reserve _)) (besideLinks_modAcq s _)

theorem besideLinks_acqDisarm (s : State) : BesideLinks s s.acqDisarm := by
  unfold State.acqDisarm
  split <;> exact besideLinks_modAcq s _

/-- A trigger of the recorder (R399, R401, R403, R407). -/
theorem besideLinks_acqTrigger (s : State) (mets : List (Nat × Nat × Nat)) (f0 origin originF : Nat) :
    BesideLinks s (s.acqTrigger mets f0 origin originF) := by
  unfold State.acqTrigger
  cases mets with
  | nil => exact .refl s
  | cons m mets =>
    dsimp only
    split
    iterate 2
      · refine .ite (.trans ?_ (besideLinks_crossTrigger _ _ _)) ?_ <;>
          exact (besideLinks_modAcq s _).when (fun u => besideLinks_rcSet u _ _ _)
    · exact besideLinks_modAcq s _
    · exact (besideLinks_modAcq s _).trans (besideLinks_rcSet _ _ _ _)
    · exact (besideLinks_modAcq s _).trans (besideLinks_rcSet _ _ _ _)
    · exact .refl s

/-- A cross-trigger taken from a link (R406, R408). -/
theorem besideLinks_xtrigTake (s : State) (link x : Nat) : BesideLinks s (s.xtrigTake link x) := by
  unfold State.xtrigTake
  dsimp only
  refine .trans (t := if link == 32 then
      if s.pb gACQ 11 && x.testBit 14 != s.acq.parArm then
        if x.testBit 14 then (s.modAcq (fun a => { a with parArm := x.testBit 14 })).acqArm
        else (s.modAcq (fun a => { a with parArm := x.testBit 14 })).acqDisarm
      else s.modAcq (fun a => { a with parArm := x.testBit 14 })
    else s) ?arm ?trigger
  case arm =>
    have hpar := besideLinks_modAcq s (fun a => { a with parArm := x.testBit 14 })
    exact .ite (.ite (.ite (hpar.trans (besideLinks_acqArm _)) (hpar.trans (besideLinks_acqDisarm _))) hpar) (.refl s)
  case trigger =>
    refine .ite (.refl _) (.ite (.refl _) (.ite (besideLinks_crossTrigger _ _ _) ?_))
    exact ((besideLinks_crossTrigger _ _ _).when (fun u => besideLinks_rcSet u _ _ _)).trans (besideLinks_acqTrigger _ _ _ _ _)

/-! ### The port's sync -/

/-- A frame on a nest port bears on the link's record alone (DIA.120). -/
theorem nestSync_eq (s : State) (p : Nat) : s.nestSync p = { s with link := (s.nestSync p).link } := by
  unfold State.nestSync
  split <;> rfl

@[simp] theorem nestSync_nest (s : State) (p : Nat) : (s.nestSync p).nest = s.nest := by rw [nestSync_eq]
@[simp] theorem nestSync_fr (s : State) (p : Nat) : (s.nestSync p).fr = s.fr := by rw [nestSync_eq]; rfl
@[simp] theorem nestSync_topoDigest (s : State) (p : Nat) : (s.nestSync p).topoDigest = s.topoDigest := by rw [nestSync_eq]; rfl
@[simp] theorem nestSync_kid (s : State) (p i : Nat) : (s.nestSync p).kid i = s.kid i := by rw [nestSync_eq]; rfl

theorem nestSync_modNest (s : State) (p : Nat) (g : Nest → Nest) :
    (s.nestSync p).modNest g = { s with link := (s.nestSync p).link, nest := g s.nest } := by
  unfold State.modNest
  rw [nestSync_eq s p]

/-! ### A frame from the parent (R267, R268, R270) -/

/-- The nest records with a frame from the parent taken: its demand, acknowledgement and report (R268, R270, R274, R280). -/
def Nest.fromParent (n : Nest) (h : NestHdr) (f rank : Nat) (second : Bool) (d : DownRep) (b : List Byte) : Nest :=
  { n with
    par := { n.par.taken h f rank second with demand := d.demand, dsub := 0, dig := some (crc32 b).toNat, bytes := b }
    down := some d, parentAck := d.ack }

section
variable {s : State} {p : Nat} {b : List Byte} (hon : s.lanesOn = true) (hpar : s.hasParent = true) (hport : s.parPorts.contains p = true)
  (hlen : b.length = 44) (hcrc : crcTail b = true) (htype : (nestHdr b).ftype = 4)
include hon hpar hport hlen hcrc htype

/-- A frame that is whole and of its type is judged by its number, its topology digest and its sender (R28, R267, R268). -/
theorem nestDownTake_heard :
    let h := nestHdr b
    let f := extendF s.fr h.fnum
    ∃ second u, BesideLinks ((s.nestSync p).modNest (fun n => n.fromParent h f (portRank p) second (downOf s.fr b) b)) u ∧
      s.nestDownTake p b =
        if misaligned s.fr f then
          ((s.nestSync p).modNest (fun n => { n with par := { n.par with cMis := wrap32 (n.par.cMis + 1) } }), false)
        else if h.digest != s.topoDigest then ((s.nestSync p).modNest (fun n => { n with par := { n.par with topoBad := true } }), false)
        else if !(s.nest.par.obeys h f && s.nest.par.fresh h (portRank p)) then (s.nestSync p, false)
        else (u, s.nest.par.gotNow.isNone) := by
  have hgo : (!(s.lanesOn && s.hasParent && s.parPorts.contains p && b.length == 44 && crcTail b)) = false := by
    simp only [hon, hpar, hport, hlen, hcrc, beq_self_eq_true, Bool.and_self, Bool.not_true]
  unfold State.nestDownTake
  rw [hgo, if_neg Bool.false_ne_true]
  simp only [htype, bne_self_eq_false, Bool.false_eq_true, if_false, nestSync_nest, nestSync_fr, nestSync_topoDigest]
  exact ⟨_, _, (besideLinks_twinDigest _ _ _).when (fun u => besideLinks_rcSet u _ _ _), rfl⟩

end

/-- After a frame has been taken, it serves as a source of time and for cross-triggers, beside the links (R29, R406). -/
theorem nestDown_beside (s : State) (p : Nat) (b : List Byte) (off : Int) :
    ∃ t, exec (.nestDown p b off) s = .next t ∧ BesideLinks (s.nestDownTake p b).1 t ∧
      ((s.nestDownTake p b).2 = false → t = (s.nestDownTake p b).1) := by
  refine ⟨_, rfl, ?_, fun hold => if_neg (by rw [hold]; exact Bool.false_ne_true)⟩
  refine .ite ?_ (.refl _)
  have htime := besideLinks_timeNest (s.nestDownTake p b).1 p off
  dsimp only
  split
  · exact htime.trans (besideLinks_xtrigTake _ _ _)
  · exact htime

/-- Settles O19: a frame of the member to obey is taken; a misaligned or a foreign one marks the link, and a copy of a later rank does
nothing. -/
theorem nestDownObeyed : Obligations.NestDownObeyed := by
  unfold Obligations.NestDownObeyed
  intro s p b off hon hpar hport hlen hcrc htype
  obtain ⟨_, u, hu, heard⟩ := nestDownTake_heard hon hpar hport hlen hcrc htype
  obtain ⟨t, hexec, hbeside, hold⟩ := nestDown_beside s p b off
  refine ⟨fun hmis => ?misaligned, fun hal hdig => ?foreign, fun hal hdig hobeys hfresh => ?taken, fun hal hdig hstale => ?stale⟩
  case misaligned =>
    simp only [hmis, if_true] at heard
    rw [hexec, hold (by rw [heard]), heard, nestSync_modNest]
  case foreign =>
    simp only [hal, bne_iff_ne.mpr hdig, Bool.false_eq_true, if_false, if_true] at heard
    rw [hexec, hold (by rw [heard]), heard, nestSync_modNest]
  case taken =>
    simp only [hal, hdig, hobeys, hfresh, bne_self_eq_false, Bool.and_self, Bool.not_true, Bool.false_eq_true, if_false] at heard
    rw [heard] at hbeside
    rw [nestSync_modNest] at hu
    obtain ⟨_, _, _, _, _, _, _, _, _, _, rfl⟩ := hu.trans hbeside
    exact ⟨_, hexec, rfl, rfl, rfl, rfl, rfl, rfl, rfl⟩
  case stale =>
    simp only [hal, hdig, hstale, bne_self_eq_false, Bool.and_false, Bool.not_false, Bool.false_eq_true, if_false, if_true] at heard
    rw [hexec, hold (by rw [heard]), heard]

/-! ### A frame from a child (R267, R268, R271, R272, R280) -/

/-- What holds at the start and is kept by each turn holds after all of them. -/
theorem forAll_invariant {α : Type} {P : State → Prop} {l : List α} {f : State → α → State} {s : State} (h : P s)
    (hf : ∀ u a, P u → P (f u a)) : P (forAll l f s) := by
  induction l generalizing s with
  | nil => exact h
  | cons a l ih => exact ih (hf s a h)

/-- A reset report bears on the child's own books and the root's records of its arms; the reports held stay (R280). -/
theorem resetAck_spec (s : State) (i : Nat) (r : UpRep) : ∃ (g : Nst → Nst) (arm : Arm),
    s.resetAck i r = { s with arm := arm, nest := { s.nest with kids := s.nest.kids.modify i g } } := by
  have hspan (l : List Nat) (f : State → Nat → Nat) (g : State → Nat → RefA → RefA) (u : State) :
      ∃ arm, forAll l (fun s j => s.updRef (f s j) (g s j)) u = { u with arm := arm } := by
    refine forAll_invariant (P := fun v => ∃ arm, v = { u with arm := arm }) ⟨u.arm, rfl⟩ ?_
    rintro _ a ⟨arm, rfl⟩
    exact ⟨_, rfl⟩
  unfold State.resetAck
  dsimp only
  split
  · split
    · split
      · obtain ⟨arm, h⟩ := hspan _ _ _ _
        exact ⟨_, arm, h⟩
      · exact ⟨_, s.arm, rfl⟩
    · exact ⟨_, s.arm, rfl⟩
  · exact ⟨id, s.arm, by rw [List.modify_id]⟩

/-- The link's record of a child whose frame has been taken: the report becomes the newest and replaces one of its element epoch (R268,
R272, R273, R280). -/
def Nst.reported (k : Nst) (h : NestHdr) (f rank : Nat) (second : Bool) (r : UpRep) (b : List Byte) : Nst :=
  { k.taken h f rank second with
    dig := some (crc32 b).toNat, bytes := b
    base := k.base.or (some (k.ofs.getD 0 0 + r.arm0.cum - r.arm0.inserted - r.arm0.returned))
    reps := (r :: k.reps.filter (fun x => x.epoch != r.epoch)).take 64, lastCum := [r.arm0.cum, r.arm1.cum]
    repBy := ((r.epoch, h.sideB, h.lepoch) :: k.repBy.filter (fun x => x.1 != r.epoch)).take 64 }

/-- No older report held is of the newest one's element epoch. -/
theorem reported_epochs (k : Nst) (h : NestHdr) (f rank : Nat) (second : Bool) (r : UpRep) (b : List Byte) :
    ∀ x ∈ (k.reported h f rank second r b).reps.drop 1, x.epoch ≠ r.epoch := by
  intro x hx
  have hmem : x ∈ k.reps.filter (fun x => x.epoch != r.epoch) := List.mem_of_mem_take hx
  simpa using (List.mem_filter.mp hmem).2

section
variable {s : State} {p i : Nat} {b : List Byte} {k : Nst} (hkid : s.kidOfPort p = some i) (hk : s.nest.kids[i]? = some k)
  (hon : s.lanesOn = true) (hlen : b.length = 168) (hcrc : crcTail b = true) (htype : (nestHdr b).ftype = 5)
include hkid hk hon hlen hcrc htype

/-- A frame that is whole and of its type is judged by its number, its topology digest and its sender (R28, R267, R268). -/
theorem nestUpTake_heard :
    let h := nestHdr b
    let f := extendF s.fr h.fnum
    ∃ second u, BesideLinks (((s.nestSync p).resetAck i (upOf s.fr b)).updKid i
        (fun k => k.reported h f (portRank p) second (upOf s.fr b) b)) u ∧
      s.nestUpTake p b =
        if misaligned s.fr f then ((s.nestSync p).updKid i (fun k => { k with cMis := wrap32 (k.cMis + 1) }), none)
        else if h.digest != s.topoDigest then ((s.nestSync p).updKid i (fun k => { k with topoBad := true }), none)
        else if !(k.obeys h f && k.fresh h (portRank p)) then (s.nestSync p, none)
        else (u, some i) := by
  have hgo : (!(s.lanesOn && b.length == 168 && crcTail b)) = false := by
    simp only [hon, hlen, hcrc, beq_self_eq_true, Bool.and_self, Bool.not_true]
  have hrec : s.kid i = k := getD_of_some _ _ _ _ hk
  unfold State.nestUpTake
  simp only [hkid, hgo, htype, hrec, bne_self_eq_false, Bool.false_eq_true, if_false, nestSync_kid, nestSync_fr, nestSync_topoDigest]
  exact ⟨_, _, (((BesideLinks.refl _).when (fun u => besideLinks_rcSet u _ _ _)).when (fun u => besideLinks_rcSet u _ _ _)).trans
    ((besideLinks_twinDigest _ _ _).when (fun u => besideLinks_rcSet u _ _ _)), rfl⟩

end

/-- After a frame has been taken, it serves for cross-triggers, beside the links (R408). -/
theorem nestUp_beside (s : State) (p : Nat) (b : List Byte) :
    ∃ t, exec (.nestUp p b) s = .next t ∧ BesideLinks (s.nestUpTake p b).1 t ∧ ((s.nestUpTake p b).2 = none → t = (s.nestUpTake p b).1) := by
  refine ⟨_, rfl, ?_, fun hold => by simp only [hold]⟩
  dsimp only
  split
  · split
    · exact besideLinks_xtrigTake _ _ _
    · exact .refl _
  · exact .refl _

/-- Settles O20: a frame of the member to obey is the child's newest report; a misaligned or a foreign one marks the link, and a copy of a
later rank does nothing. -/
theorem nestUpTaken : Obligations.NestUpTaken := by
  unfold Obligations.NestUpTaken
  intro s p i b k hkid hk hon hlen hcrc htype
  obtain ⟨_, u, hu, heard⟩ := nestUpTake_heard hkid hk hon hlen hcrc htype
  obtain ⟨t, hexec, hbeside, hold⟩ := nestUp_beside s p b
  refine ⟨fun hmis => ?misaligned, fun hal hdig => ?foreign, fun hal hdig hobeys hfresh => ?taken, fun hal hdig hstale => ?stale⟩
  case misaligned =>
    simp only [hmis, if_true] at heard
    rw [hold (by rw [heard]), heard, State.updKid, nestSync_modNest] at hexec
    exact ⟨_, hexec, rfl, onlyAt_modify _ _ _, modify_at _ _ _ _ hk⟩
  case foreign =>
    simp only [hal, bne_iff_ne.mpr hdig, Bool.false_eq_true, if_false, if_true] at heard
    rw [hold (by rw [heard]), heard, State.updKid, nestSync_modNest] at hexec
    exact ⟨_, hexec, rfl, onlyAt_modify _ _ _, modify_at _ _ _ _ hk⟩
  case taken =>
    simp only [hal, hdig, hobeys, hfresh, bne_self_eq_false, Bool.and_self, Bool.not_true, Bool.false_eq_true, if_false] at heard
    rw [heard] at hbeside
    obtain ⟨g, arm, hack⟩ := resetAck_spec (s.nestSync p) i (upOf s.fr b)
    rw [hack, nestSync_nest] at hu
    obtain ⟨_, _, hnest⟩ := (hu.trans hbeside).nest
    have hkids : t.nest.kids = (s.nest.kids.modify i g).modify i (fun k =>
        k.reported (nestHdr b) (extendF s.fr (nestHdr b).fnum) (portRank p) _ (upOf s.fr b) b) := congrArg Nest.kids hnest
    rw [modify_modify] at hkids
    refine ⟨t, _, hexec, by rw [hkids]; exact modify_at _ _ _ _ hk, by rw [hkids]; exact onlyAt_modify _ _ _, by rw [hnest]; rfl,
      rfl, rfl, rfl, reported_epochs _ _ _ _ _ _ _⟩
  case stale =>
    simp only [hal, hdig, hstale, bne_self_eq_false, Bool.and_false, Bool.not_false, Bool.false_eq_true, if_false, if_true] at heard
    rw [hexec, hold (by rw [heard]), heard]

end Sys2Proof.Machine
end

section
/-!
SUPPORT. What leaves the clock, the housing's sensors and the loop engine as they are: one lemma for each operation that a boundary runs
through. `Keeps φ s t` says that `t` shows what `s` shows of these three records through `φ`; each lemma goes on from a state that does.
-/
namespace Sys2Proof.Machine
open Sys2Proof

/-- Clock, housekeeping and loop engine look the same through `φ`. -/
def Keeps {α : Type} (φ : Clk → Hw → Eng → α) (s t : State) : Prop := φ t.clk t.hw t.eng = φ s.clk s.hw s.eng

namespace Keeps
variable {α : Type} {φ : Clk → Hw → Eng → α} {s t u : State}

/-! ### Composition -/

theorem refl (s : State) : Keeps φ s s := rfl

theorem trans (h : Keeps φ s t) (k : Keeps φ t u) : Keeps φ s u := Eq.trans k h

theorem when {b : Bool} {f : State → State} (h : Keeps φ s t) (hf : ∀ v, Keeps φ s v → Keeps φ s (f v)) : Keeps φ s (t.when b f) := by
  cases b with
  | false => exact h
  | true => exact hf t h

theorem ite {c : Prop} [Decidable c] (h : Keeps φ s t) (k : Keeps φ s u) : Keeps φ s (if c then t else u) := by
  split
  · exact h
  · exact k

theorem foldl {β : Type} {l : List β} {f : State → β → State} (h : Keeps φ s t) (hf : ∀ v b, Keeps φ s v → Keeps φ s (f v b)) :
    Keeps φ s (l.foldl f t) := forAll_invariant h hf

theorem forAll {β : Type} {l : List β} {f : State → β → State} (h : Keeps φ s t) (hf : ∀ v b, Keeps φ s v → Keeps φ s (f v b)) :
    Keeps φ s (forAll l f t) := forAll_invariant h hf

/-! ### Records that are not looked at -/

section
variable (h : Keeps φ s t)
include h

theorem modMeas {g : Meas → Meas} : Keeps φ s (t.modMeas g) := h
theorem modKern {g : Kern → Kern} : Keeps φ s (t.modKern g) := h
theorem modArm {g : Arm → Arm} : Keeps φ s (t.modArm g) := h
theorem modLink {g : Link → Link} : Keeps φ s (t.modLink g) := h
theorem modNest {g : Nest → Nest} : Keeps φ s (t.modNest g) := h
theorem modProt {g : Prot → Prot} : Keeps φ s (t.modProt g) := h
theorem modTwin {g : Twin → Twin} : Keeps φ s (t.modTwin g) := h
theorem modHdg {g : Hdg → Hdg} : Keeps φ s (t.modHdg g) := h
theorem modAcq {g : Acq → Acq} : Keeps φ s (t.modAcq g) := h
theorem modMbx {g : Mbx → Mbx} : Keeps φ s (t.modMbx g) := h
theorem modPar {g : Par → Par} : Keeps φ s (t.modPar g) := h
theorem modSys {g : Sys → Sys} : Keeps φ s (t.modSys g) := h
theorem modPeat {g : Store → Store} : Keeps φ s (t.modPeat g) := h
theorem modFio {g : Fio → Fio} : Keeps φ s (t.modFio g) := h
theorem modPub {g : Pub → Pub} : Keeps φ s (t.modPub g) := h
theorem modTrk {g : List Trk → List Trk} : Keeps φ s (t.modTrk g) := h

theorem updCell {c : Nat} {f : Cell → Cell} : Keeps φ s (t.updCell c f) := h.modArm
theorem mapCells {f : Nat → Cell → Cell} : Keeps φ s (t.mapCells f) := h.modArm
theorem updArm {a : Nat} {f : ArmS → ArmS} : Keeps φ s (t.updArm a f) := h.modArm
theorem updRef {a : Nat} {f : RefA → RefA} : Keeps φ s (t.updRef a f) := h.modArm
theorem updPort {p : Nat} {f : Port → Port} : Keeps φ s (t.updPort p f) := h.modLink
theorem updTrk {k : Nat} {f : Trk → Trk} : Keeps φ s (t.updTrk k f) := h.modTrk
theorem updChan {c : Nat} {f : Chan → Chan} : Keeps φ s (t.updChan c f) := h.modMbx
theorem updOut {o : Nat} {f : OutS → OutS} : Keeps φ s (t.updOut o f) := h.modFio
theorem setRaw {id : Pid} {e : Nat} {v : Raw} : Keeps φ s (t.setRaw id e v) := h.modPar

/-! ### Shared operations -/

theorem rcSet {d e k : Nat} : Keeps φ s (t.rcSet d e k) := h.modPub
theorem rcPublish {lo hi : Nat} : Keeps φ s (t.rcPublish lo hi) := h.modPub
theorem irqSet {k : Nat} : Keeps φ s (t.irqSet k) := h.modMbx
theorem logPush {r : Audit} : Keeps φ s (t.logPush r) := h.modSys.modPeat

theorem audit {ty : Nat} {w : Who} {subj : Nat} {old new detail : Int} {result : Nat} {more : List Reason} {vals : List (List Int)} :
    Keeps φ s (t.audit ty w subj old new detail result more vals) := h.foldl fun _ _ h => h.logPush

theorem enter {m : MState} {w : Who} : Keeps φ s (t.enter m w) := h.audit.modSys.irqSet

end

/-! ### Inputs, trackers and conditions (chapters 02 and 08) -/

section
variable (h : Keeps φ s t)
include h

theorem condSample {k : Nat} {b : Bool} : Keeps φ s (t.condSample k b) := h.modProt
theorem sampleConds {l : List (Nat × Bool)} : Keeps φ s (t.sampleConds l) := h.forAll fun _ _ h => h.condSample
theorem deliver : Keeps φ s t.deliver := h.modMeas
theorem fieldLatch : Keeps φ s t.fieldLatch := h.modFio

theorem cmpDisarm {k : Nat} : Keeps φ s (t.cmpDisarm k) := .ite h.updTrk.rcSet.setRaw h
theorem trkCross {k : Nat} {neg : Bool} {tx : Int} : Keeps φ s (t.trkCross k neg tx) := .ite h.updTrk.rcSet.cmpDisarm h.updTrk
theorem trkMark {k j : Nat} {neg : Bool} {beyond : Int} {ok : Bool} {tx : Int} : Keeps φ s (t.trkMark k j neg beyond ok tx) :=
  .ite h (.ite h.updTrk.trkCross h.updTrk)

theorem trkCrossings {k : Nat} {a1 a2 : Angle} {t1 t2 : Int} {ok : Bool} : Keeps φ s (t.trkCrossings k a1 a2 t1 t2 ok) := by
  unfold State.trkCrossings
  refine foldl ?_ fun _ _ h => h.trkMark
  split
  · exact h.trkMark
  · exact h

theorem cmpFire {k : Nat} {tx ts : Int} : Keeps φ s (t.cmpFire k tx ts) := h.updTrk.modKern.rcSet.setRaw

theorem cmpEval {k : Nat} {a1 : Angle} {prevOk : Bool} {a2 : Angle} {t1 t2 : Int} : Keeps φ s (t.cmpEval k a1 prevOk a2 t1 t2) := by
  have hmark {b : Bool} {g : Trk → Trk} : Keeps φ s ((t.updTrk k g).when b (fun s => s.rcSet 44 k 10)) := h.updTrk.when fun _ h => h.rcSet
  exact .ite (.ite hmark.cmpFire hmark) (.ite hmark.cmpFire hmark)

theorem trkFrame {k : Nat} : Keeps φ s (t.trkFrame k) := by
  unfold State.trkFrame
  refine .ite h ?_
  have hmag {c : Prop} [Decidable c] {g : Trk → Trk} : Keeps φ s (if c then t else t.updTrk k g) := .ite h h.updTrk
  have hcross {c d : Prop} [Decidable c] [Decidable d] {f g : Trk → Trk} {a1 a2 : Angle} {t1 t2 : Int} {ok : Bool} :
      Keeps φ s ((if d then (if c then t else t.updTrk k g).trkCrossings k a1 a2 t1 t2 ok else if c then t else t.updTrk k g).updTrk k f) :=
    (Keeps.ite hmag.trkCrossings hmag).updTrk
  exact .ite hcross.cmpEval hcross

theorem cmpWrite {k n : Nat} {v : Raw} : Keeps φ s (t.cmpWrite k n v) := .ite h.updTrk (.ite h.updTrk h)
theorem publishTrk : Keeps φ s t.publishTrk := h.modPub.rcPublish

/-! ### Arms and cells (chapter 05) -/

theorem refTake {b : Bool} : Keeps φ s (t.refTake b) := h.forAll fun _ _ h => h.updRef
theorem pwmRestart : Keeps φ s t.pwmRestart := h.modArm
theorem direction {a : Nat} : Keeps φ s (t.direction a) := h.updArm
theorem armLatch {a : Nat} : Keeps φ s (t.armLatch a) := h.direction.updArm
theorem armLatches : Keeps φ s t.armLatches := .ite (h.forAll fun _ _ h => h.armLatch) h

theorem pscModulate {a m : Nat} {v : Int} : Keeps φ s (t.pscModulate a m v) := by
  unfold State.pscModulate
  refine forAll (.ite h ?_) fun _ _ h => h.updCell
  exact ((h.when fun _ h => h.rcSet).forAll fun _ _ h => h.updCell).updArm

theorem pwmPlan {a m : Nat} {n v : Int} {turn start : Bool} {r : Sel} : Keeps φ s (t.pwmPlan a m n v turn start r) := by
  unfold State.pwmPlan
  refine .ite ?_ (.ite ?_ h)
  · split
    · exact h.updArm.updCell
    · exact h.updArm.rcSet
  · split
    · exact h.updArm.updCell
    · exact h

theorem selectArm {a m : Nat} {grant : Option (Int × Int)} {blk : Bool} : Keeps φ s (t.selectArm a m grant blk) := by
  unfold State.selectArm
  have hgone {b : Bool} : Keeps φ s (t.when b (fun s => (s.updArm a (fun x => { x with pwm := none, pwmWait := false })).rcSet 100 a 10)) :=
    h.when fun _ h => h.updArm.rcSet
  cases grant with
  | none => exact hgone.updArm
  | some g => exact .ite hgone.updArm hgone.updArm.pwmPlan

theorem selectAll : Keeps φ s t.selectAll := .ite h (h.forAll fun _ _ h => h.selectArm.updArm)

theorem formArm {a m : Nat} : Keeps φ s (t.formArm a m) := ((h.forAll fun _ _ h => h.updCell).updArm).when fun _ h => h.rcSet
theorem formAll : Keeps φ s t.formAll := .ite h (h.forAll fun _ _ h => h.formArm)
theorem refreshCount : Keeps φ s t.refreshCount := .ite h h.mapCells
theorem commit {m : Nat} : Keeps φ s (t.commit m) := h.forAll fun _ _ h => h.updCell
theorem poolReentry : Keeps φ s t.poolReentry := h.mapCells

/-! ### Fen ledger (chapter 07) -/

theorem ledgerTake : Keeps φ s t.ledgerTake := h.forAll fun _ _ h => (h.when fun _ h => h.rcSet).updArm
theorem bookCell {m : Nat} {pcs : List (Nat × Nat × Int)} {c : Nat} : Keeps φ s (t.bookCell m pcs c) := h.updCell.when fun _ h => h.rcSet
theorem bookFrame : Keeps φ s t.bookFrame :=
  .ite h (h.forAll fun _ _ h => (h.forAll fun _ _ h => h.bookCell).updArm)
theorem driftCompute : Keeps φ s t.driftCompute := h.mapCells.forAll fun _ _ h => h.updArm.forAll fun _ _ h => h.audit

/-! ### Crihel (chapter 06) -/

theorem tSend {b : TBody} : Keeps φ s (t.tSend b) := .ite h.modTwin h

theorem takeStatus {c f : Nat} {sl : Slot} : Keeps φ s (t.takeStatus c f sl) :=
  ((h.updCell.when fun _ h => h.rcSet).when fun _ h => h.updPort).when fun _ h => h.rcSet

theorem latchStatuses : Keeps φ s t.latchStatuses := by
  unfold State.latchStatuses
  refine h.modLink.forAll fun v c h => ?_
  dsimp only
  split
  · exact h.takeStatus
  · exact h.updCell

theorem portLatch : Keeps φ s t.portLatch := h.forAll fun _ _ h => h.updPort
theorem sendPort {p : Nat} : Keeps φ s (t.sendPort p) := h.modLink.updPort
theorem sendDownlink : Keeps φ s t.sendDownlink := .ite (h.modLink.forAll fun _ _ h => h.sendPort) h.modLink
theorem endSample : Keeps φ s t.endSample := h.modLink
theorem cutFrames {p k : Nat} : Keeps φ s (t.cutFrames p k) := h.modLink
theorem sendBlockAll {k p : Nat} : Keeps φ s (State.sendBlockAll k t p) := .ite h.cutFrames.updPort.rcSet h
theorem startRelease {p : Nat} : Keeps φ s (t.startRelease p) := h.updPort
theorem releaseAll : Keeps φ s t.releaseAll := h.forAll fun _ _ h => h.startRelease
theorem startRelink : Keeps φ s t.startRelink := h.forAll fun _ _ h => h.updPort
theorem creditsReconcile : Keeps φ s t.creditsReconcile := h.forAll fun _ _ h => .ite h h.updPort.rcSet

theorem setTrav {p k : Nat} : Keeps φ s (t.setTrav p k) :=
  h.updPort.forAll fun _ _ h => .ite h (h.updCell.when fun _ h => h.updPort)

theorem rangingCheck {l : List (Nat × Nat)} : Keeps φ s (t.rangingCheck l) :=
  h.forAll fun _ _ h => .ite (.ite (.ite h.setTrav.tSend h) ((h.forAll fun _ _ h => h.updPort).when fun _ h => h.rcSet)) h

/-! ### Nest links and credits (chapter 07) -/

theorem nestHold : Keeps φ s t.nestHold := by
  unfold State.nestHold
  refine .ite h ?_
  dsimp only
  split
  · exact .ite h.modNest.updArm.updArm h.modNest
  · exact h.modNest

theorem levelIssue : Keeps φ s t.levelIssue := .ite h <| h.forAll fun _ _ h =>
  ((((h.when fun _ h => h.pscModulate).when fun _ h => h.rcSet).when fun _ h => h.rcSet).updRef).when fun _ h => h.updArm

theorem creditCheck : Keeps φ s t.creditCheck := by
  unfold State.creditCheck
  refine .ite h (h.forAll fun v a h => ?_)
  dsimp only
  split
  · refine .ite ?_ h.updRef
    split
    · exact h.updRef.audit.when fun _ h => h.rcSet
    · exact h.updRef.audit
  · exact h

theorem reconcile : Keeps φ s t.reconcile := by
  unfold State.reconcile
  refine .ite h (h.forAll fun v a h => ?_)
  split
  · exact .ite h.audit.updRef h
  · exact h

theorem sendDown : Keeps φ s t.sendDown := by
  unfold State.sendDown
  refine .ite h.modNest (forAll ?_ fun _ _ h => h.rcSet)
  split
  · exact h.modNest.modNest.updRef
  · exact h.modNest.modNest

theorem sendUp : Keeps φ s t.sendUp := .ite h.modNest h
theorem openBooks : Keeps φ s t.openBooks := h.modNest.modArm

/-! ### Bramble (chapter 08) -/

theorem endTest : Keeps φ s t.endTest := .ite h.modArm.setRaw h
theorem toFaulted {w : Who} : Keeps φ s (t.toFaulted w) := .ite h.endTest.enter h
theorem faultCheck : Keeps φ s t.faultCheck := .ite h.toFaulted h
theorem selfFail {k : Nat} : Keeps φ s (t.selfFail k) := .ite h h.tSend.modTwin.toFaulted
theorem excludeProt {g : Nat} : Keeps φ s (t.excludeProt g) := h
theorem blockPorts {g k : Nat} : Keeps φ s (t.blockPorts g k) := h.forAll fun _ _ h => h.sendBlockAll
theorem openReq : Keeps φ s t.openReq := h.modHdg
theorem ocRefresh : Keeps φ s t.ocRefresh := h.modProt
theorem startResync : Keeps φ s t.startResync := h.modTwin

theorem blockPortsWhen {b : Bool} {g : Nat} {k : State → Nat} : Keeps φ s (t.when b (fun s => s.blockPorts g (k s))).faultCheck :=
  (h.when fun _ h => h.blockPorts).faultCheck

theorem takeAction {step : Bool} {k g : Nat} {a : Action} {ba : Bool} : Keeps φ s (t.takeAction step k g a ba) := by
  cases a with
  | none => exact h
  | record => exact h.audit.rcSet.modProt
  | block => exact h.audit.rcSet.modProt.irqSet.modProt.blockPortsWhen
  | bypass => exact h.audit.rcSet.modProt.irqSet.modProt.excludeProt
  | breaker => exact h.audit.rcSet.modProt.irqSet.modProt
  | selfFail => exact .ite h.audit.rcSet.modProt.irqSet.modProt.selfFail h.audit.rcSet.modProt.irqSet.modProt.modProt.blockPortsWhen

theorem matrixActs {old : State} : Keeps φ s (State.matrixActs old t) := h.forAll fun _ _ h => h.takeAction

/-! ### Recorder (chapter 11) -/

theorem acqTrigger {mets : List (Nat × Nat × Nat)} {f0 origin originF : Nat} : Keeps φ s (t.acqTrigger mets f0 origin originF) := by
  unfold State.acqTrigger
  cases mets with
  | nil => exact h
  | cons m mets =>
    dsimp only
    split
    iterate 2
      · exact .ite (h.modAcq.when fun _ h => h.rcSet).modNest (h.modAcq.when fun _ h => h.rcSet)
    · exact h.modAcq
    · exact h.modAcq.rcSet
    · exact h.modAcq.rcSet
    · exact h

theorem reedbed : Keeps φ s t.reedbed := .ite h.modAcq (.ite h h.modAcq.acqTrigger)
theorem reserve : Keeps φ s t.reserve := by
  unfold State.reserve
  exact h.modAcq
theorem acqArm : Keeps φ s t.acqArm := .ite h.modAcq.reserve h.modAcq
theorem acqDisarm : Keeps φ s t.acqDisarm := by
  unfold State.acqDisarm
  split <;> exact h.modAcq
theorem condRestart {i : Nat} : Keeps φ s (t.condRestart i) := h.modAcq

end

/-! ### Twin (chapter 09) -/

section
variable (h : Keeps φ s t)
include h

theorem leadChange {w : Who} {forced : Bool} {cause : Nat} : Keeps φ s (t.leadChange w forced cause) := h.audit.modTwin

theorem twinFrame : Keeps φ s t.twinFrame := by
  unfold State.twinFrame
  refine .ite h ?_
  dsimp only
  split
  · exact .ite h.modTwin h.modTwin.modTwin.audit.startResync
  · exact h.modTwin.when fun _ h => h.startResync

theorem vecSamples {v : Vec} : Keeps φ s (t.vecSamples v) := h.forAll fun _ _ h => h.modMeas
theorem vecDeliver {v : Vec} : Keeps φ s (t.vecDeliver v) := h.modMeas.modFio
theorem digestTake : Keeps φ s t.digestTake := .ite h h.modTwin
theorem digestForm : Keeps φ s t.digestForm := .ite h h.modTwin.tSend
theorem resyncControl : Keeps φ s t.resyncControl := .ite h (.ite (.ite h.modTwin (.ite h.modTwin h)) (.ite h.modTwin.tSend h))
theorem planSwap : Keeps φ s t.planSwap := .ite h.modTwin.tSend h

theorem plannedSwap : Keeps φ s t.plannedSwap := by
  unfold State.plannedSwap
  split
  · exact .ite h (.ite h.modTwin.leadChange (.ite h.modTwin.audit.rcSet h.modTwin.audit.rcSet.tSend))
  · exact h

theorem sendException {i : Nat} : Keeps φ s (t.sendException i) := h.tSend
theorem itemsClear : Keeps φ s t.itemsClear := h.modLink.modNest

theorem twinSend {arms : List (List (Nat × Bool × Int))} : Keeps φ s (t.twinSend arms) :=
  .ite h.itemsClear (.ite h.tSend.itemsClear
    ((h.when fun _ h => h.forAll fun _ _ h => h.sendException).modTwin.tSend.tSend.itemsClear))

end

/-! ### Field terminals (chapter 16) -/

section
variable (h : Keeps φ s t)
include h

theorem comparePulses : Keeps φ s t.comparePulses := by
  refine h.forAll fun v k h => ?_
  split
  · exact .ite h.updTrk h
  · exact h

theorem fieldOutputs : Keeps φ s t.fieldOutputs := h.comparePulses.modFio
theorem outFault {o bit : Nat} {on : Bool} {f : OutS → OutS} : Keeps φ s (t.outFault o bit on f) := h.audit.updOut

theorem faultRelease {mask : Nat} : Keeps φ s (t.faultRelease mask) :=
  h.forAll fun _ _ h => (Keeps.ite (Keeps.ite h.outFault h).outFault (.ite h.outFault h)).updOut

end

/-! ### Peat store (chapter 15) -/

section
variable (h : Keeps φ s t)
include h

theorem journalCommit : Keeps φ s t.journalCommit := h.modPeat
theorem recFree : Keeps φ s t.recFree := by
  unfold State.recFree
  split
  · exact h.modPeat.rcSet
  · exact h

omit h in
theorem recRoom {size n : Nat} (h : Keeps φ s t) : Keeps φ s (State.recRoom size n t) := by
  induction n generalizing t with
  | zero => exact h
  | succ n ih => exact .ite h (ih h.recFree)

theorem recWrite : Keeps φ s t.recWrite := by
  unfold State.recWrite
  split
  · exact h
  · have hroom {c : Prop} [Decidable c] {size n : Nat} : Keeps φ s (if c then t else State.recRoom size n t) := .ite h h.recRoom
    exact .ite hroom.modPeat hroom.modPeat.modAcq

theorem recFlush : Keeps φ s t.recFlush := h.foldl fun _ _ h => h.recWrite
theorem scrubAtWake : Keeps φ s t.scrubAtWake := .ite h.modPeat h
theorem peatHealth : Keeps φ s t.peatHealth := (Keeps.ite (Keeps.ite h h.audit) (Keeps.ite h h.audit).audit).modPeat
end

/-! ### Publication (chapter 14) -/

section
variable (h : Keeps φ s t)
include h

theorem publishFrame : Keeps φ s t.publishFrame := h.modPub.modProt.rcPublish.rcPublish.rcPublish.rcPublish
theorem publishSup : Keeps φ s t.publishSup := h.modPub.rcPublish.rcPublish.rcPublish.rcPublish.rcPublish
theorem publishSys {tests : Bool} : Keeps φ s (t.publishSys tests) := .ite h.modPub h.modPub.rcPublish

theorem lateRefuse {ch sess cred subj ty : Nat} {why : Reason} : Keeps φ s (t.lateRefuse ch sess cred subj ty why) :=
  .ite h.audit h.audit.updChan.irqSet

theorem fastWrite {p : FastPend} : Keeps φ s (t.fastWrite p) := by
  unfold State.fastWrite
  split
  · exact .ite h.modMbx h.modMbx.irqSet
  · exact h

theorem fastEntry : Keeps φ s t.fastEntry := .ite h.modMbx (.ite h.modMbx.modMbx.modMbx (.ite h.modMbx.modMbx.modMbx h.modMbx.modMbx.fastWrite))
theorem ringsControl : Keeps φ s t.ringsControl := h.modMbx.fastEntry

theorem ringsArrive : Keeps φ s t.ringsArrive := by
  unfold State.ringsArrive
  dsimp only
  split
  · exact .ite h.modMbx.modMbx.fastWrite h.modMbx
  · exact h.modMbx

theorem snapBoundary : Keeps φ s t.snapBoundary := .ite h.modMbx.modMbx (.ite h.modMbx.modMbx.modMbx h.modMbx.modMbx.modMbx)

end

/-! ### Operating states and self-test (chapters 03 and 17) -/

section
variable (h : Keeps φ s t)
include h

theorem selSet {fw slotB : Bool} : Keeps φ s (t.selSet fw slotB) := h.modSys

theorem lifeApply : Keeps φ s t.lifeApply := by
  unfold State.lifeApply
  dsimp only
  split
  · exact h.modSys.modSys.audit
  · exact h.modSys.modSys.modPeat.audit
  · exact h.modSys.modSys.modPeat.audit
  · exact h.modSys

theorem sliceSkip : Keeps φ s t.sliceSkip := h.modSys
theorem shutStart : Keeps φ s t.shutStart := h.recFlush.endTest.modSys
theorem activate {fw slotB : Bool} : Keeps φ s (t.activate fw slotB) := .ite h.selSet.modSys (.ite h.selSet.shutStart.modSys h.selSet)
theorem sampleStarts : Keeps φ s t.sampleStarts := h.endSample.modFio
theorem supCounts : Keeps φ s t.supCounts := h.modArm

end

/-! ### GFM kernel (chapter 04) -/

section
variable (h : Keeps φ s t)
include h

theorem kernStart : Keeps φ s t.kernStart := .ite h (Keeps.ite (c := (t.running && t.kern.bsEdge) = true) h.modKern h).modKern

theorem syncDisarm : Keeps φ s t.syncDisarm := by
  unfold State.syncDisarm
  dsimp only
  split
  · exact h.updTrk.setRaw.modKern
  · exact h.modKern

end

/-! ### Stages of the frame work -/

section
variable (h : Keeps φ s t)
include h

theorem frameTake : Keeps φ s t.frameTake := by
  unfold State.frameTake
  have htaken := h.latchStatuses.portLatch.nestHold
  exact htaken.when fun _ h => h.creditCheck.levelIssue

theorem frameLatch {v : Option Vec} : Keeps φ s (t.frameLatch v) := by
  unfold State.frameLatch
  cases v with
  | none => exact ((h.ledgerTake.deliver.fieldLatch.forAll fun _ _ h => h.trkFrame).publishTrk.sampleConds).refreshCount.bookFrame
  | some v => exact ((h.vecSamples.ledgerTake.vecDeliver.modMeas.forAll fun _ _ h => h.trkFrame).publishTrk.sampleConds).refreshCount.bookFrame

theorem ownLatch {arms : List (List (Nat × Bool × Int))} : Keeps φ s (t.ownLatch arms) := h.deliver.modTwin
theorem frameUp : Keeps φ s t.frameUp := (h.sendUp.when fun _ h => h.rcSet).modNest.digestTake
theorem frameSend : Keeps φ s t.frameSend := (h.formAll.sendDownlink.when fun _ h => h.creditCheck).sendDown

/-- A state that goes on with what `u` decided on keeps what it kept. -/
theorem asSent {v : State} : Keeps φ s (t.asSent v) := h
theorem afterSent {v : State} : Keeps φ s (t.afterSent v) := h

end

/-! ### Wake-up (chapter 03) -/

section
variable (h : Keeps φ s t)
include h

theorem trkLoad : Keeps φ s t.trkLoad := (h.forAll fun _ _ h => h.when fun _ h => h.rcSet).modTrk
theorem setReach : Keeps φ s t.setReach := h.modLink
theorem hdgValid : Keeps φ s t.hdgValid := h.modHdg

theorem takeIdent {l : List SeenPort} {c : Nat} : Keeps φ s (t.takeIdent l c) := by
  unfold State.takeIdent
  dsimp only
  split
  · exact h.updCell
  · exact h.updCell

theorem enumerate {now : List Nat} {l : List SeenPort} {leads : Bool} : Keeps φ s (t.enumerate now l leads) := by
  unfold State.enumerate
  exact (h.modSys.modLink.forAll fun _ _ h => h.takeIdent).modLink

theorem countIdent : Keeps φ s t.countIdent := h.modSys
theorem identity {obs : WakeObs} {again : Bool} : Keeps φ s (t.identity obs again).1 := by
  unfold State.identity
  dsimp only
  exact h.enumerate.countIdent.modTwin

theorem softRepair : Keeps φ s t.softRepair := h.modSys.publishSys
theorem freshUnits : Keeps φ s t.freshUnits := h.modLink.modNest.modArm.modProt.modTwin.modMeas.modAcq
theorem groupsApply : Keeps φ s t.groupsApply := h
theorem record {finds : List Find} {retry : Bool} : Keeps φ s (t.record finds retry) := h.modSys.when fun _ h => h.audit

theorem toPending {finds : List Find} {retry : Bool} : Keeps φ s (t.toPending finds retry) :=
  (Keeps.ite h.record.modLink h.record.modLink.enter).openReq.publishSys

end

end Keeps

end Sys2Proof.Machine
end

section
/-!
SUPPORT. What the boundaries leave of clock, sensors and runs: the operations that change something of these records and still keep the
view named in each section.
-/
namespace Sys2Proof.Machine
open Sys2Proof

/-! ### Views of the clock, the sensors and the loop engine -/

/-- Frame number and station time, with the fraction of the second. -/
def gridView (c : Clk) (_ : Hw) (_ : Eng) : Nat × Nat × Nat := (c.frame, c.tai, c.frac)

/-- The supply and temperature sensors. -/
def sensorView (c : Clk) (h : Hw) (_ : Eng) : Nat × Nat × List F32 := (c.vbatMv, c.v24Mv, h.temps)

/-- The sensors and the runs of the groups. -/
def sensedView (c : Clk) (h : Hw) (e : Eng) : (Nat × Nat × List F32) × List (Option Run) := (sensorView c h e, e.runs)

/-- All three: the grid, the sensors and the runs. -/
def dialView (c : Clk) (h : Hw) (e : Eng) : (Nat × Nat × Nat) × (Nat × Nat × List F32) × List (Option Run) := (gridView c h e, sensedView c h e)

/-- Clock and loop engine as a whole. -/
def engineView (c : Clk) (_ : Hw) (e : Eng) : Clk × Eng := (c, e)

/-- Writing the inactive bank leaves the runs. -/
theorem writeInactive_runs (e : Eng) (addr : Nat) (ws : List Word) : (e.writeInactive addr ws).runs = e.runs := by
  unfold Eng.writeInactive
  split <;> rfl

namespace Keeps
variable {s t : State}

theorem toGrid (h : Keeps dialView s t) : Keeps gridView s t := congrArg Prod.fst h
theorem toSensed (h : Keeps dialView s t) : Keeps sensedView s t := congrArg Prod.snd h
theorem toSensors (h : Keeps sensedView s t) : Keeps sensorView s t := congrArg Prod.fst h

theorem modClk {α : Type} {φ : Clk → Hw → Eng → α} {g : Clk → Clk} (h : Keeps φ s t) (hg : φ (g t.clk) t.hw t.eng = φ t.clk t.hw t.eng) :
    Keeps φ s (t.modClk g) := hg.trans h

theorem modEng {α : Type} {φ : Clk → Hw → Eng → α} {g : Eng → Eng} (h : Keeps φ s t) (hg : φ t.clk t.hw (g t.eng) = φ t.clk t.hw t.eng) :
    Keeps φ s (t.modEng g) := hg.trans h

/-! ### Parameters and operating states keep grid, sensors and runs -/

theorem store {id : Pid} {e : Nat} {v : Raw} (h : Keeps dialView s t) : Keeps dialView s (t.store id e v) := by
  unfold State.store
  split
  · exact h
  · refine .ite h (.ite h.updCell (.ite h.updCell (.ite h.updCell (.ite ?_ h.setRaw))))
    dsimp only
    split
    · exact h.modPar.modEng (congrArg (fun r => (gridView t.clk t.hw t.eng, sensorView t.clk t.hw t.eng, r)) (writeInactive_runs ..))
    · exact h.modPar

theorem hook {w : Write} (h : Keeps dialView s t) : Keeps dialView s (t.hook w) := by
  refine .ite h.modKern (.ite h.cmpWrite (.ite h.updCell (.ite h (.ite h.commit (.ite h.modArm (.ite h.updPort (.ite h.ocRefresh ?_)))))))
  refine .ite (.ite h.modTwin.startResync h) (.ite (.ite h.planSwap h) (.ite h (.ite h (.ite h.modHdg ?_))))
  refine .ite (.ite h.acqArm h.acqDisarm) (.ite h.modAcq (.ite h.condRestart (.ite (.ite h.modPeat h) (.ite (.ite h.modFio h) ?_))))
  exact .ite h.faultRelease (.ite (.ite h h) (.ite h (.ite h h)))

theorem applyWrite {w : Write} (h : Keeps dialView s t) : Keeps dialView s (t.applyWrite w) :=
  .ite (h.when fun _ h => h.modMeas).store.hook.audit.audit (h.when fun _ h => h.modMeas).store.hook.audit

theorem paramsDue (h : Keeps dialView s t) : Keeps dialView s t.paramsDue :=
  .ite h (.ite (h.modPar.forAll fun _ _ h => h.applyWrite).matrixActs.faultCheck.openReq (h.modPar.forAll fun _ _ h => h.applyWrite))

theorem applyRestart (h : Keeps dialView s t) : Keeps dialView s t.applyRestart := h.modPar.forAll fun _ _ h => h.applyWrite

theorem toStandby (h : Keeps dialView s t) : Keeps dialView s t.toStandby :=
  (h.endTest.modClk rfl).modLink.modNest.modTwin.mapCells.modSys.enter.lifeApply.openReq.publishSys

theorem shutEnd (h : Keeps dialView s t) : Keeps dialView s t.shutEnd := h.journalCommit.toStandby

theorem sliceStart (h : Keeps dialView s t) : Keeps dialView s t.sliceStart := by
  unfold State.sliceStart
  split
  · exact .ite h.modSys h.sliceSkip.shutEnd
  · exact h.shutEnd

theorem shutFrame (h : Keeps dialView s t) : Keeps dialView s t.shutFrame :=
  .ite h (.ite h.modSys (.ite h.modLink.modSys.shutEnd h.modLink.modSys.modSys.sliceStart))

theorem clockOutputs (h : Keeps dialView s t) : Keeps dialView s t.clockOutputs := h.modClk rfl

/-! ### Time steps and late commands keep sensors and runs -/

theorem stepTime {off : Int} {frac : Nat} (h : Keeps sensedView s t) : Keeps sensedView s (t.stepTime off frac) :=
  (h.audit.modClk rfl).rcSet.modMeas.mapCells

theorem takeStep (h : Keeps sensedView s t) : Keeps sensedView s t.takeStep := .ite (.ite h.stepTime (h.modClk rfl)) h
theorem toReady {w : Who} (h : Keeps sensedView s t) : Keeps sensedView s (t.toReady w) := h.openBooks.takeStep.enter.faultCheck

theorem startResyncIf {c : Prop} [Decidable c] {g : Twin → Twin} (h : Keeps sensedView s t) :
    Keeps sensedView s (if c then (t.modTwin g).startResync else t) := .ite h.modTwin.startResync h

theorem brambleReset {w : Who} (h : Keeps sensedView s t) : Keeps sensedView s (t.brambleReset w) :=
  .ite h.audit.modProt.mapCells.startResyncIf.toReady
    (h.audit.modProt.mapCells.startResyncIf.when fun _ h => h.forAll fun _ _ h => h.startRelease)

/-- A write that waited keeps sensors and runs. -/
theorem applyLate {w : Write} (h : Keeps sensedView s t) : Keeps sensedView s (t.applyWrite w) := h.trans (toSensed (applyWrite (refl t)))

theorem lateWrite {w : Write} (h : Keeps sensedView s t) : Keeps sensedView s (t.lateWrite w) := by
  refine .ite (.ite h.applyLate (.ite h.lateRefuse h.applyLate.brambleReset)) (.ite h.applyLate.modArm ?_)
  exact .ite h.lateRefuse (.ite h.applyLate h.applyLate.modArm.releaseAll)

theorem cmdDo {c : Nat × SRole × Nat × Nat} (h : Keeps sensedView s t) : Keeps sensedView s (t.cmdDo c) := by
  refine .ite ?_ (.ite (.ite h.toReady h.lateRefuse) (.ite h.lateRefuse h.activate))
  split
  · exact h.lateRefuse
  · exact h.enter.releaseAll

theorem hostDue (h : Keeps sensedView s t) : Keeps sensedView s t.hostDue :=
  (h.modPar.forAll fun _ _ h => h.lateWrite).forAll fun _ _ h => .ite h.lateRefuse h.cmdDo

theorem supMain (h : Keeps sensedView s t) : Keeps sensedView s t.supMain :=
  (h.when fun _ h => h.driftCompute).sampleConds.plannedSwap.hostDue.startRelink

theorem supPublish (h : Keeps sensedView s t) : Keeps sensedView s t.supPublish :=
  (h.trans (toSensed (clockOutputs (refl t)))).peatHealth.publishSup.snapBoundary

/-! ### Wake-up keeps the sensors -/

theorem loadImage {c : Content} {b : List Byte} {keep : Bool} (h : Keeps sensorView s t) : Keeps sensorView s (t.loadImage c b keep) := by
  unfold State.loadImage
  have hsec {d : Prop} [Decidable d] {p : Par → Par} {y : Sys → Sys} {a : Arm → Arm} {g : Hdg → Hdg} :
      Keeps sensorView s (if d then ((t.modSys y).modPar p).modArm a else (((t.modSys y).modPar p).modArm a).modHdg g) := .ite h h
  exact ((hsec.hdgValid.modEng rfl).modKern.trkLoad.modArm).ocRefresh.setReach

theorem noImage (h : Keeps sensorView s t) : Keeps sensorView s t.noImage := (h.modSys.modPar.modArm.modEng rfl).trkLoad

theorem passReady (h : Keeps sensorView s t) : Keeps sensorView s t.passReady := by
  have hrun := (h.record (finds := []) (retry := false)).trans (toSensors (toSensed (applyRestart (refl _))))
  have hready {u : State} {w : Who} (h : Keeps sensorView s u) : Keeps sensorView s (u.toReady w) := h.trans (toSensors (toReady (refl u)))
  exact (hready (.ite (hrun.modLink.modEng rfl).modTwin.mapCells.acqArm (hrun.modLink.modEng rfl).modTwin.mapCells)).publishSys

theorem validate {obs : WakeObs} (h : Keeps sensorView s t) : Keeps sensorView s (t.validate obs) := by
  have hid {u : State} {l : List Find} {v : State} (hv : Keeps sensorView s v) (heq : v.identity obs false = (u, l)) : Keeps sensorView s u := by
    simpa only [heq] using hv.identity (obs := obs) (again := false)
  unfold State.validate
  dsimp only
  split
  · split
    · split
      next heq => exact (hid h.modSys.loadImage.groupsApply.pwmRestart heq).passReady
      next heq => exact (hid h.modSys.loadImage.groupsApply.pwmRestart heq).toPending
    · refine toPending ?_
      exact .ite h.modSys.loadImage.groupsApply.pwmRestart (.ite h.modSys.noImage h.modSys.loadImage.groupsApply)
  · exact h.modSys.noImage.toPending

theorem wakeSeq {obs : WakeObs} (h : Keeps sensorView s t) : Keeps sensorView s (t.wakeSeq obs) :=
  (((h.modClk rfl).modSys.freshUnits.softRepair.scrubAtWake).validate).modClk rfl

theorem wakeUp {obs : WakeObs} (h : Keeps sensorView s t) : Keeps sensorView s (t.wakeUp obs) :=
  .ite (.ite h.modSys h.wakeSeq) (.ite h.modSys h)

/-! ### Publications and new runs keep the grid -/

theorem numericEv {l : List Nat} {inv : Bool} (h : Keeps gridView s t) : Keeps gridView s (t.numericEv l inv) :=
  (h.modEng rfl).when fun _ h => h.rcSet

theorem numericOf {r : Run} (h : Keeps gridView s t) : Keeps gridView s (t.numericOf r) := h.numericEv
theorem publishRun {g : Grp} {r : Run} (h : Keeps gridView s t) : Keeps gridView s (t.publishRun g r) := (h.modEng rfl).numericOf

theorem measureSpan {g : Grp} {v : Nat} (h : Keeps gridView s t) : Keeps gridView s (t.measureSpan g v) :=
  .ite (h.modEng rfl).rcSet.audit (h.modEng rfl)

theorem overrun {g : Grp} (h : Keeps gridView s t) : Keeps gridView s (t.overrun g) := by
  unfold State.overrun
  split
  · exact h
  · cases g with
    | frame => exact ((h.numericOf.modEng rfl).modEng rfl).rcSet
    | control => exact ((h.numericOf.modEng rfl).numericEv.modEng rfl).modKern.rcSet
    | supervisory => exact ((h.numericOf.modEng rfl).modEng rfl).rcSet.audit
    | background => exact h.numericOf.modEng rfl

theorem publishDue {g : Grp} {spans : List Nat} (h : Keeps gridView s t) : Keeps gridView s (t.publishDue g spans) := by
  unfold State.publishDue
  split
  · exact .ite h (.ite h.overrun.measureSpan h.publishRun.measureSpan)
  · exact h

theorem kernPublish (h : Keeps gridView s t) : Keeps gridView s t.kernPublish := by
  unfold State.kernPublish
  split
  · exact h
  · refine modKern (when (rcPublish (numericEv ?_)) fun _ h => h.syncDisarm)
    refine when (when (when (when (when ?_ ?_) ?_) ?_) ?_) fun _ h => h.setRaw
    · split
      · exact h.modKern.audit
      · exact h.modKern
    · exact fun _ h => h.rcSet.audit
    · exact fun _ h => h.rcSet.audit
    · exact fun _ h => h.rcSet
    · exact fun _ h => h.rcSet.audit

theorem publications {spans : List Nat} (h : Keeps gridView s t) : Keeps gridView s (t.publications spans) := by
  unfold State.publications
  refine when (when (publishDue (when ?_ fun _ h => h.kernPublish)) fun _ h => h.publishDue.modEng rfl) fun _ h => h.refTake
  exact (h.modEng rfl).publishDue.publishDue

theorem startRun {g : Grp} {bank : Bool} {knext : Option (KOut × KMode)} {due : Nat} (h : Keeps gridView s t) :
    Keeps gridView s (t.startRun g bank knext due) := h.modEng rfl

theorem frameOut (h : Keeps gridView s t) : Keeps gridView s t.frameOut := by
  unfold State.frameOut
  refine when (reedbed (selectAll (when ?_ fun _ h => h.levelIssue))) fun _ h => h.startRun
  exact h.armLatches

theorem frameWork {obs : EngObs} (h : Keeps gridView s t) : Keeps gridView s (t.frameWork obs) := by
  have hlatched {u : State} {arms : List (List (Nat × Bool × Int))} {c : Prop} [Decidable c] (hu : Keeps gridView s u) :
      Keeps gridView s (if c then u.ownLatch arms else u.frameLatch none) := .ite hu.ownLatch hu.frameLatch
  have hsent {u v : State} {arms : List (List (Nat × Bool × Int))} (hu : Keeps gridView s u) :
      Keeps gridView s ((((u.asSent v).frameSend).afterSent u).twinSend arms) := hu.asSent.frameSend.afterSent.twinSend
  have hout {u v : State} {c : Prop} [Decidable c] (hu : Keeps gridView s u) :
      Keeps gridView s (if c then u else (((u.asSent v).frameUp).afterSent u).frameOut) := .ite hu hu.asSent.frameUp.afterSent.frameOut
  unfold State.frameWork
  refine publishFrame (fieldOutputs (hout (hsent (hlatched (frameTake (when ?_ fun _ h => h.publications.ringsArrive))))))
  exact h.modEng rfl

theorem shutTwin (h : Keeps gridView s t) : Keeps gridView s t.twinFrame.shutFrame := h.twinFrame.trans (toGrid (shutFrame (refl _)))

theorem startsAndParams {b : Bool} (h : Keeps gridView s t) : Keeps gridView s (t.when b State.sampleStarts).paramsDue :=
  (h.when fun _ h => h.sampleStarts).trans (toGrid (paramsDue (refl _)))

end Keeps

end Sys2Proof.Machine
end

section
/-!
SUPPORT. The three boundaries of the grid, and the obligation about them.
-/
namespace Sys2Proof.Machine
open Sys2Proof

/-! ### Frame boundary -/

theorem latchLate_none_due {s : State} {apply : State → HostAct → State} {v : Option Vec} (hdue : s.twin.latchDue = 0) :
    s.latchLate apply v = s := by
  unfold State.latchLate
  simp [hdue]

/-- What a frame boundary does once the grid has advanced. -/
def frameRest (obs : EngObs) (s : State) : State :=
  let u := s.twinFrame.shutFrame
  let v := (u.when (u.isSup u.fr) State.sampleStarts).paramsDue
  if v.coreGo then v.frameWork obs else ((v.fieldLatch).fieldOutputs).publishFrame

theorem frameRest_grid (obs : EngObs) (s : State) : Keeps gridView s (frameRest obs s) :=
  have hdue := (Keeps.refl s).shutTwin.startsAndParams
  .ite hdue.frameWork hdue.fieldLatch.fieldOutputs.publishFrame

theorem frameBoundary_works {s : State} (obs : EngObs) (hup : s.up = true) (hdue : s.twin.latchDue = 0) :
    exec (.frameBoundary obs) s = .next (frameRest obs s.tick) := by
  show execFrameBoundary obs s = _
  unfold execFrameBoundary
  simp only [hup, latchLate_none_due hdue, Bool.not_true, Bool.false_eq_true, if_false]
  rfl

theorem frameBoundary_dormant {s : State} (obs : EngObs) (hup : s.up = false) : exec (.frameBoundary obs) s = .next s := by
  show execFrameBoundary obs s = _
  unfold execFrameBoundary
  simp only [hup, Bool.not_false, if_true]

/-! ### Runs that a boundary starts -/

theorem instExec_startF {s : State} {g : Grp} {t : F32} {bank : List Word} {knext : Option (KOut × KMode)} {prog : List Inst} {r : Run}
    {i : Nat} {x : Inst} : (s.instExec g t bank knext prog r i x).startF = r.startF := by
  simp only [State.instExec, apply_ite Run.startF, ite_self]

theorem runGroup_startF {s : State} {g : Grp} {t : F32} {bank : Bool} {knext : Option (KOut × KMode)} {f due : Nat} :
    (s.runGroup g t bank knext f due).startF = f := by
  unfold State.runGroup
  refine List.foldlRecOn (motive := fun r : Run => r.startF = f) _ _ rfl fun r hr p _ => ?_
  exact instExec_startF.trans hr

/-- A run started is the group's, of the present boundary. -/
theorem startRun_runs {s : State} {g : Grp} {bank : Bool} {knext : Option (KOut × KMode)} {due : Nat} (hg : g.ix < s.eng.runs.length) :
    ∃ r : Run, (s.startRun g bank knext due).eng.runs.getD g.ix none = some r ∧ r.startF = s.fr := by
  refine ⟨_, ?_, runGroup_startF (s := s) (g := g) (t := s.grpT g) (bank := bank) (knext := knext) (due := due)⟩
  simp [State.startRun, List.getD, hg]

/-- The run under way of the group with index `k` started at the present boundary. -/
def startedNow (s : State) (k : Nat) : Bool := (s.eng.runs.getD k none).any (fun r => r.startF == s.fr)

theorem startedNow_eq_false {s : State} {k : Nat} (hrun : ∀ r, s.eng.runs.getD k none = some r → r.startF ≠ s.fr) :
    startedNow s k = false := by
  unfold startedNow
  cases hr : s.eng.runs.getD k none with
  | none => rfl
  | some r => exact beq_false_of_ne (hrun r hr)

/-! ### Control boundary -/

theorem exec_controlBoundary (s : State) : exec .controlSampleBoundary s = .next (
    if !(s.coreGo && s.isCtl s.fr) || startedNow s 1 || s.twin.latchDue.testBit 1 then s
    else if s.twin.latchDue.testBit 0 then s.modTwin (fun t => { t with latchDue := t.latchDue + 2 })
    else s.controlWork) := by
  show execControlSampleBoundary s = _
  unfold execControlSampleBoundary startedNow
  cases s.eng.runs.getD 1 none with
  | none => rfl
  | some r => rfl

theorem controlBoundary_off {s : State} (hctl : s.isCtl s.fr = false) : exec .controlSampleBoundary s = .next s := by
  simp [exec_controlBoundary, hctl]

section
variable {s : State} (hgo : s.coreGo = true) (hctl : s.isCtl s.fr = true)
  (hrun : ∀ r, s.eng.runs.getD 1 none = some r → r.startF ≠ s.fr)
include hgo hctl hrun

theorem controlBoundary_waits (hdue : s.twin.latchDue = 1) :
    exec .controlSampleBoundary s = .next { s with twin := { s.twin with latchDue := 3 } } := by
  simp [exec_controlBoundary, hgo, hctl, startedNow_eq_false hrun, hdue, State.modTwin, show Nat.testBit 1 1 = false from rfl]

theorem controlBoundary_works (hdue : s.twin.latchDue = 0) : exec .controlSampleBoundary s = .next s.controlWork := by
  simp [exec_controlBoundary, hgo, hctl, startedNow_eq_false hrun, hdue]

end

theorem Keeps.clk_eq {s t : State} (h : Keeps engineView s t) : t.clk = s.clk := congrArg Prod.fst h

theorem Keeps.eng_eq {s t : State} (h : Keeps engineView s t) : t.eng = s.eng := congrArg Prod.snd h

/-- The exchange of banks touches nothing of clock and engine but the bank in force and the swap's due time. -/
theorem bankExchange_engineView (s : State) :
    Keeps engineView (s.modEng (fun e => { e with
      actB := if s.swapDue s.fr then !e.actB else e.actB, swapAt := if s.swapDue s.fr then none else e.swapAt })) s.bankExchange := by
  unfold State.bankExchange
  split
  · exact Keeps.audit (Keeps.modPar (.refl _))
  · exact .refl s

theorem bankExchange_engOn (s : State) : s.bankExchange.engOn = s.engOn := by
  unfold State.bankExchange
  split <;> rfl

theorem bankExchange_fr (s : State) : s.bankExchange.fr = s.fr := congrArg Clk.frame (bankExchange_engineView s).clk_eq

theorem bankExchange_runs (s : State) : s.bankExchange.eng.runs = s.eng.runs := by
  rw [(bankExchange_engineView s).eng_eq, modEng_eng]

/-- What a control boundary does to the engine: the exchange of banks, and with the engine on a run of the control group (R97, R119). -/
def ctlStarted (s : State) : State :=
  if s.bankExchange.engOn then
    let u := s.bankExchange.kernStart
    u.startRun .control u.eng.actB (u.kern.next.map (fun n => (n.out, n.core.mode))) (u.fr + u.dc)
  else s.bankExchange

theorem controlWork_engineView (s : State) : Keeps engineView (ctlStarted s) s.controlWork :=
  (Keeps.refl (ctlStarted s)).sampleConds.digestForm.resyncControl.ringsControl

theorem kernStart_engineView (s : State) : Keeps engineView s s.kernStart := (Keeps.refl s).kernStart

/-- The banks of the engine, the one in force and the exchange that is due. -/
def bankView (c : Clk) (_ : Hw) (e : Eng) : Clk × Bool × Option Nat × List Word × List Word := (c, e.actB, e.swapAt, e.bankA, e.bankB)

theorem Keeps.toBanks {s t : State} (h : Keeps engineView s t) : Keeps bankView s t := congrArg (fun p : Clk × Eng => bankView p.1 s.hw p.2) h

theorem ctlStarted_bankView (s : State) : Keeps bankView s.bankExchange (ctlStarted s) :=
  .ite ((kernStart_engineView _).toBanks.modEng rfl) (.refl _)

theorem ctlStarted_run {s : State} (hon : s.engOn = true) (hlen : s.eng.runs.length = 4) :
    ∃ r : Run, (ctlStarted s).eng.runs.getD 1 none = some r ∧ r.startF = s.fr := by
  have hk := kernStart_engineView s.bankExchange
  have hruns : s.bankExchange.kernStart.eng.runs = s.eng.runs := (congrArg Eng.runs hk.eng_eq).trans (bankExchange_runs s)
  have hfr : s.bankExchange.kernStart.fr = s.fr := (congrArg Clk.frame hk.clk_eq).trans (bankExchange_fr s)
  unfold ctlStarted
  rw [bankExchange_engOn, hon, if_pos rfl, ← hfr]
  exact startRun_runs (g := .control) (hruns ▸ hlen ▸ (by decide : 1 < 4))

/-- The control boundary with nothing outstanding: the exchange of banks where it is due, and the control group's run of this boundary. -/
theorem controlWork_spec (s : State) (hlen : s.eng.runs.length = 4) :
    s.controlWork.clk = s.clk ∧ s.controlWork.eng.actB = (if s.swapDue s.fr then !s.eng.actB else s.eng.actB) ∧
    s.controlWork.eng.swapAt = (if s.swapDue s.fr then none else s.eng.swapAt) ∧ s.controlWork.eng.bankA = s.eng.bankA ∧
    s.controlWork.eng.bankB = s.eng.bankB ∧
    (s.engOn = true → ∃ r : Run, s.controlWork.eng.runs.getD 1 none = some r ∧ r.startF = s.fr) := by
  have hwork := controlWork_engineView s
  have hbanks := (bankExchange_engineView s).toBanks.trans ((ctlStarted_bankView s).trans hwork.toBanks)
  simp only [Keeps, bankView, Prod.mk.injEq] at hbanks
  obtain ⟨hclk, hactB, hswapAt, hbankA, hbankB⟩ := hbanks
  refine ⟨hclk, hactB, hswapAt, hbankA, hbankB, fun hon => ?_⟩
  rw [hwork.eng_eq]
  exact ctlStarted_run hon hlen

/-! ### Supervisory boundary -/

/-- The boundary once the sensors are taken, where CORE does not work: late requests, publication, and a wake-up that waited. -/
def supIdle (obs : WakeObs) (s : State) : State :=
  let u := s.hostDue.supPublish
  if u.sys.st == .standby && (u.sys.activ || u.sys.wakeWait) then u.wakeUp obs else u

/-- The supervisory work, or the note that it waits for the latch of a frame. -/
def supStarted (s : State) : State :=
  if s.twin.latchDue.testBit 0 then s.modTwin (fun t => { t with latchDue := t.latchDue + 4 }) else s.supWork

/-- What follows the supervisory work. -/
def supRest (loops : List (Nat × Nat)) (s : State) : State :=
  (((s.reconcile).creditsReconcile).rangingCheck loops).poolReentry.supCounts.supPublish

theorem exec_supervisoryBoundary (s : State) (sens : Sensors) : exec (.supervisorySampleBoundary sens) s = .next (
    if !(s.up && s.isSup s.fr) || startedNow s 2 || s.twin.latchDue.testBit 2 then s
    else if !(s.takeSensors sens).coreGo then supIdle sens.wake (s.takeSensors sens)
    else supRest sens.loops (supStarted (s.takeSensors sens))) := by
  show execSupervisorySampleBoundary sens s = _
  unfold execSupervisorySampleBoundary startedNow
  cases s.eng.runs.getD 2 none with
  | none => rfl
  | some r => rfl

theorem supervisoryBoundary_off {s : State} {sens : Sensors} (hsup : s.isSup s.fr = false) :
    exec (.supervisorySampleBoundary sens) s = .next s := by
  simp [exec_supervisoryBoundary, hsup]

theorem supIdle_sensors (s : State) (obs : WakeObs) : Keeps sensorView s (supIdle obs s) :=
  have hpub : Keeps sensorView s s.hostDue.supPublish := (Keeps.refl s).hostDue.supPublish.toSensors
  .ite hpub.wakeUp hpub

theorem supRest_sensed (loops : List (Nat × Nat)) (s : State) : Keeps sensedView s (supRest loops s) :=
  (Keeps.refl s).reconcile.creditsReconcile.rangingCheck.poolReentry.supCounts.supPublish

theorem supWork_sensed (s : State) :
    Keeps sensedView (s.when s.engOn (fun s => s.startRun .supervisory (s.bankAt s.fr) none (s.fr + s.fpms))) s.supWork := by
  unfold State.supWork
  exact (Keeps.refl (s.when s.engOn _)).supMain

theorem supWork_sensors (s : State) : Keeps sensorView s s.supWork := by
  refine Keeps.trans (Keeps.when (.refl s) fun _ h => ?_) (supWork_sensed s).toSensors
  exact h.modEng rfl

theorem Keeps.runs_eq {s t : State} (h : Keeps sensedView s t) : t.eng.runs = s.eng.runs := congrArg Prod.snd h

theorem supWork_run {s : State} (hon : s.engOn = true) (hlen : s.eng.runs.length = 4) :
    ∃ r : Run, s.supWork.eng.runs.getD 2 none = some r ∧ r.startF = s.fr := by
  have hix : Grp.supervisory.ix < s.eng.runs.length := hlen ▸ (by decide : 2 < 4)
  have hruns := (supWork_sensed s).runs_eq
  rw [hon, when_true] at hruns
  obtain ⟨r, hr, hstart⟩ := startRun_runs (s := s) (bank := s.bankAt s.fr) (knext := none) (due := s.fr + s.fpms) hix
  exact ⟨r, hruns.symm ▸ hr, hstart⟩

theorem supStarted_sensors (s : State) : Keeps sensorView s (supStarted s) := .ite (Keeps.refl s).modTwin (supWork_sensors s)

theorem supStarted_run {s : State} (hon : s.engOn = true) (hlen : s.eng.runs.length = 4) (hdue : s.twin.latchDue = 0) :
    ∃ r : Run, (supStarted s).eng.runs.getD 2 none = some r ∧ r.startF = s.fr := by
  unfold supStarted
  rw [hdue, Nat.zero_testBit, if_neg Bool.false_ne_true]
  exact supWork_run hon hlen

/-- The supervisory boundary ends with the sensors it took, and with CORE at work, the engine on and nothing outstanding with the
supervisory group's run of this boundary (R27, R97). -/
theorem supervisoryBoundary_works {s : State} {sens : Sensors} (hup : s.up = true) (hsup : s.isSup s.fr = true)
    (hrun : ∀ r, s.eng.runs.getD 2 none = some r → r.startF ≠ s.fr) (hlen : s.eng.runs.length = 4)
    (hdue : s.twin.latchDue.testBit 2 = false) :
    ∃ t, exec (.supervisorySampleBoundary sens) s = .next t ∧ Keeps sensorView (s.takeSensors sens) t ∧
      (s.coreGo = true → s.engOn = true → s.twin.latchDue = 0 → ∃ r : Run, t.eng.runs.getD 2 none = some r ∧ r.startF = s.fr) := by
  rw [exec_supervisoryBoundary]
  simp only [hup, hsup, startedNow_eq_false hrun, hdue, Bool.and_self, Bool.not_true, Bool.or_self, Bool.false_eq_true, if_false]
  refine ⟨_, rfl, ?_⟩
  cases hgo : (s.takeSensors sens).coreGo with
  | false => exact ⟨supIdle_sensors _ _, fun hcore => absurd (hgo.symm.trans hcore) Bool.false_ne_true⟩
  | true =>
    have hrest := supRest_sensed sens.loops (supStarted (s.takeSensors sens))
    refine ⟨(supStarted_sensors _).trans hrest.toSensors, fun _ hon hnone => ?_⟩
    obtain ⟨r, hr, hstart⟩ := supStarted_run (s := s.takeSensors sens) hon hlen hnone
    exact ⟨r, hrest.runs_eq.symm ▸ hr, hstart⟩

/-- Settles O60: each boundary's state is the grid, the bank exchange and run, or the sensors and run, that the rest of its work keeps. -/
theorem boundariesAdvanceTheGrid : Obligations.BoundariesAdvanceTheGrid := by
  intro s
  refine ⟨fun obs hup hdue => ?_, fun obs hup => frameBoundary_dormant obs hup, fun hgo hctl hrun hlen => ⟨controlBoundary_waits hgo hctl hrun,
    fun hdue => ⟨s.controlWork, controlBoundary_works hgo hctl hrun hdue, controlWork_spec s hlen⟩⟩, controlBoundary_off,
    fun sens hup hsup hrun hlen hdue => ?_, fun sens hsup => supervisoryBoundary_off hsup⟩
  · have hgrid := frameRest_grid obs s.tick
    simp only [Keeps, gridView, Prod.mk.injEq] at hgrid
    obtain ⟨hframe, htai, hfrac⟩ := hgrid
    exact ⟨_, frameBoundary_works obs hup hdue, hframe, htai, hfrac⟩
  · obtain ⟨t, hexec, hsens, hstart⟩ := supervisoryBoundary_works hup hsup hrun hlen hdue
    simp only [Keeps, sensorView, Prod.mk.injEq] at hsens
    obtain ⟨hvbat, hv24, htemps⟩ := hsens
    exact ⟨t, hexec, hvbat, hv24, htemps, hstart⟩

end Sys2Proof.Machine
end

section
/-!
SUPPORT. Events at one sigma-delta input, one sampled-value stream and one tracker (R58 to R62, R64, R79): what each makes of its unit, and
the obligations about them.
-/
namespace Sys2Proof.Machine
open Sys2Proof

/-! ### A decimator of order 1 (R58) -/

/-- The bits through one integrator add their sum to it. -/
theorem foldl_sincStep_singleton (bits : List Bool) (i : Int) :
    bits.foldl (fun l b => sincStep l (if b then 1 else -1)) [i] = [i + (bits.map (fun b => if b then 1 else -1)).sum] := by
  induction bits generalizing i with
  | nil => simp
  | cons b bits ih =>
    rw [List.foldl_cons, sincStep, sincStep, ih, List.map_cons, List.sum_cons, Int.add_assoc]

/-- At order 1 the comb delay becomes the integrator's value, and the output is their difference over `D` (R58, R59). -/
theorem sdOut_order_one {s : State} {k : Nat} {x : SdIn} {i c : Int} (bits : List Bool) (age : Nat) (hord : s.pn gMEA 41 k = 1)
    (hint : x.integ = [i]) (hcomb : x.comb = [c]) :
    (s.sdOut k bits age x).integ = [i + (bits.map (fun b => if b then 1 else -1)).sum] ∧
      (s.sdOut k bits age x).comb = (s.sdOut k bits age x).integ ∧
      (s.sdOut k bits age x).y = fOfQ (i + (bits.map (fun b => if b then 1 else -1)).sum - c) (s.pn gMEA 42 k) := by
  simp only [State.sdOut, hord, hint, hcomb, List.length_singleton, beq_self_eq_true, if_true, foldl_sincStep_singleton, combStep,
    List.getLastD_cons, List.getLastD_nil, Nat.pow_one, and_self]

/-! ### Events at one sigma-delta input (R60 to R62) -/

section
variable {s : State} {k : Nat} {x : SdIn} (hawake : s.awake = true) (hk : k < 8) (hx : s.meas.sd[k]? = some x)
include hawake hk

theorem exec_sdFault_on (hon : s.pb gMEA 40 k = true) :
    exec (.sdFault k) s =
      .next (s.modMeas (fun m => { m with sd := m.sd.modify k (fun x => { x with fault := true, settle := s.sdReturn k }) })) := by
  show execSdFault k s = _
  simp only [execSdFault, hawake, hk, hon, decide_true, Bool.and_self, if_true]

include hx

theorem exec_sigmaDeltaOutput_due {bits : List Bool} {age : Nat} (hon : s.pb gMEA 40 k = true) (hclk : s.pb gMEA 46 = true)
    (hdue : s.sdDue k bits age x = true) :
    exec (.sigmaDeltaOutput k bits age) s = .next (s.modMeas (fun m => { m with sd := m.sd.modify k (s.sdOut k bits age) })) := by
  show execSigmaDeltaOutput k bits age s = _
  simp only [execSigmaDeltaOutput, getD_of_some _ _ _ _ hx, hawake, hk, hon, hclk, hdue, decide_true, Bool.and_self, if_true]

theorem exec_sdValidityReturn_settled (hfault : x.fault = true) (hsettle : x.settle = 0) :
    exec (.sdValidityReturn k) s = .next (s.modMeas (fun m => { m with sd := m.sd.modify k (fun x => { x with fault := false }) })) := by
  show execSdValidityReturn k s = _
  simp only [execSdValidityReturn, getD_of_some _ _ _ _ hx, hawake, hk, hfault, hsettle, decide_true, beq_self_eq_true, Bool.and_self, if_true]

end

/-- An input with SD_FAULT delivers no valid value (R62). -/
theorem sdValid_of_fault {s : State} {k : Nat} {x : SdIn} (h : x.fault = true) : s.sdValid k x = false := by
  simp only [State.sdValid, h, Bool.not_true, Bool.false_and]

/-- Settles O8: each event is a change of the one input; at order 1 the bits add up in its integrator. -/
theorem sigmaDeltaInputEvents : Obligations.SigmaDeltaInputEvents := by
  intro s k x hawake hk hon hclk hx
  refine ⟨fun bits age hdue => ?output, ?fault, fun hfault hsettle => ?validity⟩
  case output =>
    exact ⟨_, _, exec_sigmaDeltaOutput_due hawake hk hx hon hclk hdue, rfl, onlyAt_modify _ _ _, modify_at _ _ _ _ hx, rfl,
      fun _ _ hord hint hcomb => sdOut_order_one bits age hord hint hcomb⟩
  case fault =>
    exact ⟨_, _, exec_sdFault_on hawake hk hon, rfl, onlyAt_modify _ _ _, modify_at _ _ _ _ hx, rfl, sdValid_of_fault rfl⟩
  case validity =>
    exact ⟨_, _, exec_sdValidityReturn_settled hawake hk hx hfault hsettle, rfl, onlyAt_modify _ _ _, modify_at _ _ _ _ hx, rfl⟩

/-! ### The samples of a message (R64, R69) -/

theorem mem_svPut {x p : Int × SvSample × Nat} {l : List (Int × SvSample × Nat)} : p ∈ svPut x l ↔ p = x ∨ p ∈ l := by
  induction l with
  | nil => simp [svPut]
  | cons q l ih =>
    unfold svPut
    split
    · exact List.mem_cons
    · rw [List.mem_cons, ih, List.mem_cons, or_left_comm]

/-- A stream with one more sample of a message with this `smpSynch`, unless its instant has been resampled (R69). -/
def State.svSample (s : State) (k synch : Nat) (v : SvIn) (a : SvSample) : SvIn :=
  if s.svTime k a.cnt ≤ v.lastT then v else { v with buf := svPut (s.svTime k a.cnt, a, synch) v.buf }

/-- `w` is stream `v` with nothing changed but that its buffer may hold more samples. -/
def SvIn.Fuller (v w : SvIn) : Prop := w = { v with buf := w.buf } ∧ ∀ p ∈ v.buf, p ∈ w.buf

theorem SvIn.Fuller.refl (v : SvIn) : v.Fuller v := ⟨rfl, fun _ h => h⟩

theorem SvIn.Fuller.trans {u v w : SvIn} (h : u.Fuller v) (k : v.Fuller w) : u.Fuller w :=
  ⟨by rw [k.1, h.1], fun p hp => k.2 p (h.2 p hp)⟩

theorem SvIn.Fuller.lastT {v w : SvIn} (h : v.Fuller w) : w.lastT = v.lastT := by rw [h.1]

section
variable (s : State) (k synch : Nat)

theorem svSample_fuller (v : SvIn) (a : SvSample) : v.Fuller (s.svSample k synch v a) := by
  unfold State.svSample
  split
  · exact .refl v
  · exact ⟨rfl, fun _ hp => mem_svPut.mpr (.inr hp)⟩

theorem svSample_mem {v : SvIn} {a : SvSample} (h : v.lastT < s.svTime k a.cnt) :
    (s.svTime k a.cnt, a, synch) ∈ (s.svSample k synch v a).buf := by
  rw [State.svSample, if_neg (Int.not_le.mpr h)]
  exact mem_svPut.mpr (.inl rfl)

theorem svSamples_fuller (l : List SvSample) (v : SvIn) : v.Fuller (l.foldl (s.svSample k synch) v) := by
  induction l generalizing v with
  | nil => exact .refl v
  | cons a l ih => exact (svSample_fuller s k synch v a).trans (ih _)

/-- Each sample whose instant lies after the one last resampled is in the buffer. -/
theorem svSamples_mem {l : List SvSample} {v : SvIn} {a : SvSample} (ha : a ∈ l) (h : v.lastT < s.svTime k a.cnt) :
    (s.svTime k a.cnt, a, synch) ∈ (l.foldl (s.svSample k synch) v).buf := by
  induction l generalizing v with
  | nil => cases ha
  | cons b l ih =>
    rcases List.mem_cons.mp ha with rfl | hl
    · exact (svSamples_fuller s k synch l _).2 _ (svSample_mem s k synch h)
    · exact ih hl ((svSample_fuller s k synch v b).lastT.symm ▸ h)

end

/-! ### What a stream makes of a message (R64) -/

section
variable {s : State} {k : Nat} {m : SvMessage}

theorem svMatch_iff : s.svMatch k m = true ↔ s.pb gMEA 80 k = true ∧ s.pn gMEA 81 k = m.mac ∧ s.pn gMEA 82 k = m.appid ∧
    (s.pn gMEA 88 k = 2 ∨ m.portE2 = decide (s.pn gMEA 88 k = 1)) := by
  simp only [State.svMatch, Bool.and_eq_true, Bool.or_eq_true, beq_iff_eq, and_assoc, eq_comm (b := m.portE2)]
  rfl

/-- A stream that is disabled, or differs in MAC, APPID or port, does not match. -/
theorem svMatch_eq_false (h : s.pb gMEA 80 k = false ∨ s.pn gMEA 81 k ≠ m.mac ∨ s.pn gMEA 82 k ≠ m.appid ∨
    (s.pn gMEA 88 k ≠ 2 ∧ m.portE2 = !decide (s.pn gMEA 88 k = 1))) : s.svMatch k m = false := by
  rw [Bool.eq_false_iff]
  intro hm
  obtain ⟨hon, hmac, happ, hport⟩ := svMatch_iff.mp hm
  rcases h with h | h | h | ⟨hne, hside⟩
  · exact Bool.false_ne_true (h.symm.trans hon)
  · exact h hmac
  · exact h happ
  · exact hport.elim hne (fun h => (Bool.not_eq_self _).mp (hside.symm.trans h))

theorem svTake_other (v : SvIn) (h : s.svMatch k m = false) : s.svTake k m v = v := by
  simp only [State.svTake, h, Bool.not_false, if_true]

theorem svTake_misRev (v : SvIn) (h : s.svMatch k m = true) (hrev : s.pn gMEA 83 k ≠ m.confRev) :
    s.svTake k m v = { v with misRev := wrap32 (v.misRev + 1) } := by
  simp only [State.svTake, h, bne_iff_ne.mpr hrev, Bool.not_true, Bool.false_eq_true, if_false, if_true]

theorem svTake_samples (v : SvIn) (h : s.svMatch k m = true) (hrev : s.pn gMEA 83 k = m.confRev)
    (hlen : m.asdus.length = (if s.pn gMEA 84 k = 0 then 1 else 8)) : s.svTake k m v = m.asdus.foldl (s.svSample k m.synch) v := by
  simp only [State.svTake, h, hrev, hlen, beq_iff_eq, bne_self_eq_false, Bool.not_true, Bool.false_eq_true, if_false]
  rfl

end

theorem exec_sampledValueMessage_awake {s : State} (m : SvMessage) (hawake : s.awake = true) :
    exec (.sampledValueMessage m) s = .next (s.modMeas (fun x => { x with sv := x.sv.mapIdx (fun k v => s.svTake k m v) })) := by
  show execSampledValueMessage m s = _
  simp only [execSampledValueMessage, hawake, if_true]

/-- Settles O9: each stream goes through `svTake`, which leaves it, counts a mismatch or folds the samples in. -/
theorem sampledValueMessageAccepted : Obligations.SampledValueMessageAccepted := by
  intro s m hawake
  refine ⟨_, exec_sampledValueMessage_awake m hawake, rfl, List.length_mapIdx, fun k v hv => ⟨s.svTake k m v, ?_, ?_, ?_⟩⟩
  · simp [hv]
  · exact fun h => svTake_other v (svMatch_eq_false h)
  · intro hon hmac happ hport
    have hmatch : s.svMatch k m = true := svMatch_iff.mpr ⟨hon, hmac, happ, hport⟩
    refine ⟨svTake_misRev v hmatch, fun hrev hlen => ?_⟩
    rw [svTake_samples v hmatch hrev hlen]
    obtain ⟨hframe, hkept⟩ := svSamples_fuller s k m.synch m.asdus v
    exact ⟨hframe, hkept, fun a ha => svSamples_mem s k m.synch ha⟩

/-! ### A crossing timeout (R79) -/

/-- A tracker whose crossings have timed out at `now`: no interval, no frequency, not VALID. -/
def Trk.timedOut (x : Trk) (now : Nat) : Trk :=
  { x with ivs := [], inSense := 0, lastX := none, sinceX := now, set := { x.set with valid := false, freq := 0 } }

theorem exec_crossingTimeout_due {s : State} {k : Nat} {x : Trk} (hon : s.engOn = true) (hk : k < 4) (htrk : s.pb gANG 1 k = true)
    (hx : s.trk[k]? = some x) (hdue : x.sinceX + s.pn gANG 9 k ≤ s.now) :
    exec (.crossingTimeout k) s = .next ((s.updTrk k (fun x => x.timedOut s.now)).rcSet 44 k 4) := by
  have hx' : s.tracker k = x := getD_of_some _ _ _ _ hx
  have hdue' : x.sinceX + s.pn gANG 9 k ≤ s.clk.tai := hdue
  show execCrossingTimeout k s = _
  simp only [execCrossingTimeout, State.trkTimeout, State.trkOn, hx', hon, hk, htrk, hdue', decide_true, Bool.and_self, if_true]
  rfl

/-- Settles O10: the tracker times out and its TIMEOUT bit is set. -/
theorem trackerCrossingTimeout : Obligations.TrackerCrossingTimeout := by
  intro s k x hon hk htrk hx hdue
  exact ⟨_, x.timedOut s.now, exec_crossingTimeout_due hon hk htrk hx hdue, rfl, rfl, rcBit_rcSet _ 44 k 4 (by decide),
    onlyAt_modify _ _ _, modify_at _ _ _ _ hx, rfl, rfl, rfl, rfl, rfl⟩

end Sys2Proof.Machine
end

section
/-!
SUPPORT. A completed analog conversion (R47 to R56, R310): what its input takes, what the recorder and the fast comparators may change after
it, and the obligation about it.
-/
namespace Sys2Proof.Machine
open Sys2Proof

/-! ### After the sample has been taken -/

/-- `t` is `s` but for the recorder, protection, the Crihel link and sticky bits other than those of DIA.010. -/
def BesideInputs (s t : State) : Prop :=
  ∃ acq prot link ev, t = { s with acq := acq, prot := prot, link := link, pub := { s.pub with ev := ev } } ∧
    evGet ev 10 0 = evGet s.pub.ev 10 0

namespace BesideInputs
variable {s t u : State}

theorem refl (s : State) : BesideInputs s s := ⟨_, _, _, _, rfl, rfl⟩

theorem trans (h : BesideInputs s t) (k : BesideInputs t u) : BesideInputs s u := by
  obtain ⟨_, _, _, _, rfl, hst⟩ := h
  obtain ⟨_, _, _, _, rfl, htu⟩ := k
  exact ⟨_, _, _, _, rfl, htu.trans hst⟩

theorem ite {c : Prop} [Decidable c] (h : BesideInputs s t) (k : BesideInputs s u) : BesideInputs s (if c then t else u) := by
  split
  · exact h
  · exact k

theorem forAll {α : Type} {l : List α} {f : State → α → State} (h : BesideInputs s t) (hf : ∀ v a, BesideInputs v (f v a)) :
    BesideInputs s (forAll l f t) := forAll_invariant h (fun v a hv => hv.trans (hf v a))

end BesideInputs

theorem besideInputs_modProt (s : State) (g : Prot → Prot) : BesideInputs s (s.modProt g) := ⟨_, _, _, _, rfl, rfl⟩
theorem besideInputs_modLink (s : State) (g : Link → Link) : BesideInputs s (s.modLink g) := ⟨_, _, _, _, rfl, rfl⟩

theorem besideInputs_rcSet (s : State) {d : Nat} (e k : Nat) (hd : d ≠ 10) : BesideInputs s (s.rcSet d e k) :=
  ⟨_, _, _, _, rfl, evGet_evPut_ne _ _ _ _ _ _ (fun h => hd h.1.symm)⟩

theorem besideInputs_rawSample (s : State) (i : Nat) (c : Int) : BesideInputs s (s.rawSample i c) := ⟨_, _, _, _, rfl, rfl⟩

/-- The fast comparators of an input bear on protection alone (R310). -/
theorem besideInputs_ocSample (s : State) (i : Nat) (odd : Bool) (c : Int) : BesideInputs s (s.ocSample i odd c) := by
  unfold State.ocSample
  exact (BesideInputs.refl s).forAll fun v a => (besideInputs_modProt v _).trans (besideInputs_modProt _ _)

/-- BLOCK_ALL bears on its port, the frames under way and DIA.120 (R247). -/
theorem besideInputs_sendBlockAll (s : State) (t p : Nat) : BesideInputs s (State.sendBlockAll t s p) :=
  .ite (((besideInputs_modLink s _).trans (besideInputs_modLink _ _)).trans (besideInputs_rcSet _ _ _ (by decide))) (.refl s)

/-! ### The sample in its input (R48, R53, R56) -/

/-- The input that takes a code, of its odd converter or not, sampled at `at_` (R48, R53, R54). -/
def AIn.sampled (x : AIn) (at_ : Nat) (odd : Bool) (c : Int) : AIn :=
  { x with acc := (at_, odd, c) :: x.acc, odd := odd, code := c, stamp := at_, live := true }

/-- The sample of converter `k` joins its input, and a code at either end of the range sets OVR (R53, R56). -/
def State.sampleTaken (s : State) (k : Nat) (smp : Sample) : State :=
  (s.modMeas (fun m => { m with
    ai := m.ai.modify (s.aiOf k) (fun x => x.sampled smp.at_ (s.pairOdd k) (satCode smp.code)) })).when
    (codeEnd (satCode smp.code)) (fun t => t.rcSet 10 0 (s.aiOf k))

theorem convert_besideInputs (s : State) (k : Nat) (smp : Sample) : BesideInputs (s.sampleTaken k smp) (s.convert k smp) :=
  .trans (.ite (besideInputs_rawSample _ _ _) (.refl _)) (besideInputs_ocSample _ _ _ _)

theorem convertFast_besideInputs (s : State) (k : Nat) (smp : Sample) : BesideInputs (s.sampleTaken k smp) (s.convertFast k smp) :=
  (convert_besideInputs s k smp).forAll fun v _ =>
    .ite ((besideInputs_modProt v _).forAll fun u p => besideInputs_sendBlockAll u _ p) (besideInputs_modProt v _)

theorem satCode_of_inRange {c : Int} (hlo : -32768 ≤ c) (hhi : c ≤ 32767) : satCode c = c := by
  unfold satCode
  omega

theorem codeEnd_iff {c : Int} : codeEnd c = true ↔ c = -32768 ∨ c = 32767 := by
  simp only [codeEnd, Bool.or_eq_true, beq_iff_eq]

/-- A converter that converts delivers to one of the 24 inputs (R51). -/
theorem aiOf_lt {s : State} {k : Nat} (h : s.aiOn k = true) : s.aiOf k < 24 := by
  simp only [State.aiOn, Bool.and_eq_true, decide_eq_true_eq] at h
  unfold State.aiOf
  split <;> omega

section
variable (s : State) (k : Nat) (smp : Sample)

@[simp] theorem sampleTaken_meas : (s.sampleTaken k smp).meas = { s.meas with
    ai := s.meas.ai.modify (s.aiOf k) (fun x => x.sampled smp.at_ (s.pairOdd k) (satCode smp.code)) } := by
  unfold State.sampleTaken State.when
  split <;> rfl

theorem sampleTaken_frame : s.sampleTaken k smp = { s with meas := (s.sampleTaken k smp).meas, pub := (s.sampleTaken k smp).pub } := by
  unfold State.sampleTaken State.when
  split <;> rfl

variable {s k smp}

/-- A code at either end of the range sets OVR of the input (R56). -/
theorem sampleTaken_end (hon : s.aiOn k = true) (h : codeEnd (satCode smp.code) = true) :
    (s.sampleTaken k smp).rcBit 10 0 (s.aiOf k) = true := by
  rw [State.sampleTaken, h, when_true]
  exact rcBit_rcSet _ _ _ _ (Nat.lt_trans (aiOf_lt hon) (by decide))

theorem sampleTaken_inner (h : codeEnd (satCode smp.code) = false) : (s.sampleTaken k smp).pub = s.pub := by
  rw [State.sampleTaken, h, when_false, modMeas_pub]

end

theorem exec_analogConversionComplete_due {s : State} {k : Nat} {smp : Sample} (hawake : s.awake = true) (hon : s.aiOn k = true)
    (hdue : s.convDue k smp = true) : exec (.analogConversionComplete k smp) s = .next (s.convertFast k smp) := by
  show execAnalogConversionComplete k smp s = _
  simp only [execAnalogConversionComplete, hawake, hon, hdue, Bool.and_self, if_true]

/-- Settles O7: the sample joins its input and sets OVR at an end of the range; what follows keeps the inputs and DIA.010. -/
theorem analogConversionTaken : Obligations.AnalogConversionTaken := by
  intro s k smp x hawake hon hlo hhi hx hdue
  obtain ⟨acq, prot, link, ev, hbeside, hovr⟩ := convertFast_besideInputs s k smp
  have hsat : satCode smp.code = smp.code := satCode_of_inRange hlo hhi
  have hmeas : (s.convertFast k smp).meas = { s.meas with
      ai := s.meas.ai.modify (s.aiOf k) (fun x => x.sampled smp.at_ (s.pairOdd k) smp.code) } := by
    rw [hbeside, sampleTaken_meas, hsat]
  have hev : evGet (s.convertFast k smp).pub.ev 10 0 = evGet (s.sampleTaken k smp).pub.ev 10 0 := by rw [hbeside]; exact hovr
  refine ⟨_, exec_analogConversionComplete_due hawake hon hdue, ?frame, ?meas, ?others, ?input, fun hend => ?ovr, fun hbot htop => ?noOvr⟩
  case frame => rw [hbeside, sampleTaken_frame]
  case meas => rw [hmeas]
  case others => rw [hmeas]; exact onlyAt_modify _ _ _
  case input => rw [hmeas]; exact modify_at _ _ _ _ hx
  case ovr =>
    have hbit := sampleTaken_end (smp := smp) hon (by rw [hsat]; exact codeEnd_iff.mpr hend)
    rw [State.rcBit] at hbit ⊢
    rw [hev, hbit]
  case noOvr =>
    have hinner : codeEnd (satCode smp.code) = false := by
      rw [hsat, Bool.eq_false_iff, ne_eq, codeEnd_iff]
      exact fun h => h.elim hbot htop
    rw [hev, sampleTaken_inner hinner]

end Sys2Proof.Machine
end

section
/-!
SUPPORT. The kernel's own steps (R149, R150, R156, R159, R160): one sample ends in the mode it was run in, a transition taken by a step of
its own leads to the mode of the table, and the obligation about these steps.
-/
namespace Sys2Proof.Machine
open Sys2Proof

/-! ### One sample keeps its mode (R135 to R148, R166, R167) -/

section
variable (s : State) (b : Bool) (c : KCore) (l : KLatch) (m : KMeas) (tr : KTrk)

@[simp] theorem kernSpeed_mode (pr pdc : F32) : (s.kernSpeed b c l m tr pr pdc).1.mode = c.mode := rfl

@[simp] theorem kernLawA_mode : (s.kernLawA b c l m tr).c.mode = c.mode := by
  simp only [State.kernLawA, apply_ite KLaw.c, apply_ite KCore.mode, kernSpeed_mode, ite_self]

@[simp] theorem kernLawB_mode (a : KLaw) (lim : F32 × F32 × F32 × F32) : (s.kernLawB b a m tr lim).1.mode = a.c.mode := by
  simp only [State.kernLawB, apply_ite Prod.fst, apply_ite KCore.mode, ite_self]

@[simp] theorem kernSample_mode (trans : Option Nat) : (s.kernSample b c l m trans).core.mode = c.mode :=
  (kernLawB_mode s b m _ _ _).trans (kernLawA_mode s b c l m _)

/-! ### A transition taken by a step of its own (R149, R150, R584) -/

/-- The sample of transition `n` begins in the mode that the table gives (R149, R150). -/
@[simp] theorem backCalc_mode (n : Nat) : (s.backCalc n c l).mode = transTo c n := by
  unfold State.backCalc
  split <;> rfl

/-- Measuring bears on no mode that a transition leads to. -/
@[simp] theorem transTo_kernMeasure (n : Nat) : transTo (s.kernMeasure b c l).1 n = transTo c n := rfl

/-- The run of the boundary's inputs that takes transition `n`, as it may be committed (R93). -/
def State.forcedRun (n : Nat) : KNext := (s.kernRun s.kern.lat (some n)).1.finite s.kern

theorem forcedRun_trans (n : Nat) : (s.forcedRun n).trans = some n := rfl

/-- A run that takes a transition ends in the mode the transition leads to; numeric faults hold values, not the mode (R93, R149). -/
theorem forcedRun_mode (n : Nat) : (s.forcedRun n).core.mode = transTo s.kern.core n :=
  calc (s.forcedRun n).core.mode
    _ = (s.backCalc n (s.kernMeasure s.eng.actB s.kern.core s.kern.lat).1 s.kern.lat).mode := kernSample_mode s _ _ _ _ _
    _ = transTo (s.kernMeasure s.eng.actB s.kern.core s.kern.lat).1 n := backCalc_mode s _ _ n
    _ = transTo s.kern.core n := transTo_kernMeasure s _ _ _ n

/-- Taking a transition replaces the kernel's run under way, and at most restarts the control group's run; what the kernel has published
stays (R149, R584). -/
theorem kernForce_eq (n : Nat) : ∃ runs readBad, s.kernForce n = { s with
    kern := { s.kern with next := some (s.forcedRun n), due4 := false, due6 := false }
    eng := { s.eng with runs := runs, readBad := readBad } } := by
  unfold State.kernForce
  dsimp only
  split
  · split
    · exact ⟨_, _, rfl⟩
    · exact ⟨_, _, rfl⟩
  · exact ⟨_, _, rfl⟩

end

theorem exec_syncAbort_due {s : State} (hdue : s.kern.due6 = true) : exec .syncAbort s = .next (s.kernForce 6) := by
  show execSyncAbort s = _
  rw [execSyncAbort, if_pos hdue]

theorem exec_limitedReturn_due {s : State} (hdue : s.kern.due4 = true) : exec .limitedReturn s = .next (s.kernForce 4) := by
  show execLimitedReturn s = _
  rw [execLimitedReturn, if_pos hdue]

/-! ### The compare of the sync tracker (R156, R160) -/

/-- After N_match MATCHED samples the kernel writes ANG.023 of its sync tracker as a host would, and notes it (R156). -/
theorem exec_syncCompareArmed_due {s : State} {k : Nat} (hon : s.kernOn = true) (hmode : s.kern.core.mode = .sync)
    (harm : s.kern.synArm = false) (hhold : s.kern.synHold = false) (hfired : s.kern.fired = none) (htrk : s.syncTrk = some k)
    (hmatch : (s.gw s.eng.actB 73).toNat ≤ s.kern.core.matchN) :
    exec .syncCompareArmed s = .next (((s.cmpWrite k 23 1).setRaw ⟨gANG, 23⟩ k 1).modKern (fun y => { y with synArm := true })) := by
  show execSyncCompareArmed s = _
  simp only [execSyncCompareArmed, syncArm, htrk, hon, hmode, harm, hhold, hfired, hmatch, decide_true, beq_self_eq_true, Bool.not_false,
    Option.isNone_none, Bool.and_self, if_true]

/-- A closing missed by GFM.076 is one bit, one record and the hold on further arming (R160). -/
theorem exec_syncFail_due {s : State} {t0 : Nat} (hon : s.kernOn = true) (hmode : s.kern.core.mode = .sync)
    (hfired : s.kern.fired = some t0) (hhold : s.kern.synHold = false) (hdue : t0 + s.pn gGFM 76 ≤ s.now) :
    exec .syncFail s = .next (((s.rcSet 80 0 14).audit 0x21 {} 0 t0).modKern (fun k => { k with synHold := true, synArm := false })) := by
  show execSyncFail s = _
  simp only [execSyncFail, syncFailed, hfired, hon, hmode, hhold, hdue, decide_true, beq_self_eq_true, Bool.not_false, Bool.and_self,
    if_true]

/-- Settles O57: each step, where it is due, is a write of the compare, a record with the hold, or the kernel's run computed again. -/
theorem kernelOwnSteps : Obligations.KernelOwnSteps := by
  intro s
  refine ⟨fun k y hon hmode harm hhold hfired htrk hy hmatch => ?arm, fun t0 hon hmode hfired hhold hdue => ?fail, fun hdue => ?abort,
    fun hdue => ?back⟩
  case arm =>
    exact ⟨_, exec_syncCompareArmed_due hon hmode harm hhold hfired htrk hmatch, rfl, onlyAt_modify _ _ _, modify_at _ _ _ _ hy⟩
  case fail =>
    obtain ⟨hlog, _⟩ := audit_spec (s.rcSet 80 0 14) 0x21 {} 0 t0 0
    exact ⟨_, exec_syncFail_due hon hmode hfired hhold hdue, hlog, rcBit_rcSet s 80 0 14 (by decide), rfl⟩
  case abort =>
    obtain ⟨runs, readBad, hforce⟩ := kernForce_eq s 6
    exact ⟨_, s.forcedRun 6, (exec_syncAbort_due hdue).trans (congrArg _ hforce), rfl, forcedRun_trans s 6,
      forcedRun_mode s 6, rfl, rfl, rfl, rfl⟩
  case back =>
    obtain ⟨runs, readBad, hforce⟩ := kernForce_eq s 4
    exact ⟨_, s.forcedRun 4, (exec_limitedReturn_due hdue).trans (congrArg _ hforce), rfl, forcedRun_trans s 4,
      forcedRun_mode s 4, rfl, rfl, rfl, rfl⟩

end Sys2Proof.Machine
end

section
/-!
SUPPORT. The supervision of a cell (R196, R199, R201, R202): what each event makes of the configured cell it names, and the obligation
about these events.
-/
namespace Sys2Proof.Machine
open Sys2Proof

/-! ### A change of one cell -/

theorem cell_of_some {s : State} {c : Nat} {y : Cell} (hy : s.arm.cells[c]? = some y) : s.cell c = y := getD_of_some _ _ _ _ hy

/-- `updCell` changes nothing but the cells. -/
theorem updCell_frame (s : State) (c : Nat) (f : Cell → Cell) :
    s.updCell c f = { s with arm := { s.arm with cells := (s.updCell c f).arm.cells } } := rfl

theorem onlyAt_updCell (s : State) (c : Nat) (f : Cell → Cell) : OnlyAt c s.arm.cells (s.updCell c f).arm.cells := onlyAt_modify _ _ _

theorem updCell_at {s : State} {c : Nat} {y : Cell} (f : Cell → Cell) (hy : s.arm.cells[c]? = some y) :
    (s.updCell c f).arm.cells[c]? = some (f y) := modify_at _ _ _ _ hy

/-! ### A reason of exclusion (R196, R201) -/

section
variable {s : State} {c : Nat} {y : Cell} {f : Cell → Cell}

/-- A cell for which a reason stands after the change is not refresh-overdue. -/
theorem exclude_of_excluded (hex : (f y).excluded = true) : y.exclude f = { f y with overdue := false } := by
  simp only [Cell.exclude, hex, Bool.not_true, Bool.and_false]

theorem updCell_exclude_at (hy : s.arm.cells[c]? = some y) (hex : (f y).excluded = true) :
    (s.updCell c (Cell.exclude f)).arm.cells[c]? = some { f y with overdue := false } :=
  (updCell_at _ hy).trans (congrArg some (exclude_of_excluded hex))

/-- Being refresh-overdue bears on no reason of exclusion. -/
theorem excluded_updCell_exclude (hy : s.arm.cells[c]? = some y) (hex : (f y).excluded = true) :
    ((s.updCell c (Cell.exclude f)).cell c).excluded = true :=
  (congrArg Cell.excluded (cell_of_some (updCell_exclude_at hy hex))).trans hex

end

theorem excluded_of_exGate {y : Cell} (h : y.exGate = true) : y.excluded = true := by
  simp only [Cell.excluded, h, Bool.or_true, Bool.true_or]

theorem excluded_of_exStale {y : Cell} (h : y.exStale = true) : y.excluded = true := by
  simp only [Cell.excluded, h, Bool.or_true, Bool.true_or]

/-! ### The events, where they are due -/

section
variable {s : State} {c : Nat} {y : Cell} (hy : s.arm.cells[c]? = some y) (hconf : y.conf = true)
include hy hconf

/-- One interval ARM.020 after its last insertion a cell is refresh-due (R199). -/
theorem exec_refreshDue_past (hpast : s.pn gARM 20 ≤ y.idle * s.tf) :
    exec (.refreshDue c) s = .next (s.updCell c (fun x => { x with due := true })) := by
  show execRefreshDue c s = _
  simp only [execRefreshDue, State.refreshPast, cell_of_some hy, hconf, Nat.one_mul, hpast, decide_true, Bool.and_self, if_true]

/-- Two intervals after its last insertion a due cell of the pool is refresh-overdue, and its REFRESH_OVERDUE is set (R201). -/
theorem exec_refreshOverdue_past (hdue : y.due = true) (hover : y.overdue = false) (hpool : y.excluded = false)
    (hpast : 2 * s.pn gARM 20 ≤ y.idle * s.tf) :
    exec (.refreshOverdue c) s = .next ((s.updCell c (fun x => { x with overdue := true })).rcSet 101 c 19) := by
  show execRefreshOverdue c s = _
  simp only [execRefreshOverdue, State.refreshPast, cell_of_some hy, hconf, hdue, hover, hpool, hpast, decide_true, Bool.not_false,
    Bool.and_self, if_true]

/-- A gate supply reported low for ARM.022 excludes the cell (R202). -/
theorem exec_gateSupplyLow_past {f : Nat} (hlow : y.gsSince = some f) (hpast : s.pn gARM 22 ≤ (s.fr - f) * s.tf) :
    exec (.gateSupplyLow c) s = .next (s.updCell c (Cell.exclude (fun x => { x with exGate := true }))) := by
  show execGateSupplyLow c s = _
  simp only [execGateSupplyLow, cell_of_some hy, hlow, hconf, hpast, decide_true, Bool.and_self, if_true]

/-- ARM.023 frames without a usable status exclude the cell (exclusion table, R196). -/
theorem exec_statusStale_past (hpast : s.pn gARM 23 ≤ y.noStat) :
    exec (.statusStale c) s = .next (s.updCell c (Cell.exclude (fun x => { x with exStale := true }))) := by
  show execStatusStale c s = _
  simp only [execStatusStale, cell_of_some hy, hconf, hpast, decide_true, Bool.and_self, if_true]

end

/-- Settles O14: each event, where it is due, is a change of the one cell, which for two of them is a reason of exclusion. -/
theorem cellSupervisionEvents : Obligations.CellSupervisionEvents := by
  intro s c y hy hconf
  refine ⟨fun hpast => ?due, fun hdue hover hpool hpast => ?overdue, fun f hlow hpast => ?gate, fun hpast => ?stale⟩
  case due =>
    exact ⟨_, exec_refreshDue_past hy hconf hpast, updCell_frame _ _ _, onlyAt_updCell _ _ _, updCell_at _ hy⟩
  case overdue =>
    exact ⟨_, exec_refreshOverdue_past hy hconf hdue hover hpool hpast, rcSet_frame _ _ _ _, onlyAt_updCell _ _ _, updCell_at _ hy,
      rcBit_rcSet _ 101 c 19 (by decide)⟩
  case gate =>
    have hex : ({ y with exGate := true } : Cell).excluded = true := excluded_of_exGate rfl
    exact ⟨_, exec_gateSupplyLow_past hy hconf hlow hpast, updCell_frame _ _ _, onlyAt_updCell _ _ _, updCell_exclude_at hy hex,
      excluded_updCell_exclude hy hex⟩
  case stale =>
    have hex : ({ y with exStale := true } : Cell).excluded = true := excluded_of_exStale rfl
    exact ⟨_, exec_statusStale_past hy hconf hpast, updCell_frame _ _ _, onlyAt_updCell _ _ _, updCell_exclude_at hy hex,
      excluded_updCell_exclude hy hex⟩

end Sys2Proof.Machine
end

section
/-!
SUPPORT. The message credits of a port (R241, R256): a request is closed by its reply or written off, and a read-back of an offset judges
the identity of its cell; last, the statement about them.
-/
namespace Sys2Proof.Machine
open Sys2Proof

/-! ### A request is closed (R256) -/

/-- The port with request `seq` no longer open and its credit restored (R256). -/
def Port.closed (x : Port) (seq : Nat) : Port :=
  { x with credits := min 8 (x.credits + 1), reqs := x.reqs.filter (fun r => r.1 != seq) }

/-! ### The read-back of an offset (R241) -/

/-- An identity failure of channel `c` excludes its cell with IDENTITY. -/
def State.failIdentity (s : State) (c : Nat) : State := s.updCell c (fun y => y.exclude (fun z => { z with exIdent := true }))

/-- A read-back changes nothing, or finds an identity failure of one cell. -/
theorem readBack_cases (s : State) (p : Nat) (req m : Msg) :
    s.readBack p req m = s ∨ ∃ c, s.readBack p req m = s.failIdentity c := by
  unfold State.readBack
  split
  · exact .inl rfl
  · split
    · next c _ =>
      dsimp only
      generalize (if req.addr == 0 then (s.cell c).arrH else (s.cell c).arrT) = own
      split
      · exact .inl rfl
      · exact .inr ⟨c, rfl⟩
    · exact .inl rfl

/-- A read-back bears on the cells alone. -/
theorem readBack_frame (s : State) (p : Nat) (req m : Msg) :
    s.readBack p req m = { s with arm := { s.arm with cells := (s.readBack p req m).arm.cells } } := by
  obtain h | ⟨c, h⟩ := readBack_cases s p req m <;> rw [h]
  exact updCell_frame s c _

/-- The reply to a request that reads no register touches no cell. -/
theorem readBack_of_mtype_ne {req : Msg} (h : req.mtype ≠ 3) (s : State) (p : Nat) (m : Msg) : s.readBack p req m = s := by
  unfold State.readBack
  rw [bne_iff_ne.mpr h, Bool.true_or, if_pos rfl]

theorem excluded_of_exIdent {y : Cell} (h : y.exIdent = true) : y.excluded = true := by
  simp only [Cell.excluded, h, Bool.or_true]

section
variable {s : State} {p c : Nat} {req m : Msg} {y : Cell} (hread : req.mtype = 3) (haddr : req.addr = 0)
  (hch : s.chanAt p (s.posFrom p req.target s.twin.sideB) = some c) (hy : s.arm.cells[c]? = some y)
include hread haddr hch hy

/-- The head's offset is read back: refused, or other than the cell's, it is an identity failure. -/
theorem readBack_head : s.readBack p req m =
    if m.addr = 0 ∧ beAt m.payload 0 4 = y.arrH then s
    else s.failIdentity c := by
  have hgo : (req.mtype != 3 || !(req.addr == 0 || req.addr == 4)) = false := by
    simp only [hread, haddr, bne_self_eq_false, beq_self_eq_true, Bool.true_or, Bool.not_true, Bool.or_self]
  unfold State.readBack
  rw [hgo, if_neg Bool.false_ne_true, hch]
  simp only [haddr, cell_of_some hy, beq_self_eq_true, if_true, Bool.and_eq_true, beq_iff_eq, State.failIdentity]

/-- The cell whose offset differs is excluded with IDENTITY, and no other is touched. -/
theorem readBack_head_cells : OnlyAt c s.arm.cells (s.readBack p req m).arm.cells ∧ (s.readBack p req m).arm.cells[c]? =
    some (if m.addr = 0 ∧ beAt m.payload 0 4 = y.arrH then y else { y with exIdent := true, overdue := false }) := by
  rw [readBack_head hread haddr hch hy]
  split
  · exact ⟨onlyAt_refl _ _, hy⟩
  · exact ⟨onlyAt_updCell _ _ _, updCell_exclude_at hy (excluded_of_exIdent rfl)⟩

end

/-! ### A reply and a time-out -/

section
variable {s : State} {p : Nat} {x : Port} (hx : s.link.ports[p]? = some x)
include hx

/-- A reply to an open request closes it and is judged as the read-back of that request. -/
theorem exec_messageReply_open {m : Msg} (hopen : ∃ r ∈ x.reqs, r.1 = m.seq ∧ m.mtype = r.2.2.mtype + 0x80) :
    ∃ r ∈ x.reqs, m.mtype = r.2.2.mtype + 0x80 ∧
      exec (.messageReply p m) s = .next ((s.updPort p (fun x => x.closed m.seq)).readBack p r.2.2 m) := by
  obtain ⟨r', hr', hseq, htype⟩ := hopen
  obtain ⟨r, hr⟩ := Option.isSome_iff_exists.mp (List.find?_isSome (p := fun r => r.1 == m.seq && m.mtype == r.2.2.mtype + 0x80).mpr
    ⟨r', hr', by rw [hseq, htype, beq_self_eq_true, beq_self_eq_true, Bool.and_self]⟩)
  have hfits := List.find?_some hr
  rw [Bool.and_eq_true, beq_iff_eq, beq_iff_eq] at hfits
  refine ⟨r, List.mem_of_find?_eq_some hr, hfits.2, ?_⟩
  show execMessageReply p m s = _
  unfold execMessageReply
  rw [port_of_some hx, hr]
  rfl

/-- A reply to no open request is discarded. -/
theorem exec_messageReply_unasked {m : Msg} (hnone : ∀ r ∈ x.reqs, r.1 ≠ m.seq) : exec (.messageReply p m) s = .next s := by
  have hfind : x.reqs.find? (fun r => r.1 == m.seq && m.mtype == r.2.2.mtype + 0x80) = none :=
    List.find?_eq_none.mpr (fun r hr h => hnone r hr (beq_iff_eq.mp (Bool.and_eq_true_iff.mp h).1))
  show execMessageReply p m s = _
  unfold execMessageReply
  rw [port_of_some hx, hfind]

/-- A request unanswered for LNK.021 frames is written off at a supervisory boundary: it is closed and counted, and MSG_TIMEOUT is set. -/
theorem exec_msgTimeout_due {seq : Nat} (hsup : s.isSup s.fr = true) (hdue : ∃ r ∈ x.reqs, r.1 = seq ∧ r.2.1 + s.pn gLNK 21 ≤ s.fr) :
    exec (.msgTimeout p seq) s = .next ((s.updPort p (fun x => { x.closed seq with cOff := wrap32 (x.cOff + 1) })).rcSet 120 p 4) := by
  obtain ⟨r, hr, hseq, hold⟩ := hdue
  have hany : x.reqs.any (fun r => r.1 == seq && decide (r.2.1 + s.pn gLNK 21 ≤ s.fr)) = true :=
    List.any_eq_true.mpr ⟨r, hr, Bool.and_eq_true_iff.mpr ⟨beq_iff_eq.mpr hseq, decide_eq_true hold⟩⟩
  show execMsgTimeout p seq s = _
  unfold execMsgTimeout
  rw [port_of_some hx, hsup, hany, Bool.and_self, if_pos rfl]
  rfl

end

/-- Settles O17: a reply closes its request and is judged as a read-back, and a write-off closes its request and is counted. -/
theorem messageCreditsReturn : Obligations.MessageCreditsReturn := by
  unfold Obligations.MessageCreditsReturn
  intro s p x hx
  refine ⟨fun m hopen => ?reply, fun m hnone => exec_messageReply_unasked hx hnone, fun seq hsup hdue => ?timeout⟩
  case reply =>
    obtain ⟨r, hr, htype, hexec⟩ := exec_messageReply_open hx hopen
    have hframe := readBack_frame (s.updPort p (fun x => x.closed m.seq)) p r.2.2 m
    have hlink := congrArg State.link hframe
    refine ⟨_, hexec, ?frame, by rw [hlink]; exact onlyAt_modify _ _ _, by rw [hlink]; exact modify_at _ _ _ _ hx, fun hne => ?other,
      fun q k c y hreqs hread haddr hch hy => ?readBack⟩
    case frame =>
      rw [hframe]
      rfl
    case other =>
      rw [readBack_of_mtype_ne (by omega)]
      rfl
    case readBack =>
      obtain rfl : r = (m.seq, k, q) := List.mem_singleton.mp (hreqs ▸ hr)
      exact readBack_head_cells hread haddr hch hy
  case timeout =>
    exact ⟨_, exec_msgTimeout_due hx hsup hdue, rfl, onlyAt_modify _ _ _, modify_at _ _ _ _ hx, rcBit_rcSet _ 120 p 4 (by decide)⟩

end Sys2Proof.Machine
end

section
/-!
SUPPORT. Losses of the link (R260, R261) and of a nest link (R289): what each event makes of the port or the nest link it names; last, the
statement about them.
-/
namespace Sys2Proof.Machine
open Sys2Proof

/-! ### A port's losses (R260, R261) -/

section
variable {s : State} {p : Nat} {x : Port} (hp : p < 32)
include hp

/-- A port that has sent frames and got none back counts one and shows its link down (R260). -/
theorem exec_returnFrameMissing_due (hx : s.link.ports[p]? = some x) (hawake : s.awake = true) (hcell : s.cellPort p = true)
    (hgot : x.got = false) (hsent : x.sent ≠ []) :
    exec (.returnFrameMissing p) s =
      .next (s.updPort p (fun x => { x with cMiss := wrap32 (x.cMiss + 1), got := true, linkUp := false })) := by
  show execReturnFrameMissing p s = _
  simp only [execReturnFrameMissing, port_of_some hx, hawake, hp, hcell, hgot, List.isEmpty_eq_false_iff.mpr hsent, decide_true,
    Bool.not_false, Bool.and_self, if_true]

/-- A cell of the port without a usable status for LNK.020 frames raises LINK_LOSS (R261). -/
theorem exec_linkLoss_due (hlost : ∃ c ∈ s.portCells p, s.pn gLNK 20 ≤ (s.cell c).noStat) :
    exec (.linkLoss p) s = .next (s.updPort p (fun x => { x with loss := true })) := by
  obtain ⟨c, hc, hage⟩ := hlost
  have hany : (s.portCells p).any (fun c => decide (s.pn gLNK 20 ≤ (s.cell c).noStat)) = true :=
    List.any_eq_true.mpr ⟨c, hc, decide_eq_true hage⟩
  show execLinkLoss p s = _
  simp only [execLinkLoss, hp, hany, decide_true, Bool.and_self, if_true]

end

/-! ### The ports of a lost nest link (DIA.120 LINK_UP) -/

/-- One change of every port of a list, which twice is the same as once: the listed ports are changed and nothing else is. -/
theorem forAll_updPort_spec {g : Port → Port} (hg : ∀ x, g (g x) = g x) (l : List Nat) (s : State) :
    ∃ ports, forAll l (fun s p => s.updPort p g) s = { s with link := { s.link with ports := ports } } ∧
      ∀ p x, s.link.ports[p]? = some x → ports[p]? = some (if p ∈ l then g x else x) := by
  induction l generalizing s with
  | nil => exact ⟨_, rfl, fun p x hx => hx⟩
  | cons a l ih =>
    obtain ⟨ports, heq, hports⟩ := ih (s.updPort a g)
    refine ⟨ports, heq, fun p x hx => ?_⟩
    by_cases hpa : a = p
    · subst hpa
      rw [hports a (g x) (modify_at _ _ _ _ hx), hg, ite_self, if_pos List.mem_cons_self]
    · have hmodify := (onlyAt_modify s.link.ports a g).2 p (Ne.symm hpa)
      rw [hports p x (hmodify.trans hx)]
      simp only [List.mem_cons, Ne.symm hpa, false_or]

/-- The P ports of a lost nest link show no sync, and nothing else changes. -/
theorem nestDead_spec (s : State) (l : List Nat) :
    s.nestDead l = { s with link := { s.link with ports := (s.nestDead l).link.ports } } ∧
      ∀ p x, s.link.ports[p]? = some x →
        (s.nestDead l).link.ports[p]? = some (if p < 32 ∧ p ∈ l then { x with linkUp := false } else x) := by
  obtain ⟨ports, heq, hports⟩ := forAll_updPort_spec (g := fun x => { x with linkUp := false }) (fun _ => rfl)
    (l.filter (fun p => p < 32)) s
  change s.nestDead l = _ at heq
  refine ⟨by rw [heq], fun p x hx => ?_⟩
  rw [heq]
  refine (hports p x hx).trans ?_
  simp only [List.mem_filter, decide_eq_true_eq, and_comm]

/-! ### A nest link's loss (R289) -/

/-- The parent silent for NST.010 frames raises NEST_LOSS of link 32. -/
theorem exec_nestLoss_parent {s : State} (hpar : s.hasParent = true) (hmiss : s.pn gNST 10 ≤ s.nest.par.miss) :
    exec (.nestLoss 32) s = .next ((s.modNest (fun n => { n with par := { n.par with loss := true } })).nestDead s.parPorts) := by
  show execNestLoss 32 s = _
  simp only [execNestLoss, hpar, hmiss, beq_self_eq_true, decide_true, Bool.and_self, if_true]

/-- A child silent for NST.010 frames raises NEST_LOSS of its link. -/
theorem exec_nestLoss_kid {s : State} {i : Nat} {k : Nst} (hk : s.nest.kids[i]? = some k) (hi : i < 32)
    (hkid : s.kidIdx.contains i = true) (hmiss : s.pn gNST 10 ≤ k.miss) :
    exec (.nestLoss i) s = .next ((s.updKid i (fun k => { k with loss := true })).nestDead (s.kidPorts i)) := by
  have hrec : s.kid i = k := getD_of_some _ _ _ _ hk
  have hne : (i == 32) = false := beq_false_of_ne (Nat.ne_of_lt hi)
  show execNestLoss i s = _
  simp only [execNestLoss, hne, hkid, hrec, hmiss, decide_true, Bool.and_self, Bool.false_eq_true, if_false, if_true]

/-- Settles O18: each event, where it is due, is a change of the one port, or of the one nest link with the sync of its P ports. -/
theorem portAndNestLosses : Obligations.PortAndNestLosses := by
  unfold Obligations.PortAndNestLosses
  intro s
  refine ⟨fun p x hx hawake hp hcell hgot hsent => ?missing, fun p x hx hp hlost => ?loss, fun hpar hmiss => ?parent,
    fun i k hk hi hkid hmiss => ?kid⟩
  case missing =>
    exact ⟨_, exec_returnFrameMissing_due hp hx hawake hcell hgot hsent, rfl, onlyAt_modify _ _ _, modify_at _ _ _ _ hx⟩
  case loss =>
    exact ⟨_, exec_linkLoss_due hp hlost, rfl, onlyAt_modify _ _ _, modify_at _ _ _ _ hx⟩
  case parent =>
    obtain ⟨hframe, hports⟩ := nestDead_spec (s.modNest (fun n => { n with par := { n.par with loss := true } })) s.parPorts
    exact ⟨_, exec_nestLoss_parent hpar hmiss, hframe, hports⟩
  case kid =>
    obtain ⟨hframe, hports⟩ := nestDead_spec (s.updKid i (fun k => { k with loss := true })) (s.kidPorts i)
    refine ⟨_, exec_nestLoss_kid hk hi hkid hmiss, ?frame, ?others, ?link, hports⟩
    case frame =>
      rw [hframe]
      rfl
    case others =>
      rw [hframe]
      exact onlyAt_modify _ _ _
    case link =>
      rw [hframe]
      exact modify_at _ _ _ _ hk

end Sys2Proof.Machine
end

section
/-!
SUPPORT. The end of a drift window (R287): what a change of every configured cell makes of each, and the row's obligation.
-/
namespace Sys2Proof.Machine
open Sys2Proof

/-! ### A change of every configured cell -/

theorem length_mapCells (s : State) (f : Nat → Cell → Cell) : (s.mapCells f).arm.cells.length = s.arm.cells.length :=
  List.length_mapIdx

theorem mapCells_at {s : State} {c : Nat} {y : Cell} (f : Nat → Cell → Cell) (hy : s.arm.cells[c]? = some y) :
    (s.mapCells f).arm.cells[c]? = some (if y.conf then f c y else y) :=
  List.getElem?_mapIdx.trans (by rw [hy, Option.map_some])

/-! ### The end of a drift window (R287) -/

/-- Once NST.062 has passed, every configured cell of a leaf takes a new reference and the next window starts. -/
theorem exec_driftWindowEnd_past {s : State} (heng : s.engOn = true) (hleaf : s.isLeaf = true)
    (hpast : s.nest.winStart + s.pn gNST 62 ≤ s.now) :
    exec .driftWindowEnd s = .next ((s.mapCells (fun _ c => c.newRef)).modNest (fun n => { n with winStart := s.now })) := by
  show execDriftWindowEnd s = _
  simp only [execDriftWindowEnd, heng, hleaf, hpast, decide_true, Bool.and_self, if_true]

/-- Settles O15: the row is `newRef` over the configured cells, and the start of the next window. -/
theorem driftWindowTakesNewReference : Obligations.DriftWindowTakesNewReference := by
  intro s heng hleaf hpast
  exact ⟨_, exec_driftWindowEnd_past heng hleaf hpast, rfl, length_mapCells s _,
    fun _ _ hy => mapCells_at (fun _ => Cell.newRef) hy⟩

end Sys2Proof.Machine
end

section
/-!
SUPPORT. Sources of Bramble (R292, R296, R301): what the actions of a source may change, which latches they leave standing, and the
obligation about raising and clearing.
-/
namespace Sys2Proof.Machine
open Sys2Proof

/-! ### Latches (R301) -/

/-- Each of the 16 groups has its four latches. -/
def Prot.FourEach (p : Prot) : Prop := p.latch.length = 16 ∧ ∀ l ∈ p.latch, l.length = 4

/-- The latches once latch `ix` of group `g` is set. -/
def Prot.setLatch (p : Prot) (g ix : Nat) : List (List Bool) := p.latch.modify g (fun l => l.set ix true)

/-- From `p` to `q` no source is raised or counted, and no latch that stands is lost (R301). -/
structure LatchesGrow (p q : Prot) : Prop where
  raised : q.raised = p.raised
  raisedN : q.raisedN = p.raisedN
  four : p.FourEach → q.FourEach
  has : ∀ g j, p.has g j = true → q.has g j = true

theorem LatchesGrow.refl (p : Prot) : LatchesGrow p p := ⟨rfl, rfl, id, fun _ _ => id⟩

theorem LatchesGrow.trans {p q r : Prot} (h : LatchesGrow p q) (k : LatchesGrow q r) : LatchesGrow p r :=
  ⟨k.raised.trans h.raised, k.raisedN.trans h.raisedN, k.four ∘ h.four, fun g j => k.has g j ∘ h.has g j⟩

theorem Prot.has_iff (p : Prot) (g j : Nat) : p.has g j = true ↔ ∃ l, p.latch[g]? = some l ∧ l[j]? = some true := by
  unfold Prot.has
  cases hl : p.latch[g]? with
  | none => simp [List.getD, hl]
  | some l => cases hj : l[j]? <;> simp [List.getD, hl, hj]

section
variable {p q : Prot} {g ix : Nat} (hq : q.latch = p.setLatch g ix)
include hq

theorem Prot.setLatch_four (h : p.FourEach) : q.FourEach := by
  obtain ⟨hlen, hfour⟩ := h
  refine ⟨by rw [hq, Prot.setLatch, List.length_modify, hlen], fun l hl => ?_⟩
  rw [hq, Prot.setLatch] at hl
  obtain ⟨i, hi⟩ := List.mem_iff_getElem?.mp hl
  rw [List.getElem?_modify] at hi
  obtain ⟨m, hm, rfl⟩ := Option.map_eq_some_iff.mp hi
  have hm4 := hfour m (List.mem_of_getElem? hm)
  split
  · rw [List.length_set, hm4]
  · exact hm4

theorem Prot.setLatch_keeps {g' j : Nat} (h : p.has g' j = true) : q.has g' j = true := by
  obtain ⟨l, hl, hj⟩ := (p.has_iff g' j).mp h
  refine (q.has_iff g' j).mpr ⟨if g = g' then l.set ix true else l, ?_, ?_⟩
  · rw [hq, Prot.setLatch, List.getElem?_modify, hl]
    split <;> rfl
  · split
    · by_cases hix : ix = j
      · subst hix
        rw [List.getElem?_set_self (List.getElem?_eq_some_iff.mp hj).1]
      · rw [List.getElem?_set_ne hix, hj]
    · exact hj

theorem Prot.setLatch_has (h : p.FourEach) (hg : g < 16) (hix : ix < 4) : q.has g ix = true := by
  obtain ⟨hlen, hfour⟩ := h
  have hl : p.latch[g]? = some p.latch[g] := List.getElem?_eq_getElem (by omega)
  refine (q.has_iff g ix).mpr ⟨(p.latch[g]).set ix true, ?_, ?_⟩
  · rw [hq, Prot.setLatch, modify_at _ _ _ _ hl]
  · rw [List.getElem?_set_self (by rw [hfour _ (List.getElem_mem _)]; exact hix)]

end

/-! ### The trip matrix (R294, R321) -/

/-- A stored value is not touched by one put under another identifier. -/
theorem pStored_pvPut_ne {v : PVal} {id : Pid} (e : Nat) (l : List PVal) (hid : v.id ≠ id) : pStored (pvPut v l) id e = pStored l id e := by
  have hv : ∀ m : List PVal, pStored (v :: m) id e = pStored m id e := fun m => by simp [pStored, hid]
  have hcons : ∀ (p : PVal) {m m' : List PVal}, pStored m id e = pStored m' id e → pStored (p :: m) id e = pStored (p :: m') id e :=
    fun p m m' h => by
      unfold pStored at h ⊢
      rw [List.find?_cons, List.find?_cons]
      split
      · rfl
      · exact h
  induction l with
  | nil => exact hv []
  | cons p l ih =>
    unfold pvPut
    split
    case isTrue hpv =>
      have hp : p.id ≠ id := by
        simp only [Bool.and_eq_true, beq_iff_eq] at hpv
        exact hpv.1 ▸ hid
      rw [hv]
      simp [pStored, hp]
    case isFalse =>
      split
      · exact hv _
      · exact hcons p ih

/-- What an arm's default matrix asks of a cell: that it is configured, its arm and its port. -/
def Cell.place (c : Cell) : Bool × Nat × Nat := (c.conf, c.arm, c.port)

theorem portServes_congr {s t : State} (hcells : t.arm.cells.map Cell.place = s.arm.cells.map Cell.place) (htail : t.isTail = s.isTail) :
    t.portServes = s.portServes := by
  have hplace : ∀ (u : State) (p a : Nat), u.portServes p a = (u.arm.cells.map Cell.place).any
      (fun c => c.1 && c.2.1 == a && (c.2.2 == p || (c.2.2 + 1 == p && u.isTail p))) := fun u p a => by
    rw [List.any_map]
    rfl
  funext p a
  rw [hplace, hplace, hcells, htail]

/-- The matrix rests on PRT.001, and its defaults on which ports serve an arm. -/
theorem matrix_congr {s t : State} (hcells : t.arm.cells.map Cell.place = s.arm.cells.map Cell.place)
    (hval : ∀ id, id ≠ ⟨gPWM, 30⟩ → ∀ e, pStored t.par.vals id e = pStored s.par.vals id e) : t.matrix = s.matrix := by
  have hserve : t.portServes = s.portServes := portServes_congr hcells <| funext fun p => by
    unfold State.isTail
    rw [hval _ (by decide)]
  have hdflt : dfltAction t = dfltAction s := by
    funext k g
    unfold dfltAction
    rw [hserve]
  funext k g
  have hpn : t.pn gPRT 1 (16 * k + g) = s.pn gPRT 1 (16 * k + g) := by
    have hraw : ∀ (u : State) (e : Nat), u.raw gPRT 1 e =
        (pStored u.par.vals ⟨gPRT, 1⟩ e).getD (BitVec.ofInt 64 (dfltAction u (e / 16) (e % 16) : Nat)) := fun _ _ => rfl
    unfold State.pn
    rw [hraw, hraw, hval _ (by decide), hdflt]
  unfold State.matrix
  rw [hpn]

/-! ### What actions may change (R296 to R302) -/

/-- The records that no action of Bramble bears on. -/
def State.besideActions (s : State) : Clk × Meas × Eng × Nest × Acq × Fio × Hw × List Trk :=
  (s.clk, s.meas, s.eng, s.nest, s.acq, s.fio, s.hw, s.trk)

/-- `t` comes of `s` by actions of sources that are raised already. -/
structure ActsOf (s t : State) : Prop where
  beside : t.besideActions = s.besideActions
  matrix : t.matrix = s.matrix
  latches : LatchesGrow s.prot t.prot

namespace ActsOf
variable {s t u : State}

theorem refl (s : State) : ActsOf s s := ⟨rfl, rfl, .refl _⟩

theorem trans (h : ActsOf s t) (k : ActsOf t u) : ActsOf s u :=
  ⟨k.beside.trans h.beside, k.matrix.trans h.matrix, h.latches.trans k.latches⟩

theorem ite {c : Prop} [Decidable c] (h : ActsOf s t) (k : ActsOf s u) : ActsOf s (if c then t else u) := by
  split
  · exact h
  · exact k

theorem when {b : Bool} {f : State → State} (h : ActsOf s t) (hf : ∀ v, ActsOf s v → ActsOf s (f v)) : ActsOf s (t.when b f) := by
  cases b with
  | false => exact h
  | true => exact hf t h

theorem forAll {β : Type} {l : List β} {f : State → β → State} (h : ActsOf s t) (hf : ∀ v b, ActsOf s v → ActsOf s (f v b)) :
    ActsOf s (forAll l f t) := forAll_invariant h hf

section
variable (h : ActsOf s t)
include h

theorem modLink {f : Link → Link} : ActsOf s (t.modLink f) := ⟨h.beside, h.matrix, h.latches⟩
theorem modTwin {f : Twin → Twin} : ActsOf s (t.modTwin f) := ⟨h.beside, h.matrix, h.latches⟩
theorem modHdg {f : Hdg → Hdg} : ActsOf s (t.modHdg f) := ⟨h.beside, h.matrix, h.latches⟩
theorem modMbx {f : Mbx → Mbx} : ActsOf s (t.modMbx f) := ⟨h.beside, h.matrix, h.latches⟩
theorem modSys {f : Sys → Sys} : ActsOf s (t.modSys f) := ⟨h.beside, h.matrix, h.latches⟩
theorem modPeat {f : Store → Store} : ActsOf s (t.modPeat f) := ⟨h.beside, h.matrix, h.latches⟩
theorem modPub {f : Pub → Pub} : ActsOf s (t.modPub f) := ⟨h.beside, h.matrix, h.latches⟩

theorem modProt {f : Prot → Prot} (hf : LatchesGrow t.prot (f t.prot)) : ActsOf s (t.modProt f) :=
  ⟨h.beside, h.matrix, h.latches.trans hf⟩

theorem logPush {r : Audit} : ActsOf s (t.logPush r) := ⟨h.beside, h.matrix, h.latches⟩

theorem audit {ty : Nat} {w : Who} {subj : Nat} {old new detail : Int} : ActsOf s (t.audit ty w subj old new detail) :=
  h.forAll fun _ _ h => h.logPush

theorem rcSet {d e k : Nat} : ActsOf s (t.rcSet d e k) := h.modPub
theorem irqSet {k : Nat} : ActsOf s (t.irqSet k) := h.modMbx

/-- Test mode is a state of the arms and the value of PWM.030 (R221). -/
theorem endTest : ActsOf s t.endTest := by
  refine .ite (h.trans ⟨rfl, ?_, .refl _⟩) h
  exact matrix_congr rfl fun id hid e => pStored_pvPut_ne e _ hid.symm

theorem toFaulted : ActsOf s t.toFaulted := .ite h.endTest.audit.modSys.irqSet h
theorem faultCheck : ActsOf s t.faultCheck := .ite h.toFaulted h
theorem tSend {b : TBody} : ActsOf s (t.tSend b) := .ite h.modTwin h
theorem selfFail {src : Nat} : ActsOf s (t.selfFail src) := .ite h h.tSend.modTwin.toFaulted
theorem sendBlockAll {at_ p : Nat} : ActsOf s (State.sendBlockAll at_ t p) := .ite h.modLink.modLink.rcSet h
theorem blockPorts {g at_ : Nat} : ActsOf s (t.blockPorts g at_) := h.forAll fun _ _ h => h.sendBlockAll
theorem openReq : ActsOf s t.openReq := ⟨h.beside, h.matrix, h.latches⟩

/-- An exclusion leaves a cell's place as it is. -/
theorem excludeProt {g : Nat} : ActsOf s (t.excludeProt g) := by
  refine h.trans ⟨rfl, matrix_congr ?_ (fun _ _ _ => rfl), .refl _⟩
  refine List.ext_getElem? fun i => ?_
  simp only [State.excludeProt, List.getElem?_map, List.getElem?_mapIdx, Option.map_map]
  refine Option.map_congr fun c _ => ?_
  show (if _ then _ else c).place = c.place
  split <;> rfl

/-- A BLOCK, or what acts as one: BLOCK_ALL where it is still to go out, and FAULTED where it covers an arm or a child port (R302). -/
theorem blocked {ba : Bool} {g : Nat} : ActsOf s (t.when ba (fun v => v.blockPorts g v.actU)).faultCheck :=
  (h.when fun _ h => h.blockPorts).faultCheck

/-- A SELF_FAIL that acts as BLOCK is noted (R297); the latches are those it finds. -/
theorem noteAsBlock {g : Nat} : ActsOf s (t.modProt (fun p => { p with asBlock := p.asBlock.set g true })) :=
  h.modProt ⟨rfl, rfl, id, fun _ _ => id⟩

end
end ActsOf

/-! ### One action (R296, R301) -/

/-- Index of an action's latch. -/
def Action.latchIx : Action → Option Nat
  | .block => some 0
  | .bypass => some 1
  | .breaker => some 2
  | .selfFail => some 3
  | _ => Option.none

theorem Action.latchIx_lt {a : Action} {ix : Nat} (h : a.latchIx = some ix) : ix < 4 := by
  cases a <;> cases h <;> decide

/-- An action is recorded, and its source becomes one of Reedbed's trigger sources (R296). -/
def State.recorded (s : State) (k g : Nat) (a : Action) : State :=
  ((s.audit 0x30 {} k g a.code s.fr).rcSet 164 g 0).modProt (fun p => { p with acted := p.acted.set k true })

/-- A latching action is recorded and its latch set, before it acts on anything else (R301). -/
def State.latched (s : State) (k g : Nat) (a : Action) (ix : Nat) : State :=
  ((s.recorded k g a).irqSet 4).modProt (fun p => { p with
    latch := p.setLatch g ix, holder := p.holder.set k true
    firstG := p.firstG.modify g (fun f => f.or (some k)), firstM := p.firstM.or (some (k, s.fr)), latchF := some s.fr })

theorem recorded_actsOf (s : State) (k g : Nat) (a : Action) : ActsOf s (s.recorded k g a) :=
  (ActsOf.refl s).audit.rcSet.modProt ⟨rfl, rfl, id, fun _ _ => id⟩

theorem latched_actsOf (s : State) (k g : Nat) (a : Action) (ix : Nat) : ActsOf s (s.latched k g a ix) :=
  (recorded_actsOf s k g a).irqSet.modProt ⟨rfl, rfl, Prot.setLatch_four rfl, fun _ _ => Prot.setLatch_keeps rfl⟩

theorem latched_has {s : State} {g ix : Nat} (k : Nat) (a : Action) (h : s.prot.FourEach) (hg : g < 16) (hix : ix < 4) :
    (s.latched k g a ix).prot.has g ix = true :=
  Prot.setLatch_has (p := ((s.recorded k g a).irqSet 4).prot) rfl ((recorded_actsOf s k g a).irqSet.latches.four h) hg hix

section
variable (s : State) (step : Bool) (k g : Nat) (ba : Bool)

/-- SELF_FAIL goes to the twin where the partner is in step, and acts as BLOCK elsewhere (R297). -/
theorem takeAction_selfFail : s.takeAction step k g .selfFail ba =
    if step then (s.latched k g .selfFail 3).selfFail k
    else (((s.latched k g .selfFail 3).modProt (fun p => { p with asBlock := p.asBlock.set g true })).when ba
      (fun v => v.blockPorts g v.actU)).faultCheck := rfl

/-- What a latching action does beyond its latch. -/
theorem takeAction_latching {a : Action} {ix : Nat} (h : a.latchIx = some ix) :
    ActsOf (s.latched k g a ix) (s.takeAction step k g a ba) := by
  have hstart := ActsOf.refl (s.latched k g a ix)
  cases a with
  | none | record => cases h
  | block => cases h; exact hstart.blocked
  | bypass => cases h; exact hstart.excludeProt
  | breaker => cases h; exact hstart
  | selfFail =>
    cases h
    rw [takeAction_selfFail]
    exact .ite hstart.selfFail hstart.noteAsBlock.blocked

theorem takeAction_actsOf (a : Action) : ActsOf s (s.takeAction step k g a ba) := by
  cases h : a.latchIx with
  | some ix => exact (latched_actsOf s k g a ix).trans (takeAction_latching s step k g ba h)
  | none =>
    cases a with
    | none => exact .refl s
    | record => exact recorded_actsOf s k g .record
    | block | bypass | breaker | selfFail => cases h

theorem takeAction_has {a : Action} {ix : Nat} (h : a.latchIx = some ix) (hfour : s.prot.FourEach) (hg : g < 16) :
    (s.takeAction step k g a ba).prot.has g ix = true :=
  (takeAction_latching s step k g ba h).latches.has g ix (latched_has k a hfour hg (Action.latchIx_lt h))

end

/-! ### The row of a source (R296) -/

/-- The actions of the row of source `k`, group by group. -/
def State.takeRow (s : State) (step : Bool) (k : Nat) (ba : Bool) (l : List Nat) : State :=
  forAll l (fun s g => s.takeAction step k g (s.matrix k g) ba) s

theorem takeRow_actsOf (s : State) (step : Bool) (k : Nat) (ba : Bool) (l : List Nat) : ActsOf s (s.takeRow step k ba l) :=
  (ActsOf.refl s).forAll fun v g h => h.trans (takeAction_actsOf v step k g ba _)

theorem takeRow_cons (s : State) (step : Bool) (k : Nat) (ba : Bool) (g : Nat) (l : List Nat) :
    s.takeRow step k ba (g :: l) = (s.takeAction step k g (s.matrix k g) ba).takeRow step k ba l := rfl

/-- The actions before leave the matrix and the four latches of each group, and those after leave the latch standing. -/
theorem takeRow_has {s : State} {k g ix : Nat} {l : List Nat} (step ba : Bool) (hfour : s.prot.FourEach) (hg : g < 16) (hmem : g ∈ l)
    (h : (s.matrix k g).latchIx = some ix) : (s.takeRow step k ba l).prot.has g ix = true := by
  induction l generalizing s with
  | nil => cases hmem
  | cons g' l ih =>
    rw [takeRow_cons]
    rcases List.mem_cons.mp hmem with rfl | hmem
    · exact (takeRow_actsOf _ step k ba l).latches.has g ix (takeAction_has s step k g ba h hfour hg)
    · have hfirst := takeAction_actsOf s step k g' ba (s.matrix k g')
      exact ih (hfirst.latches.four hfour) hmem (by rw [hfirst.matrix, h])

/-! ### Raising and clearing (R292) -/

/-- Source `k` is raised and counted; its actions are still to be taken (R292). -/
def State.counted (s : State) (k : Nat) : State :=
  s.modProt (fun p => { p with
    raised := p.raised.set k true, raisedN := p.raisedN.modify k (fun n => wrap32 (n + 1)), ocSent := p.ocSent.set k false })

/-- Past the row a raise adds the note of a PLL-L loss (R425) and opens the switches asked for (R300). -/
theorem raise_actsOf_takeRow (s : State) (k : Nat) :
    ActsOf ((s.counted k).takeRow s.inStep k (decide (2 ≤ k) || !s.prot.ocSent.getD k false) (List.range 16)) (s.raise k) :=
  ((ActsOf.refl _).when fun _ h => h.modProt ⟨rfl, rfl, id, fun _ _ => id⟩).openReq

theorem raise_actsOf (s : State) (k : Nat) : ActsOf (s.counted k) (s.raise k) :=
  (takeRow_actsOf _ _ _ _ _).trans (raise_actsOf_takeRow s k)

theorem raise_has {s : State} {k g ix : Nat} (hfour : s.prot.FourEach) (hg : g < 16) (h : (s.matrix k g).latchIx = some ix) :
    (s.raise k).prot.has g ix = true :=
  (raise_actsOf_takeRow s k).latches.has g ix (takeRow_has (s := s.counted k) _ _ hfour hg (List.mem_range.mpr hg) h)

theorem exec_sourceRaised_due {s : State} {k : Nat} (hk : k < 64) (hon : s.filterOf k + 1 ≤ s.prot.onN.getD k 0) (hup : s.srcUp k = false) :
    exec (.sourceRaised k) s = .next (s.raise k) := by
  show execSourceRaised k s = _
  simp only [execSourceRaised, State.raiseDue, hk, hon, hup, decide_true, Bool.not_false, Bool.and_self, if_true]

theorem exec_sourceCleared_due {s : State} {k : Nat} (hk : k < 64) (hoff : s.filterOf k + 1 ≤ s.prot.offN.getD k 0) (hup : s.srcUp k = true) :
    exec (.sourceCleared k) s =
      .next (s.modProt (fun p => { p with raised := p.raised.set k false, acted := p.acted.set k false })) := by
  show execSourceCleared k s = _
  simp only [execSourceCleared, State.clearDue, hk, hoff, hup, decide_true, Bool.and_self, if_true]

/-- Settles O21: a raise is the count of the source and then the actions of its row, each of which keeps the matrix and the latches
before it. -/
theorem brambleSourceRaisedAndCleared : Obligations.BrambleSourceRaisedAndCleared := by
  intro s k hk hraised hraisedN hlatch hfour
  refine ⟨fun hon hup => ?raise, fun hoff hup => exec_sourceCleared_due hk hoff hup⟩
  obtain ⟨hbeside, -, hgrow⟩ := raise_actsOf s k
  have hraisedK : (s.counted k).srcUp k = true := getD_of_some _ _ _ _ (List.getElem?_set_self (by omega))
  have hcount : (s.counted k).prot.raisedN.getD k 0 = wrap32 (s.prot.raisedN.getD k 0 + 1) := by
    have hn : s.prot.raisedN[k]? = some (s.prot.raisedN.getD k 0) := by simp [List.getD, hraisedN, hk]
    exact getD_of_some _ _ _ _ (modify_at _ _ _ _ hn)
  have hlatched {g ix : Nat} {a : Action} (hix : a.latchIx = some ix) (hg : g < 16) (ha : s.matrix k g = a) :
      (s.raise k).prot.has g ix = true := raise_has ⟨hlatch, hfour⟩ hg (ha ▸ hix)
  simp only [State.besideActions, Prod.mk.injEq] at hbeside
  refine ⟨s.raise k, exec_sourceRaised_due hk hon hup, ?up, ?only, ?count, hgrow.has, fun g hg => ?set, hbeside⟩
  case up => rw [State.srcUp, hgrow.raised]; exact hraisedK
  case only => rw [hgrow.raised]; exact onlyAt_set _ _ _
  case count => rw [hgrow.raisedN, hcount]
  case set => exact ⟨hlatched rfl hg, hlatched rfl hg, hlatched rfl hg, hlatched rfl hg⟩

end Sys2Proof.Machine
end

section
/-!
SUPPORT. Blocks of link T (R28, R331): the envelope that turns a block away or passes its frame number on, and what each type of block
does to lead and shadow (R333, R334, R338, R341, R353); last, the statement about them.
-/
namespace Sys2Proof.Machine
open Sys2Proof

/-! ### Parameters outside group PRT -/

/-- A parameter outside Bramble's group is read from the parameter records alone: its default bears on no cell (R6). -/
theorem raw_of_par {s t : State} {g : Nat} (hpar : t.par = s.par) (hg : g ≠ gPRT) (n e : Nat) : t.raw g n e = s.raw g n e := by
  simp only [State.raw, hpar, dfltRaw, beq_eq_false_iff_ne.mpr hg, Bool.false_and, Bool.false_eq_true, if_false]

theorem topoOf_of_par {s t : State} (hpar : t.par = s.par) (p : Nat) : t.topoOf p = s.topoOf p :=
  congrArg BitVec.toNat (raw_of_par hpar (by decide) 1 p)

theorem tf_of_par {s t : State} (hpar : t.par = s.par) : t.tf = s.tf := by
  unfold State.tf State.pn
  rw [raw_of_par hpar (by decide)]

theorem isShadow_of_par {s t : State} (hpar : t.par = s.par) (hshadow : t.twin.shadow = s.twin.shadow) : t.isShadow = s.isShadow := by
  unfold State.isShadow State.pb
  rw [raw_of_par hpar (by decide), hshadow]

/-! ### The envelope (R28, R331) -/

section
variable {s : State} {b : TBlk} (hon : s.twinOn = true)
include hon

theorem tTake_badCrc (hcrc : b.crcOk = false) : s.tTake b = (s.modTwin (fun t => { t with nCrc := wrap32 (t.nCrc + 1) }), none) := by
  simp [State.tTake, hon, hcrc]

theorem tTake_misaligned (hcrc : b.crcOk = true) (hmis : misaligned s.fr (extendF s.fr b.fnum) = true) :
    s.tTake b = (s.modTwin (fun t => { t with nMis := wrap32 (t.nMis + 1) }), none) := by
  simp [State.tTake, hon, hcrc, hmis]

theorem tTake_good (hcrc : b.crcOk = true) (hal : misaligned s.fr (extendF s.fr b.fnum) = false) :
    s.tTake b = (s, some (extendF s.fr b.fnum)) := by
  simp [State.tTake, hon, hcrc, hal]

end

/-- The command is the arrival of block `b`. -/
def Brings (c : Instr) (b : TBlk) : Prop :=
  (∃ v, c = .vector b v) ∨ (∃ p l n, c = .exception b p l n) ∨ (∃ e, c = .seal b e) ∨ (∃ l, c = .digests b l) ∨
    (∃ e r o, c = .hb b e r o) ∨ (∃ d, c = .outDigest b d) ∨ (∃ k, c = .fail b k) ∨ (∃ f, c = .swap b f) ∨ (∃ l e, c = .state b l e) ∨
    (∃ p t l, c = .relay b p t l)

/-- A block that the envelope turns away does nothing else, whatever its type. -/
theorem exec_discarded {s u : State} {b : TBlk} {c : Instr} (hc : Brings c b) (htake : s.tTake b = (u, none)) : exec c s = .next u := by
  rcases hc with ⟨v, rfl⟩ | ⟨p, l, n, rfl⟩ | ⟨e, rfl⟩ | ⟨l, rfl⟩ | ⟨e, r, o, rfl⟩ | ⟨d, rfl⟩ | ⟨k, rfl⟩ | ⟨f, rfl⟩ | ⟨l, e, rfl⟩ |
    ⟨p, t, l, rfl⟩ <;>
  simp only [exec, execVector, execException, execSeal, execDigests, execHb, execOutDigest, execFail, execSwap, execState, execRelay, htake]


/-! ### Heartbeats (R341) -/

/-- The pair's record once the partner's SEAL or HB of frame `f` has come while frame `fr` runs: it counts as a heartbeat where it comes by
its deadline and the frame was not latched with own inputs. -/
def Twin.heard (t : Twin) (fr f : Nat) : Twin :=
  { t with
    paired := true, pairF := if t.paired then t.pairF else fr
    gotT := if fr ≤ f ∧ f ∉ t.ownFs then recentF f t.gotT else t.gotT
    hbF := if fr ≤ f ∧ f ∉ t.ownFs then max t.hbF f else t.hbF
    lostT := if fr ≤ f ∧ f ∉ t.ownFs then false else t.lostT }

theorem heartbeatT_eq (s : State) (f : Nat) : s.heartbeatT f = s.modTwin (fun t => t.heard s.fr f) := by
  unfold State.heartbeatT Twin.heard
  by_cases h : s.fr ≤ f ∧ f ∉ s.twin.ownFs
  · simp [State.modTwin, h]
  · have hlate : (decide (s.fr ≤ f) && !s.twin.ownFs.contains f) = false := by simpa using h
    simp only [State.modTwin, hlate, h, Bool.false_eq_true, if_false]

theorem heard_isShadow (s : State) (f : Nat) : (s.modTwin (fun t => t.heard s.fr f)).isShadow = s.isShadow := isShadow_of_par rfl rfl

/-- A heartbeat in time is among the latest ones, and its path is not lost. -/
theorem heard_inTime {t : Twin} {fr f : Nat} (hnow : fr ≤ f) (hown : f ∉ t.ownFs) : f ∈ (t.heard fr f).gotT ∧ (t.heard fr f).lostT = false := by
  simp [Twin.heard, hnow, hown, recentF]

/-! ### What a good block does, type by type -/

section
variable {s : State} {b : TBlk} {f : Nat} (htake : s.tTake b = (s, some f))
include htake

theorem exec_vector_shadow (v : Vec) (hshadow : s.isShadow = true) :
    exec (.vector b v) s = .next (s.modTwin (fun t => { t with vecs := t.vecs ++ [(f, v)] })) := by
  simp only [exec, execVector, htake, hshadow, if_true]

theorem exec_vector_lead (v : Vec) (hlead : s.isShadow = false) : exec (.vector b v) s = .next s := by
  simp only [exec, execVector, htake, hlead, Bool.false_eq_true, if_false]

theorem exec_seal_shadow (e : Nat) (hshadow : s.isShadow = true) (hf : f ≠ s.fr) :
    exec (.seal b e) s = .next (s.modTwin (fun t => { t.heard s.fr f with epoch := maxEp t.epoch e })) := by
  simp only [exec, execSeal, htake, heartbeatT_eq, heard_isShadow, hshadow, if_true]
  exact congrArg Host.Outcome.next (if_neg (mt beq_iff_eq.mp hf))

theorem exec_seal_lead (e : Nat) (hlead : s.isShadow = false) :
    exec (.seal b e) s = .next (s.modTwin (fun t => { t.heard s.fr f with seenLead := t.seenLead ++ [e] })) := by
  simp only [exec, execSeal, htake, heartbeatT_eq, heard_isShadow, hlead, Bool.false_eq_true, if_false]
  rfl

theorem exec_hb_taken (e : Nat) (r o : Bool) : exec (.hb b e r o) s = .next (
    let u := s.modTwin (fun t => { t.heard s.fr f with pReady := r && !o })
    if s.isShadow then u
    else u.modTwin (fun t =>
      { t with partFailed := t.partFailed && !r, phase := if r then 0 else if t.phase == 0 then 1 else t.phase })) := by
  simp only [exec, execHb, htake, heartbeatT_eq]
  rw [isShadow_of_par (s := s) rfl rfl]
  rfl

/-- The shadow plans the swap and echoes it. -/
theorem exec_swap_shadow (a : Nat) (hshadow : s.isShadow = true) :
    exec (.swap b a) s = .next ((s.modTwin (fun t => { t with plan := some a, replied := true })).tSend (.swap a)) := by
  simp only [exec, execSwap, htake, hshadow, if_true]

/-- At the lead the swap is the reply to its own. -/
theorem exec_swap_lead (a : Nat) (hlead : s.isShadow = false) (hplan : s.twin.plan = some a) :
    exec (.swap b a) s = .next (s.modTwin (fun t => { t with replied := true })) := by
  simp only [exec, execSwap, htake, hlead, hplan, beq_self_eq_true, Bool.false_eq_true, if_false, if_true]

theorem exec_state_taken (l : List Byte) (last : Bool) (hshadow : s.isShadow = true) (hphase : s.twin.phase = 2) :
    exec (.state b l last) s = .next (
      let u := s.modTwin (fun t => { t with imgBuf := t.imgBuf ++ l })
      if last then
        match Config.stateImage (s.twin.imgBuf ++ l) with
        | some g => ((u.loadImg g).replay g.frame).modTwin (fun t => { t with phase := 3, imgBuf := [] })
        | none => u.modTwin (fun t => { t with phase := 1, imgBuf := [] })
      else u) := by
  simp only [exec, execState, htake, hshadow, hphase]
  cases last <;> rfl

theorem exec_digests_taken (l : List (Nat × Nat)) (hlead : s.isShadow = false) : exec (.digests b l) s = .next (
    forAll l (fun u x => (u.when (s.itemDig x.1 != some x.2) (fun u => u.sendException x.1)).itemCame x.1) s) := by
  simp only [exec, execDigests, htake, hlead, Bool.false_eq_true, if_false]

theorem exec_relay_time (p d : Nat) :
    exec (.relay b p (some d) []) s = .next (if s.topoOf p = 4 then s.setTrav p d else s) := by
  simp only [exec, execRelay, htake, beq_iff_eq, List.isEmpty_nil, if_true]

theorem exec_relay_statuses (p : Nat) {l : List (Nat × Slot)} (hl : l ≠ []) : exec (.relay b p none l) s = .next (
    (s.updPort p (fun x => { x with proxy := true, relayF := some s.fr })).modLink (fun k =>
      { k with stq := k.stq ++ l.map (fun x => (f, x.1, { x.2 with relayed := true })) })) := by
  simp only [exec, execRelay, htake, List.isEmpty_eq_false_iff.mpr hl, Bool.false_eq_true, if_false]

end

/-! ### Exceptions (R334) -/

/-- What an exception's content does: a port's slots stand for the member's own, position by position, or a link's nest frame does. -/
def State.excepted (s : State) (port : Nat) (slots : List Slot) (bytes : List Byte) : State :=
  if port < 32 then
    forAll slots.zipIdx (fun u x => match u.chanAt port x.2 with
      | some c => u.exceptSlot c (s.fr - 2) { x.1 with far := u.twin.sideB }
      | none => u) s
  else s.exceptNest port bytes

/-- The shadow's record with an exception of `n` bytes counted. -/
def State.excCounted (s : State) (n : Nat) : State := s.modTwin (fun t => { t with excN := t.excN + n })

section
variable {s : State} {b : TBlk} (htake : s.tTake b = (s, some s.fr)) (hshadow : s.isShadow = true)
include htake hshadow

/-- An exception of the present frame; the first excess over 384 bytes takes the shadow out of step. -/
theorem exec_exception_taken (p : Nat) (l : List Slot) (n : List Byte) : exec (.exception b p l n) s = .next (
    let size := 8 * l.length + n.length
    let u := (s.excCounted size).excepted p l n
    if 384 < s.twin.excN + size && s.twin.excN ≤ 384 then (u.modTwin (fun t => { t with nOver := wrap32 (t.nOver + 1) })).startResync
    else u) := by
  simp only [exec, execException, htake, hshadow, Bool.not_true, bne_self_eq_false, Bool.or_self, Bool.false_eq_true, if_false,
    Nat.add_assoc]
  rfl

theorem exec_exception_within (p : Nat) (l : List Slot) (n : List Byte) (hroom : s.twin.excN + (8 * l.length + n.length) ≤ 384) :
    exec (.exception b p l n) s = .next ((s.excCounted (8 * l.length + n.length)).excepted p l n) := by
  have hwithin : ¬(decide (384 < s.twin.excN + (8 * l.length + n.length)) && decide (s.twin.excN ≤ 384)) = true := by
    rw [decide_eq_false (Nat.not_lt.mpr hroom), Bool.false_and]
    exact Bool.false_ne_true
  exact (exec_exception_taken htake hshadow p l n).trans (congrArg Host.Outcome.next (if_neg hwithin))

theorem exec_exception_excess (p : Nat) (l : List Slot) (n : List Byte) (hover : 384 < s.twin.excN + (8 * l.length + n.length))
    (hbefore : s.twin.excN ≤ 384) : exec (.exception b p l n) s = .next
      ((((s.excCounted (8 * l.length + n.length)).excepted p l n).modTwin (fun t => { t with nOver := wrap32 (t.nOver + 1) })).startResync) := by
  have hexcess : (decide (384 < s.twin.excN + (8 * l.length + n.length)) && decide (s.twin.excN ≤ 384)) = true := by
    rw [decide_eq_true hover, decide_eq_true hbefore, Bool.and_self]
  exact (exec_exception_taken htake hshadow p l n).trans (congrArg Host.Outcome.next (if_pos hexcess))

end

theorem chanAt_of_records {s t : State} (hpar : t.par = s.par) (harm : t.arm = s.arm) (p q : Nat) : t.chanAt p q = s.chanAt p q := by
  simp only [State.chanAt, State.headPort, topoOf_of_par hpar, State.portCells, State.cell, harm]

theorem excepted_missing {s : State} {p c : Nat} {sl : Slot} (n : List Byte) (hp : p < 32) (hc : s.chanAt p 0 = some c)
    (hsl : sl.filled = false) : s.excepted p [sl] n = s.updCell c Cell.noStatus := by
  simp [State.excepted, hp, hc, hsl, forAll, State.exceptSlot]

theorem excepted_nil {s : State} {p : Nat} (n : List Byte) (hp : p < 32) : s.excepted p [] n = s := by
  simp [State.excepted, hp, forAll]

/-- The parent's frame stands in place of the shadow's own; an arm module's grants follow it (R334). -/
theorem excepted_parent (s : State) (n : List Byte) : ∃ arms, s.excepted 96 [] n = { s with
    arm := { s.arm with arms := arms }, nest := { s.nest with down := some (downOf s.fr n), held := some (downOf s.fr n) } } := by
  simp only [State.excepted, State.exceptNest, beq_self_eq_true, if_true, if_neg (by decide : ¬ 96 < 32)]
  split
  · exact ⟨_, rfl⟩
  · exact ⟨_, rfl⟩

/-! ### Digests (R334) -/

/-- The ports' records once the partner's digests of the items in `l` have come. -/
def digestsCame (l : List (Nat × Nat)) (ports : List Port) : List Port :=
  ports.mapIdx (fun p x => if p ∈ l.map (·.1) then { x with digGot := true } else x)

theorem getElem?_digestsCame (l : List (Nat × Nat)) (ports : List Port) (p : Nat) : (digestsCame l ports)[p]? =
    ports[p]?.map (fun x => if p ∈ l.map (·.1) then { x with digGot := true } else x) := List.getElem?_mapIdx

theorem digestsCame_nil (ports : List Port) : digestsCame [] ports = ports :=
  List.ext_getElem? fun p => by simp [getElem?_digestsCame]

theorem digestsCame_cons (x : Nat × Nat) (l : List (Nat × Nat)) (ports : List Port) :
    digestsCame (x :: l) ports = digestsCame l (ports.modify x.1 (fun y => { y with digGot := true })) := by
  refine List.ext_getElem? fun p => ?_
  simp only [getElem?_digestsCame, List.getElem?_modify, List.map_cons, List.mem_cons]
  cases ports[p]? with
  | none => rfl
  | some y =>
    by_cases hl : p ∈ l.map (·.1) <;> by_cases hx : x.1 = p
    · simp only [hl, hx, or_true, if_true, Option.map_some, Option.map_eq_map]
    · simp only [hl, hx, or_true, if_true, if_false, Option.map_some, Option.map_eq_map]
    · simp only [hl, hx, true_or, if_true, if_false, Option.map_some, Option.map_eq_map]
    · simp only [hl, hx, Ne.symm hx, or_false, if_false, Option.map_some, Option.map_eq_map]

/-- The slots of a port stand as they are where its digest comes. -/
theorem slots_digestCame (s : State) (q p : Nat) : ((s.updPort q (fun y => { y with digGot := true })).port p).slots = (s.port p).slots := by
  simp only [State.port, updPort_link, List.getD_eq_getElem?_getD, List.getElem?_modify]
  cases s.link.ports[p]? with
  | none => rfl
  | some y => by_cases hq : q = p <;> simp [hq]

/-- Blocks on link T while the transmitters run. -/
theorem tSend_on {s : State} (hon : s.twinOn = true) (htx : s.link.txOn = true) (b : TBody) :
    s.tSend b = s.modTwin (fun t => { t with txT := t.txT ++ [(s.fr, b)] }) := by
  simp [State.tSend, hon, htx]

/-- A block changes at most the list of blocks sent. -/
theorem tSend_spec (s : State) (b : TBody) : ∃ l, s.tSend b = s.modTwin (fun t => { t with txT := l }) ∧
    (s.twinOn = true → s.link.txOn = true → l = s.twin.txT ++ [(s.fr, b)]) := by
  by_cases h : s.twinOn = true ∧ s.link.txOn = true
  · exact ⟨_, tSend_on h.1 h.2 b, fun _ _ => rfl⟩
  · exact ⟨s.twin.txT, if_neg (by simpa using h), fun hon htx => absurd ⟨hon, htx⟩ h⟩

theorem twinOn_of_records {s t : State} (hpar : t.par = s.par) (hsys : t.sys = s.sys) (hclk : t.clk = s.clk) : t.twinOn = s.twinOn := by
  unfold State.twinOn State.pb
  rw [raw_of_par hpar (by decide), State.lanesOn, State.awake, hsys, hclk]
  rfl

/-- The exceptions that a lead sends for the items of `l` whose digest, by `dig`, differs from its own. -/
def State.exceptionsFor (s : State) (dig : Nat → Option Nat) (l : List (Nat × Nat)) : List (Nat × TBody) :=
  (l.filter (fun x => dig x.1 != some x.2)).map (fun x => (s.fr, .exception x.1 (s.port x.1).slots []))

/-- The lead with the digest of port `x.1` taken. -/
def State.digestTaken (s : State) (dig : Nat → Option Nat) (x : Nat × Nat) : State :=
  (s.updPort x.1 (fun y => { y with digGot := true })).modTwin (fun t => { t with txT := t.txT ++ s.exceptionsFor dig [x] })

theorem digestTaken_twinOn (s : State) (dig : Nat → Option Nat) (x : Nat × Nat) : (s.digestTaken dig x).twinOn = s.twinOn :=
  twinOn_of_records rfl rfl rfl

/-- A digest taken bears on no exception that follows. -/
theorem exceptionsFor_digestTaken (s : State) (dig : Nat → Option Nat) (x : Nat × Nat) (l : List (Nat × Nat)) :
    (s.digestTaken dig x).exceptionsFor dig l = s.exceptionsFor dig l :=
  List.map_congr_left fun y _ => congrArg (fun sl => (s.fr, TBody.exception y.1 sl [])) (slots_digestCame s x.1 y.1)

theorem exceptionsFor_cons (s : State) (dig : Nat → Option Nat) (x : Nat × Nat) (l : List (Nat × Nat)) :
    s.exceptionsFor dig (x :: l) = s.exceptionsFor dig [x] ++ s.exceptionsFor dig l := by
  simp only [State.exceptionsFor, ← List.map_append, ← List.filter_append, List.singleton_append]

/-- One digest of a port at a lead: the exception where it differs, and the note that it has come. -/
theorem itemCame_eq_digestTaken {s : State} (dig : Nat → Option Nat) {x : Nat × Nat} (hx : x.1 < 32) (hon : s.twinOn = true)
    (htx : s.link.txOn = true) :
    (s.when (dig x.1 != some x.2) (fun u => u.sendException x.1)).itemCame x.1 = s.digestTaken dig x := by
  cases hd : dig x.1 != some x.2 <;>
    simp [State.itemCame, State.sendException, State.digestTaken, State.exceptionsFor, hx, hd, tSend_on hon htx, State.modTwin,
      State.updPort, State.modLink]

/-- What digests of ports do at a lead. -/
theorem digests_spec (dig : Nat → Option Nat) (l : List (Nat × Nat)) (s : State) (hports : ∀ x ∈ l, x.1 < 32) (hon : s.twinOn = true)
    (htx : s.link.txOn = true) :
    forAll l (fun u x => (u.when (dig x.1 != some x.2) (fun u => u.sendException x.1)).itemCame x.1) s = { s with
      link := { s.link with ports := digestsCame l s.link.ports }
      twin := { s.twin with txT := s.twin.txT ++ s.exceptionsFor dig l } } := by
  induction l generalizing s with
  | nil => simp [forAll, State.exceptionsFor, digestsCame_nil]
  | cons x l ih =>
    obtain ⟨hx, hports⟩ := List.forall_mem_cons.mp hports
    show forAll l _ ((s.when (dig x.1 != some x.2) (fun u => u.sendException x.1)).itemCame x.1) = _
    rw [itemCame_eq_digestTaken dig hx hon htx, ih (s.digestTaken dig x) hports ((digestTaken_twinOn s dig x).trans hon) htx,
      exceptionsFor_digestTaken, digestsCame_cons, exceptionsFor_cons, ← List.append_assoc]
    rfl

/-! ### Travel time of a twin chain (R239, R241) -/

/-- The cell with the offsets that travel time `d` of the chain at port `p` gives it. -/
def State.retimed (s : State) (p d : Nat) (z : Cell) : Cell :=
  { z with arrH := (s.arrivals p z.pos d z.delta).1, arrT := (s.arrivals p z.pos d z.delta).2 }

/-- The port with requests `m` waiting behind those that wait. -/
def Port.asked (x : Port) (m : List Msg) : Port := { x with out_ := x.out_ ++ m }

theorem asked_asked (x : Port) (m k : List Msg) : (x.asked m).asked k = x.asked (m ++ k) := by simp [Port.asked]

theorem mem_portCells {s : State} {p c : Nat} {z : Cell} (hz : s.arm.cells[c]? = some z) : c ∈ s.portCells p ↔ z.conf = true ∧ z.port = p := by
  simp [State.portCells, List.mem_map, List.mem_filter, List.mem_zipIdx_iff_getElem?, hz]

/-- The offsets that a travel time gives a cell of a twin chain, by the parameters. -/
theorem retimed_of_par {s t : State} (hpar : t.par = s.par) {p : Nat} (h4 : s.topoOf p = 4) (d : Nat) : t.retimed p d = s.retimed p d := by
  funext z
  simp [State.retimed, State.arrivals, topoOf_of_par hpar, h4, State.ticksOf, tf_of_par hpar]

/-- One cell's turn in `setTrav`: its offsets, and at a lead the requests that write them. -/
def State.retime (s : State) (p d c : Nat) : State :=
  let y := s.cell c
  let a := s.arrivals p y.pos d y.delta
  if a == (y.arrH, y.arrT) then s
  else (s.updCell c (fun z => { z with arrH := a.1, arrT := a.2 })).when (!s.isShadow) (fun u =>
    u.updPort p (fun x => { x with out_ := x.out_ ++ offsetMsgs false y.pos a }))

theorem setTrav_eq (s : State) (p d : Nat) : s.setTrav p d =
    forAll (s.portCells p) (fun u c => u.retime p d c) (s.updPort p (fun x => { x with ttrav := d, loopNs := d })) := rfl

theorem modify_congr_at {α : Type} {l : List α} {k : Nat} {f g : α → α} (h : ∀ x, l[k]? = some x → f x = g x) :
    l.modify k f = l.modify k g := by
  refine List.ext_getElem? fun j => ?_
  simp only [List.getElem?_modify]
  split
  · next hj => subst hj; exact Option.map_congr h
  · rfl

theorem modify_of_fixed {α : Type} {l : List α} {k : Nat} {f : α → α} (h : ∀ x, l[k]? = some x → f x = x) : l.modify k f = l :=
  (modify_congr_at h).trans (List.modify_id k l)

theorem retime_spec (s : State) (p d c : Nat) : ∃ m : List Msg, (s.isShadow = true → m = []) ∧
    s.retime p d c = (s.updCell c (s.retimed p d)).updPort p (fun x => x.asked m) := by
  have hset : (s.updCell c (fun z => { z with arrH := (s.arrivals p (s.cell c).pos d (s.cell c).delta).1
                                              arrT := (s.arrivals p (s.cell c).pos d (s.cell c).delta).2 })) = s.updCell c (s.retimed p d) := by
    refine congrArg (fun l => s.modArm (fun a => { a with cells := l })) (modify_congr_at fun z hz => ?_)
    rw [State.cell, getD_of_some _ _ _ _ hz]
    rfl
  have hnone : ∀ u : State, u.updPort p (fun x => x.asked []) = u := fun u =>
    congrArg (fun l => u.modLink (fun k => { k with ports := l })) (modify_of_fixed fun x _ => by simp [Port.asked])
  unfold State.retime
  dsimp only
  rw [hset]
  split
  · next heq =>
    refine ⟨[], fun _ => rfl, ?_⟩
    have hsame : s.updCell c (s.retimed p d) = s := by
      refine congrArg (fun l => s.modArm (fun a => { a with cells := l })) (modify_of_fixed fun z hz => ?_)
      rw [State.cell, getD_of_some _ _ _ _ hz, beq_iff_eq] at heq
      rw [State.retimed, heq]
    rw [hsame, hnone]
  · cases hsh : s.isShadow with
    | true => exact ⟨[], fun _ => rfl, (hnone _).symm⟩
    | false => exact ⟨_, nofun, rfl⟩

/-- The cells of `l` with new offsets. -/
def State.retimedAt (s : State) (p d : Nat) (l : List Nat) (cells : List Cell) : List Cell :=
  cells.mapIdx (fun c z => if c ∈ l then s.retimed p d z else z)

theorem getElem?_retimedAt (s : State) (p d : Nat) (l : List Nat) (cells : List Cell) (c : Nat) :
    (s.retimedAt p d l cells)[c]? = cells[c]?.map (fun z => if c ∈ l then s.retimed p d z else z) := List.getElem?_mapIdx

theorem retimedAt_nil (s : State) (p d : Nat) (cells : List Cell) : s.retimedAt p d [] cells = cells :=
  List.ext_getElem? fun c => by simp [getElem?_retimedAt]

/-- New offsets are those of the cell whatever it had, so a second turn changes nothing. -/
theorem retimedAt_cons (s : State) (p d c : Nat) (l : List Nat) (cells : List Cell) :
    s.retimedAt p d (c :: l) cells = s.retimedAt p d l (cells.modify c (s.retimed p d)) := by
  have htwice (z : Cell) : s.retimed p d (s.retimed p d z) = s.retimed p d z := rfl
  refine List.ext_getElem? fun j => ?_
  simp only [getElem?_retimedAt, List.getElem?_modify, List.mem_cons]
  cases cells[j]? with
  | none => rfl
  | some z =>
    by_cases hl : j ∈ l <;> by_cases hc : c = j
    · simp only [hl, hc, htwice, or_true, if_true, Option.map_some, Option.map_eq_map]
    · simp only [hl, hc, or_true, if_true, if_false, Option.map_some, Option.map_eq_map]
    · simp only [hl, hc, true_or, if_true, if_false, Option.map_some, Option.map_eq_map]
    · simp only [hl, hc, Ne.symm hc, or_false, if_false, Option.map_some, Option.map_eq_map]

theorem retimes_spec {s : State} {p : Nat} (h4 : s.topoOf p = 4) (d : Nat) (l : List Nat) (u : State) (hpar : u.par = s.par) :
    ∃ m : List Msg, (u.isShadow = true → m = []) ∧ forAll l (fun u c => u.retime p d c) u = { u with
      link := { u.link with ports := u.link.ports.modify p (fun x => x.asked m) }
      arm := { u.arm with cells := s.retimedAt p d l u.arm.cells } } := by
  induction l generalizing u with
  | nil =>
    refine ⟨[], fun _ => rfl, ?_⟩
    rw [retimedAt_nil, modify_of_fixed fun x _ => by simp [Port.asked]]
    rfl
  | cons c l ih =>
    obtain ⟨m, hm, hturn⟩ := retime_spec u p d c
    obtain ⟨k, hk, hrest⟩ := ih (u.retime p d c) (by rw [hturn]; exact hpar)
    have hsame : (u.retime p d c).isShadow = u.isShadow := isShadow_of_par (by rw [hturn]; rfl) (by rw [hturn]; rfl)
    refine ⟨m ++ k, fun hsh => by rw [hm hsh, hk (hsame.trans hsh), List.append_nil], ?_⟩
    show forAll l _ (u.retime p d c) = _
    rw [hrest, hturn, retimed_of_par hpar h4, retimedAt_cons]
    simp only [State.updPort, State.updCell, State.modLink, State.modArm, modify_modify, asked_asked]

/-- A travel time: the port's, and the offsets of every cell of its chain. -/
theorem setTrav_spec {s : State} {p : Nat} (h4 : s.topoOf p = 4) (d : Nat) : ∃ m : List Msg, (s.isShadow = true → m = []) ∧
    s.setTrav p d = { s with
      link := { s.link with ports := s.link.ports.modify p (fun x => ({ x with ttrav := d, loopNs := d } : Port).asked m) }
      arm := { s.arm with cells := s.retimedAt p d (s.portCells p) s.arm.cells } } := by
  obtain ⟨m, hm, hall⟩ := retimes_spec h4 d (s.portCells p) (s.updPort p (fun x => { x with ttrav := d, loopNs := d })) rfl
  refine ⟨m, fun hsh => hm ((isShadow_of_par rfl rfl).trans hsh), ?_⟩
  rw [setTrav_eq, hall]
  simp only [State.updPort, State.modLink, modify_modify]

/-! ### The statement -/

/-- Settles O58: the envelope says whether a block is turned away, and each type of block has its equation for lead and shadow. -/
theorem twinBlocksTaken : Obligations.TwinBlocksTaken := by
  unfold Obligations.TwinBlocksTaken
  intro s b hon
  refine ⟨fun hcrc c hc => exec_discarded hc (tTake_badCrc hon hcrc), fun hcrc hmis c hc => exec_discarded hc (tTake_misaligned hon hcrc hmis),
    fun hcrc hal => ?_⟩
  have htake := tTake_good hon hcrc hal
  intro f
  change s.tTake b = (s, some f) at htake
  clear_value f
  refine ⟨fun hshadow => ⟨?vector, ?sealed, ?swap, ?slice, ?image, ?missing, ?parent, ?counted⟩,
    fun hlead => ⟨?ignored, ?sealLead, ?reply, ?digests⟩, ?hb, fun p x hx => ⟨?time, ?noChain, ?statuses⟩⟩
  case vector => exact fun v => exec_vector_shadow htake v hshadow
  case sealed => exact fun e hf => exec_seal_shadow htake e hshadow hf
  case swap =>
    intro a
    rw [exec_swap_shadow htake a hshadow]
    obtain ⟨l, hsent, hl⟩ := tSend_spec (s.modTwin (fun t => { t with plan := some a, replied := true })) (.swap a)
    rw [hsent]
    exact ⟨_, rfl, rfl, rfl, hl ((twinOn_of_records rfl rfl rfl).trans hon), rfl⟩
  case slice => exact fun l hphase => exec_state_taken htake l false hshadow hphase
  case image =>
    intro l hphase
    rw [exec_state_taken htake l true hshadow hphase]
    cases Config.stateImage (s.twin.imgBuf ++ l) with
    | none => exact ⟨_, rfl, rfl, rfl, rfl⟩
    | some g => exact ⟨_, rfl, rfl, rfl, rfl⟩
  case missing =>
    rintro p c y sl hp rfl hc hy hsl hroom
    have hchan : (s.excCounted 8).chanAt p 0 = some c := (chanAt_of_records rfl rfl p 0).trans hc
    have htaken : exec (.exception b p [sl] []) s = .next ((s.excCounted 8).excepted p [sl] []) :=
      exec_exception_within htake hshadow p [sl] [] hroom
    rw [htaken, excepted_missing [] hp hchan hsl]
    exact ⟨_, rfl, onlyAt_modify _ _ _, rfl, modify_at _ _ _ _ hy⟩
  case parent =>
    rintro n rfl hroom
    rw [exec_exception_within htake hshadow 96 [] n (by simpa using hroom)]
    obtain ⟨arms, harms⟩ := excepted_parent (s.excCounted (8 * ([] : List Slot).length + n.length)) n
    refine ⟨_, rfl, ?_⟩
    rw [harms]
    simp [State.excCounted, State.modTwin, State.fr]
  case counted =>
    rintro p n hp rfl
    refine ⟨fun hroom => ?_, fun hover hbefore => ?_⟩
    · rw [exec_exception_within htake hshadow p [] n (by simpa using hroom), excepted_nil _ hp]
      simp [State.excCounted, State.modTwin]
    · rw [exec_exception_excess htake hshadow p [] n (by simpa using hover) hbefore, excepted_nil _ hp]
      exact ⟨_, rfl, rfl, rfl, rfl, rfl⟩
  case ignored => exact fun v => exec_vector_lead htake v hlead
  case sealLead => exact fun e => exec_seal_lead htake e hlead
  case reply => exact fun a hplan => exec_swap_lead htake a hlead hplan
  case digests =>
    intro l hports htx
    rw [exec_digests_taken htake l hlead, digests_spec s.itemDig l s hports hon htx]
    exact ⟨_, rfl, rfl, fun p x hx => by rw [getElem?_digestsCame, hx]; rfl⟩
  case hb =>
    intro e r o
    rw [exec_hb_taken htake]
    cases s.isShadow with
    | true => exact ⟨_, rfl, rfl, rfl, rfl, heard_inTime, nofun⟩
    | false =>
      refine ⟨_, rfl, rfl, rfl, rfl, heard_inTime, fun _ => ⟨?_, ?_⟩⟩
      · rintro rfl
        exact ⟨rfl, Bool.and_false _⟩
      · rintro rfl hphase
        exact if_pos (beq_iff_eq.mpr hphase)
  case time =>
    intro d h4
    obtain ⟨m, hm, htrav⟩ := setTrav_spec h4 d
    rw [exec_relay_time htake, if_pos h4, htrav]
    refine ⟨_, _, rfl, rfl, onlyAt_modify _ _ _, modify_at _ _ _ _ hx, rfl, fun hsh => ?_, fun c z hz => ?_⟩
    · simp [Port.asked, hm hsh]
    · simp only [getElem?_retimedAt, hz, Option.map_some, mem_portCells hz]
      rfl
  case noChain => exact fun d h4 => (exec_relay_time htake p d).trans (congrArg Host.Outcome.next (if_neg h4))
  case statuses =>
    intro l hl
    rw [exec_relay_statuses htake p hl]
    exact ⟨_, rfl, rfl, onlyAt_modify _ _ _, modify_at _ _ _ _ hx⟩

end Sys2Proof.Machine
end

section
/-!
SUPPORT. What leaves the pair's record as it is, and what leaves the latch that is outstanding and the count of latches with own inputs
(R335, R343): one lemma for each operation that a late latch runs through. `PairKeeps φ s t` says that `t` shows what `s` shows of the
record through `φ`; each lemma goes on from a state that does.
-/
namespace Sys2Proof.Machine
open Sys2Proof

/-- The pair's record looks the same through `φ`. -/
def PairKeeps {α : Type} (φ : Twin → α) (s t : State) : Prop := φ t.twin = φ s.twin

namespace PairKeeps
variable {α : Type} {φ : Twin → α} {s t u : State}

/-! ### Composition -/

theorem refl (s : State) : PairKeeps φ s s := rfl

theorem when {b : Bool} {f : State → State} (h : PairKeeps φ s t) (hf : ∀ v, PairKeeps φ s v → PairKeeps φ s (f v)) :
    PairKeeps φ s (t.when b f) := by
  cases b with
  | false => exact h
  | true => exact hf t h

theorem ite {c : Prop} [Decidable c] (h : PairKeeps φ s t) (k : PairKeeps φ s u) : PairKeeps φ s (if c then t else u) := by
  split
  · exact h
  · exact k

theorem foldl {β : Type} {l : List β} {f : State → β → State} (h : PairKeeps φ s t)
    (hf : ∀ v b, PairKeeps φ s v → PairKeeps φ s (f v b)) : PairKeeps φ s (l.foldl f t) := forAll_invariant h hf

theorem forAll {β : Type} {l : List β} {f : State → β → State} (h : PairKeeps φ s t)
    (hf : ∀ v b, PairKeeps φ s v → PairKeeps φ s (f v b)) : PairKeeps φ s (forAll l f t) := forAll_invariant h hf

/-! ### The other records -/

section
variable (h : PairKeeps φ s t)
include h

theorem modClk {g : Clk → Clk} : PairKeeps φ s (t.modClk g) := h
theorem modMeas {g : Meas → Meas} : PairKeeps φ s (t.modMeas g) := h
theorem modEng {g : Eng → Eng} : PairKeeps φ s (t.modEng g) := h
theorem modKern {g : Kern → Kern} : PairKeeps φ s (t.modKern g) := h
theorem modArm {g : Arm → Arm} : PairKeeps φ s (t.modArm g) := h
theorem modLink {g : Link → Link} : PairKeeps φ s (t.modLink g) := h
theorem modNest {g : Nest → Nest} : PairKeeps φ s (t.modNest g) := h
theorem modProt {g : Prot → Prot} : PairKeeps φ s (t.modProt g) := h
theorem modHdg {g : Hdg → Hdg} : PairKeeps φ s (t.modHdg g) := h
theorem modAcq {g : Acq → Acq} : PairKeeps φ s (t.modAcq g) := h
theorem modMbx {g : Mbx → Mbx} : PairKeeps φ s (t.modMbx g) := h
theorem modPar {g : Par → Par} : PairKeeps φ s (t.modPar g) := h
theorem modSys {g : Sys → Sys} : PairKeeps φ s (t.modSys g) := h
theorem modPeat {g : Store → Store} : PairKeeps φ s (t.modPeat g) := h
theorem modFio {g : Fio → Fio} : PairKeeps φ s (t.modFio g) := h
theorem modPub {g : Pub → Pub} : PairKeeps φ s (t.modPub g) := h

theorem updCell {c : Nat} {f : Cell → Cell} : PairKeeps φ s (t.updCell c f) := h
theorem mapCells {f : Nat → Cell → Cell} : PairKeeps φ s (t.mapCells f) := h
theorem updArm {a : Nat} {f : ArmS → ArmS} : PairKeeps φ s (t.updArm a f) := h
theorem updRef {a : Nat} {f : RefA → RefA} : PairKeeps φ s (t.updRef a f) := h
theorem updPort {p : Nat} {f : Port → Port} : PairKeeps φ s (t.updPort p f) := h
theorem updTrk {k : Nat} {f : Trk → Trk} : PairKeeps φ s (t.updTrk k f) := h
theorem updChan {c : Nat} {f : Chan → Chan} : PairKeeps φ s (t.updChan c f) := h
theorem updOut {o : Nat} {f : OutS → OutS} : PairKeeps φ s (t.updOut o f) := h
theorem setRaw {id : Pid} {e : Nat} {v : Raw} : PairKeeps φ s (t.setRaw id e v) := h

/-! ### Sticky bits, records of the log, operating states -/

theorem rcSet {d e k : Nat} : PairKeeps φ s (t.rcSet d e k) := h
theorem irqSet {k : Nat} : PairKeeps φ s (t.irqSet k) := h

theorem audit {ty : Nat} {w : Who} {subj : Nat} {old new detail : Int} {result : Nat} {more : List Reason} {vals : List (List Int)} :
    PairKeeps φ s (t.audit ty w subj old new detail result more vals) := h.foldl fun _ _ h => h

theorem enter {m : MState} {w : Who} : PairKeeps φ s (t.enter m w) := h.audit.modSys.irqSet
theorem endTest : PairKeeps φ s t.endTest := .ite h.modArm.setRaw h
theorem toFaulted {w : Who} : PairKeeps φ s (t.toFaulted w) := .ite h.endTest.enter h
theorem faultCheck : PairKeeps φ s t.faultCheck := .ite h.toFaulted h
theorem openReq : PairKeeps φ s t.openReq := h.modHdg

theorem lateRefuse {ch sess cred subj ty : Nat} {why : Reason} : PairKeeps φ s (t.lateRefuse ch sess cred subj ty why) :=
  .ite h.audit h.audit.updChan.irqSet

theorem stepTime {off : Int} {frac : Nat} : PairKeeps φ s (t.stepTime off frac) := h.audit
theorem takeStep : PairKeeps φ s t.takeStep := .ite (.ite h.stepTime h.modClk) h
theorem openBooks : PairKeeps φ s t.openBooks := h
theorem toReady {w : Who} : PairKeeps φ s (t.toReady w) := h.openBooks.takeStep.enter.faultCheck

/-! ### Inputs, trackers and conditions (chapters 02 and 08) -/

theorem sampleConds {l : List (Nat × Bool)} : PairKeeps φ s (t.sampleConds l) := h.forAll fun _ _ h => h.modProt
theorem cmpDisarm {k : Nat} : PairKeeps φ s (t.cmpDisarm k) := .ite h.updTrk.rcSet.setRaw h
theorem trkCross {k : Nat} {neg : Bool} {tx : Int} : PairKeeps φ s (t.trkCross k neg tx) := .ite h.updTrk.rcSet.cmpDisarm h.updTrk

theorem trkMark {k j : Nat} {neg : Bool} {beyond : Int} {ok : Bool} {tx : Int} : PairKeeps φ s (t.trkMark k j neg beyond ok tx) :=
  .ite h (.ite h.updTrk.trkCross h.updTrk)

theorem trkCrossings {k : Nat} {a1 a2 : Angle} {t1 t2 : Int} {ok : Bool} : PairKeeps φ s (t.trkCrossings k a1 a2 t1 t2 ok) := by
  unfold State.trkCrossings
  refine foldl ?_ fun _ _ h => h.trkMark
  split
  · exact h.trkMark
  · exact h

theorem cmpFire {k : Nat} {tx ts : Int} : PairKeeps φ s (t.cmpFire k tx ts) := h.updTrk.modKern.rcSet.setRaw

theorem cmpEval {k : Nat} {a1 : Angle} {prevOk : Bool} {a2 : Angle} {t1 t2 : Int} : PairKeeps φ s (t.cmpEval k a1 prevOk a2 t1 t2) := by
  have hmark {b : Bool} {g : Trk → Trk} : PairKeeps φ s ((t.updTrk k g).when b (fun s => s.rcSet 44 k 10)) :=
    h.updTrk.when fun _ h => h.rcSet
  exact .ite (.ite hmark.cmpFire hmark) (.ite hmark.cmpFire hmark)

theorem trkFrame {k : Nat} : PairKeeps φ s (t.trkFrame k) := by
  unfold State.trkFrame
  refine .ite h ?_
  have hmag {c : Prop} [Decidable c] {g : Trk → Trk} : PairKeeps φ s (if c then t else t.updTrk k g) := .ite h h.updTrk
  have hcross {c d : Prop} [Decidable c] [Decidable d] {f g : Trk → Trk} {a1 a2 : Angle} {t1 t2 : Int} {ok : Bool} :
      PairKeeps φ s ((if d then (if c then t else t.updTrk k g).trkCrossings k a1 a2 t1 t2 ok else if c then t else t.updTrk k g).updTrk k f) :=
    (PairKeeps.ite hmag.trkCrossings hmag).updTrk
  exact .ite hcross.cmpEval hcross

theorem publishTrk : PairKeeps φ s t.publishTrk := h.modPub.modPub
theorem cmpWrite {k n : Nat} {v : Raw} : PairKeeps φ s (t.cmpWrite k n v) := .ite h.updTrk (.ite h.updTrk h)

/-! ### Arms and cells (chapter 05) -/

theorem armLatch {a : Nat} : PairKeeps φ s (t.armLatch a) := h.updArm.updArm
theorem armLatches : PairKeeps φ s t.armLatches := .ite (h.forAll fun _ _ h => h.armLatch) h

theorem pscModulate {a m : Nat} {v : Int} : PairKeeps φ s (t.pscModulate a m v) := by
  unfold State.pscModulate
  refine forAll (.ite h ?_) fun _ _ h => h.updCell
  exact ((h.when fun _ h => h.rcSet).forAll fun _ _ h => h.updCell).updArm

theorem pwmPlan {a m : Nat} {n v : Int} {turn start : Bool} {r : Sel} : PairKeeps φ s (t.pwmPlan a m n v turn start r) := by
  unfold State.pwmPlan
  refine .ite ?_ (.ite ?_ h)
  · split
    · exact h.updArm.updCell
    · exact h.updArm.rcSet
  · split
    · exact h.updArm.updCell
    · exact h

theorem selectArm {a m : Nat} {grant : Option (Int × Int)} {blk : Bool} : PairKeeps φ s (t.selectArm a m grant blk) := by
  unfold State.selectArm
  have hgone {b : Bool} : PairKeeps φ s (t.when b (fun s => (s.updArm a (fun x => { x with pwm := none, pwmWait := false })).rcSet 100 a 10)) :=
    h.when fun _ h => h.updArm.rcSet
  cases grant with
  | none => exact hgone.updArm
  | some g => exact .ite hgone.updArm hgone.updArm.pwmPlan

theorem selectAll : PairKeeps φ s t.selectAll := .ite h (h.forAll fun _ _ h => h.selectArm.updArm)
theorem refreshCount : PairKeeps φ s t.refreshCount := .ite h h.mapCells
theorem commit {m : Nat} : PairKeeps φ s (t.commit m) := h.forAll fun _ _ h => h.updCell

/-! ### Links, ledger and level commands (chapters 06 and 07) -/

theorem ledgerTake : PairKeeps φ s t.ledgerTake := h.forAll fun _ _ h => (h.when fun _ h => h.rcSet).updArm
theorem bookCell {m : Nat} {pcs : List (Nat × Nat × Int)} {c : Nat} : PairKeeps φ s (t.bookCell m pcs c) := h.updCell.when fun _ h => h.rcSet
theorem bookFrame : PairKeeps φ s t.bookFrame := .ite h (h.forAll fun _ _ h => (h.forAll fun _ _ h => h.bookCell).updArm)
theorem driftCompute : PairKeeps φ s t.driftCompute := h.mapCells.forAll fun _ _ h => h.updArm.forAll fun _ _ h => h.audit

theorem startRelease {p : Nat} : PairKeeps φ s (t.startRelease p) := h.updPort
theorem releaseAll : PairKeeps φ s t.releaseAll := h.forAll fun _ _ h => h.startRelease
theorem startRelink : PairKeeps φ s t.startRelink := h.forAll fun _ _ h => h.updPort
theorem sendBlockAll {k p : Nat} : PairKeeps φ s (State.sendBlockAll k t p) := .ite h.modLink.updPort.rcSet h
theorem blockPorts {g k : Nat} : PairKeeps φ s (t.blockPorts g k) := h.forAll fun _ _ h => h.sendBlockAll
theorem sendUp : PairKeeps φ s t.sendUp := .ite h.modNest h

theorem levelIssue : PairKeeps φ s t.levelIssue := .ite h <| h.forAll fun _ _ h =>
  ((((h.when fun _ h => h.pscModulate).when fun _ h => h.rcSet).when fun _ h => h.rcSet).updRef).when fun _ h => h.updArm

/-! ### Recorder, field terminals and store (chapters 11, 15 and 16) -/

theorem acqTrigger {mets : List (Nat × Nat × Nat)} {f0 origin originF : Nat} : PairKeeps φ s (t.acqTrigger mets f0 origin originF) := by
  unfold State.acqTrigger
  cases mets with
  | nil => exact h
  | cons m mets =>
    have hrec {g : Acq → Acq} {b : Bool} : PairKeeps φ s ((t.modAcq g).when b (fun s => s.rcSet 190 0 7)) := h.modAcq.when fun _ h => h.rcSet
    dsimp only
    split
    case h_1 | h_2 => exact .ite hrec.modNest hrec
    all_goals exact h

theorem reedbed : PairKeeps φ s t.reedbed := .ite h.modAcq (.ite h h.modAcq.acqTrigger)
theorem reserve : PairKeeps φ s t.reserve := h
theorem acqArm : PairKeeps φ s t.acqArm := .ite h.modAcq.reserve h.modAcq

theorem acqDisarm : PairKeeps φ s t.acqDisarm := by
  unfold State.acqDisarm
  split <;> exact h

theorem outFault {o bit : Nat} {on : Bool} {f : OutS → OutS} : PairKeeps φ s (t.outFault o bit on f) := h.audit.updOut

theorem faultRelease {mask : Nat} : PairKeeps φ s (t.faultRelease mask) :=
  h.forAll fun _ _ h => (PairKeeps.ite (PairKeeps.ite h.outFault h).outFault (.ite h.outFault h)).updOut

theorem recFree : PairKeeps φ s t.recFree := by
  unfold State.recFree
  split <;> exact h

omit h in
theorem recRoom {size n : Nat} (h : PairKeeps φ s t) : PairKeeps φ s (State.recRoom size n t) := by
  induction n generalizing t with
  | zero => exact h
  | succ n ih => exact .ite h (ih h.recFree)

theorem recWrite : PairKeeps φ s t.recWrite := by
  unfold State.recWrite
  split
  · exact h
  · have hroom {c : Prop} [Decidable c] {size n : Nat} : PairKeeps φ s (if c then t else State.recRoom size n t) := .ite h h.recRoom
    exact .ite hroom.modPeat hroom.modPeat.modAcq

theorem recFlush : PairKeeps φ s t.recFlush := h.foldl fun _ _ h => h.recWrite
theorem shutStart : PairKeeps φ s t.shutStart := h.recFlush.endTest.modSys
theorem selSet {fw slotB : Bool} : PairKeeps φ s (t.selSet fw slotB) := h.modSys
theorem activate {fw slotB : Bool} : PairKeeps φ s (t.activate fw slotB) := .ite h.selSet.modSys (.ite h.selSet.shutStart.modSys h.selSet)

/-! ### Loop engine, kernel and snapshot ring (chapters 03, 04 and 13) -/

theorem bankExchange : PairKeeps φ s t.bankExchange := .ite h.modEng.modPar.audit h
theorem kernStart : PairKeeps φ s t.kernStart := .ite h (PairKeeps.ite (c := (t.running && t.kern.bsEdge) = true) h.modKern h).modKern

theorem startRun {g : Grp} {bank : Bool} {knext : Option (KOut × KMode)} {due : Nat} : PairKeeps φ s (t.startRun g bank knext due) := h.modEng

theorem fastWrite {p : FastPend} : PairKeeps φ s (t.fastWrite p) := by
  unfold State.fastWrite
  split
  · exact .ite h.modMbx h.modMbx.irqSet
  · exact h

theorem fastEntry : PairKeeps φ s t.fastEntry :=
  .ite h.modMbx (.ite h.modMbx.modMbx.modMbx (.ite h.modMbx.modMbx.modMbx h.modMbx.modMbx.fastWrite))

theorem ringsControl : PairKeeps φ s t.ringsControl := h.modMbx.fastEntry

theorem store {id : Pid} {e : Nat} {v : Raw} : PairKeeps φ s (t.store id e v) := by
  unfold State.store
  split
  · exact h
  · refine .ite h (.ite h.updCell (.ite h.updCell (.ite h.updCell (.ite ?_ h.setRaw))))
    dsimp only
    split <;> exact h

/-! ### Stages of the frame work -/

theorem deliver : PairKeeps φ s t.deliver := h.modMeas
theorem fieldLatch : PairKeeps φ s t.fieldLatch := h.modFio
theorem vecSamples {v : Vec} : PairKeeps φ s (t.vecSamples v) := h.forAll fun _ _ h => h.modMeas
theorem vecDeliver {v : Vec} : PairKeeps φ s (t.vecDeliver v) := h.modMeas.modFio

theorem frameLatch {v : Option Vec} : PairKeeps φ s (t.frameLatch v) := by
  unfold State.frameLatch
  cases v with
  | none => exact ((h.ledgerTake.deliver.fieldLatch.forAll fun _ _ h => h.trkFrame).publishTrk.sampleConds).refreshCount.bookFrame
  | some v => exact ((h.vecSamples.ledgerTake.vecDeliver.modMeas.forAll fun _ _ h => h.trkFrame).publishTrk.sampleConds).refreshCount.bookFrame

theorem frameOut : PairKeeps φ s t.frameOut := by
  unfold State.frameOut
  exact (h.armLatches.when fun _ h => h.levelIssue).selectAll.reedbed.when fun _ h => h.startRun

end

/-! ### Twin: what keeps the outstanding latch and the count of latches with own inputs (chapter 09) -/

end PairKeeps

/-- The latch that is outstanding, and DIA.173's count of latches with own inputs. -/
def latchCount (t : Twin) : Nat × Nat := (t.latchDue, t.nOwn)

namespace PairKeeps
variable {s t : State}

theorem modTwin {g : Twin → Twin} (h : PairKeeps latchCount s t) (hg : latchCount (g t.twin) = latchCount t.twin) :
    PairKeeps latchCount s (t.modTwin g) := hg.trans h

section
variable (h : PairKeeps latchCount s t)
include h

theorem tSend {b : TBody} : PairKeeps latchCount s (t.tSend b) := .ite (h.modTwin rfl) h
theorem startResync : PairKeeps latchCount s t.startResync := h.modTwin rfl
theorem planSwap : PairKeeps latchCount s t.planSwap := .ite (h.modTwin rfl).tSend h

theorem digestTake : PairKeeps latchCount s t.digestTake := .ite h (h.modTwin rfl)
theorem digestForm : PairKeeps latchCount s t.digestForm := .ite h (h.modTwin rfl).tSend

theorem resyncControl : PairKeeps latchCount s t.resyncControl :=
  .ite h (.ite (.ite (h.modTwin rfl) (.ite (h.modTwin rfl) h)) (.ite (h.modTwin rfl).tSend h))

theorem leadChange {w : Who} {forced : Bool} {cause : Nat} : PairKeeps latchCount s (t.leadChange w forced cause) := h.audit.modTwin rfl

theorem plannedSwap : PairKeeps latchCount s t.plannedSwap := by
  unfold State.plannedSwap
  split
  · exact .ite h (.ite (h.modTwin rfl).leadChange (.ite (h.modTwin rfl).audit.rcSet (h.modTwin rfl).audit.rcSet.tSend))
  · exact h

/-! ### Actions of Bramble (R296) -/

theorem selfFail {k : Nat} : PairKeeps latchCount s (t.selfFail k) := .ite h (h.tSend.modTwin rfl).toFaulted

theorem takeAction {step : Bool} {k g : Nat} {a : Action} {ba : Bool} : PairKeeps latchCount s (t.takeAction step k g a ba) := by
  have hnoted : PairKeeps latchCount s (((t.audit 0x30 {} k g a.code t.fr).rcSet 164 g 0).modProt (fun p =>
      { p with acted := p.acted.set k true })) := h.audit.rcSet.modProt
  cases a with
  | none => exact h
  | block => exact (hnoted.irqSet.modProt.when fun _ h => h.blockPorts).faultCheck
  | record | bypass | breaker => exact hnoted
  | selfFail => exact .ite hnoted.irqSet.modProt.selfFail (hnoted.irqSet.modProt.modProt.when fun _ h => h.blockPorts).faultCheck

theorem matrixActs {old : State} : PairKeeps latchCount s (State.matrixActs old t) := h.forAll fun _ _ h => h.takeAction

/-! ### Writes that fall due (R466) -/

theorem hook {w : Write} : PairKeeps latchCount s (t.hook w) := by
  refine .ite h.modKern (.ite h.cmpWrite (.ite h.updCell (.ite h (.ite h.commit (.ite h.modArm (.ite h.updPort (.ite h.modProt ?_)))))))
  refine .ite (.ite (h.modTwin rfl).startResync h) (.ite (.ite h.planSwap h) (.ite h.modEng (.ite h.modEng (.ite h.modHdg ?_))))
  refine .ite (.ite h.acqArm h.acqDisarm) (.ite h.modAcq (.ite h.modAcq (.ite (.ite h.modPeat h) (.ite (.ite h.modFio h) ?_))))
  exact .ite h.faultRelease (.ite (.ite h.modClk h) (.ite h.modClk (.ite h.modClk h)))

theorem applyWrite {w : Write} : PairKeeps latchCount s (t.applyWrite w) :=
  .ite (h.when fun _ h => h.modMeas).store.hook.audit.audit (h.when fun _ h => h.modMeas).store.hook.audit

theorem paramsDue : PairKeeps latchCount s t.paramsDue :=
  .ite h (.ite (h.modPar.forAll fun _ _ h => h.applyWrite).matrixActs.faultCheck.openReq (h.modPar.forAll fun _ _ h => h.applyWrite))

/-! ### Commands that fall due (R469, R494, R495) -/

/-- A member that had declared itself failed rejoins (R349). -/
theorem rejoin : PairKeeps latchCount s
    (if t.twin.selfFailed then (t.modTwin (fun t => { t with selfFailed := false })).startResync else t) :=
  .ite (h.modTwin rfl).startResync h

theorem brambleReset {w : Who} : PairKeeps latchCount s (t.brambleReset w) :=
  .ite h.audit.modProt.mapCells.rejoin.toReady
    (h.audit.modProt.mapCells.rejoin.when fun _ h => h.forAll fun _ _ h => h.startRelease)

theorem lateWrite {w : Write} : PairKeeps latchCount s (t.lateWrite w) := by
  refine .ite (.ite h.applyWrite (.ite h.lateRefuse h.applyWrite.brambleReset)) (.ite h.applyWrite.modArm ?_)
  exact .ite h.lateRefuse (.ite h.applyWrite h.applyWrite.modArm.releaseAll)

theorem cmdDo {c : Nat × SRole × Nat × Nat} : PairKeeps latchCount s (t.cmdDo c) := by
  refine .ite ?_ (.ite (.ite h.toReady h.lateRefuse) (.ite h.lateRefuse h.activate))
  split
  · exact h.lateRefuse
  · exact h.enter.releaseAll

theorem hostDue : PairKeeps latchCount s t.hostDue :=
  (h.modPar.forAll fun _ _ h => h.lateWrite).forAll fun _ _ h => .ite h.lateRefuse h.cmdDo

/-! ### Boundaries -/

theorem frameUp : PairKeeps latchCount s t.frameUp := (h.sendUp.when fun _ h => h.rcSet).modNest.digestTake

theorem controlWork : PairKeeps latchCount s t.controlWork :=
  (PairKeeps.ite h.bankExchange.kernStart.startRun h.bankExchange).sampleConds.digestForm.resyncControl.ringsControl

theorem supMain : PairKeeps latchCount s t.supMain :=
  (h.when fun _ h => h.driftCompute).sampleConds.plannedSwap.hostDue.startRelink

theorem supWork : PairKeeps latchCount s t.supWork := supMain (h.when fun _ h => h.startRun)

end
end PairKeeps

/-- A latch outstanding that is made with own inputs is outstanding no more, and is counted (R343). -/
theorem latchLate_own (s : State) (apply : State → HostAct → State) (hdue : s.twin.latchDue ≠ 0) :
    latchCount (s.latchLate apply none).twin = (0, wrap32 (s.twin.nOwn + 1)) := by
  unfold State.latchLate
  rw [if_neg (by simpa using hdue)]
  have hown : PairKeeps latchCount (s.modTwin (fun t => { t with
      latchDue := 0, ownNow := true, ownFs := recentF s.fr t.ownFs, nOwn := wrap32 (t.nOwn + 1) })) _ := .refl _
  exact ((hown.rcSet.paramsDue.frameLatch.frameUp.frameOut).when fun _ h => h.controlWork).when fun _ h => h.supWork

theorem latchNowWith_own {s : State} (hdue : s.twin.latchDue ≠ 0) :
    latchCount (s.latchNowWith none).twin = (0, wrap32 (s.twin.nOwn + 1)) := by
  have hlate := latchLate_own s State.applyAct hdue
  unfold State.latchNowWith
  dsimp only
  split
  · exact hlate
  · exact hlate

end Sys2Proof.Machine
end

section
/-!
SUPPORT. Roles of the pair (R325, R329, R337, R338, R340, R342 to R347, R353): formation, the switch-over with the command that the cells
held over its gap, and the events of a resynchronisation; last, the statement about them.
-/
namespace Sys2Proof.Machine
open Sys2Proof

/-- An event with a detail and no reason names leaves one record in log and page buffer (R508, R509, R526). -/
theorem audit_record (s : State) (ty : Nat) (w : Who) (subj : Nat) (old new detail : Int) : ∃ y p,
    s.audit ty w subj old new detail = { s with sys := y, peat := p } ∧ LoggedOne s { s with sys := y, peat := p } ty ∧ y.st = s.sys.st := by
  obtain ⟨hlog, hsame⟩ := logPush_spec s { Audit.reset with
    tai := s.clk.tai, fnum := s.clk.frame, ty := ty, origin := w.origin, ch := w.ch, sess := w.sess, cred := w.cred, subj := subj
    old := old, new := new, detail := detail, flags := (if s.twin.sideB then 1 else 0) + (if s.isShadow then 2 else 0) }
  exact ⟨_, _, hsame, hlog, rfl⟩

theorem isShadow_true {s : State} (hpair : s.pb gTWN 1 = true) (hshadow : s.twin.shadow = true) : s.isShadow = true := by
  simp [State.isShadow, hpair, hshadow]

/-! ### Formation (R325, R329) -/

/-- The member with its partner met. -/
def State.met (s : State) (p : PairInfo) : State :=
  s.modTwin (fun t => { t with paired := true, pairF := s.fr, partner := some p, pReady := p.ready, formTai := none })

/-- The member of a pair that forms with neither leading: twin A leads, twin B shadows, under the epoch after the newer one. -/
def State.formed (s : State) (p : PairInfo) : State :=
  let u := (s.met p).modTwin (fun t =>
    { t with shadow := t.sideB, epoch := (maxEp t.epoch p.epoch + 1) % 65536, phase := if t.sideB then 4 else 0 })
  (u.audit 0x40 {} 0 0 u.twin.epoch u.fr).modTwin (fun t => { t with chgF := u.fr, lastChg := u.now })

/-- The member of a pair whose partner leads already: shadow, and out of step. -/
def State.joined (s : State) (p : PairInfo) : State :=
  ((s.met p).modTwin (fun t => { t with shadow := true, epoch := maxEp t.epoch p.epoch })).startResync

section
variable {s : State} {p : PairInfo} (hon : s.twinOn = true) (hform : s.twin.formTai.isSome = true) (hready : s.sys.st = .ready)
  (hside : p.sideB ≠ s.twin.sideB) (hdigest : p.digest = s.imageDigest)
include hon hform hready hside hdigest

theorem exec_pairFormation_meets :
    exec (.pairFormation (some p)) s = .next (if p.leading then s.joined p else s.formed p) := by
  show execPairFormation (some p) s = _
  have hother : (p.sideB == s.twin.sideB || p.digest != s.imageDigest) = false := by simp [hside, hdigest]
  simp only [execPairFormation, hon, hform, hready, hother, beq_self_eq_true, Bool.true_or, Bool.and_self, Bool.not_true,
    Bool.false_eq_true, if_false]
  rfl

end

theorem formed_spec (s : State) (p : PairInfo) : let t := s.formed p
    LoggedOne s t 0x40 ∧ t.twin.shadow = s.twin.sideB ∧ t.twin.paired = true ∧ t.twin.formTai = none ∧
      t.twin.epoch = (maxEp s.twin.epoch p.epoch + 1) % 65536 ∧ t = { s with twin := t.twin, sys := t.sys, peat := t.peat } := by
  unfold State.formed
  dsimp only
  generalize hu : (s.met p).modTwin _ = u
  obtain ⟨y, q, haudit, hlog, -⟩ := audit_record u 0x40 {} 0 0 u.twin.epoch u.fr
  rw [haudit]
  subst hu
  exact ⟨hlog, rfl, rfl, rfl, rfl, rfl⟩

/-! ### Heartbeats, swaps and resynchronisation (R338, R340, R344, R353) -/

theorem exec_heartbeatPathLost_chain {s : State} (hpair : s.pb gTWN 1 = true) (hpaired : s.twin.paired = true)
    (hmiss : s.twin.missing4 s.twin.gotC s.hbDue = true) (hother : s.twin.missing4 s.twin.gotT s.hbDue = false)
    (hnew : s.twin.lostC = false) : exec (.heartbeatPathLost true) s = .next (s.modTwin (fun t => { t with lostC := true })) := by
  show execHeartbeatPathLost true s = _
  simp [execHeartbeatPathLost, hpair, hpaired, hmiss, hother, hnew]

theorem exec_heartbeatPathLost_link {s : State} (hpair : s.pb gTWN 1 = true) (hpaired : s.twin.paired = true)
    (hmiss : s.twin.missing4 s.twin.gotT s.fr = true) (hother : s.twin.missing4 s.twin.gotC s.hbDue = false)
    (hnew : s.twin.lostT = false) : exec (.heartbeatPathLost false) s = .next (s.modTwin (fun t => { t with lostT := true })) := by
  show execHeartbeatPathLost false s = _
  simp [execHeartbeatPathLost, hpair, hpaired, hmiss, hother, hnew]

theorem exec_swapPeriodElapsed_due {s : State} (hpair : s.pb gTWN 1 = true) (hperiod : s.pn gTWN 2 = 1)
    (hdue : s.twin.lastChg + s.pn gTWN 3 ≤ s.now) (hlead : s.twin.shadow = false) (hpaired : s.twin.paired = true)
    (hplan : s.twin.plan = none) : exec .swapPeriodElapsed s = .next
      ((s.modTwin (fun t => { t with plan := some (s.nextSup s.fr + s.fpms), replied := false })).tSend (.swap (s.nextSup s.fr + s.fpms))) := by
  show execSwapPeriodElapsed s = _
  simp [execSwapPeriodElapsed, State.planSwap, hpair, hperiod, hdue, hlead, hpaired, hplan]

theorem exec_resyncComplete_matches {s : State} {d : Nat} (hshadow : s.isShadow = true) (hphase : s.twin.phase = 4)
    (hown : s.twin.ownDig = some (s.fr, d)) (hgive : s.twin.giveup = false) : exec (.resyncComplete d) s = .next
      ((s.audit 0x40 {} 8 s.twin.epoch s.twin.epoch s.fr).modTwin (fun t =>
        { t with ready := true, phase := 0, durSync := wrap32 ((s.now - t.rsStart) / 1000) })) := by
  show execResyncComplete d s = _
  simp [execResyncComplete, hshadow, hphase, hown, hgive]

theorem exec_resyncGiveup_due {s : State} (hshadow : s.isShadow = true) (hbad : s.pn gTWN 8 ≤ s.twin.joinBad)
    (hgive : s.twin.giveup = false) : exec .resyncGiveup s = .next
      ((s.audit 0x40 {} 7 s.twin.joinBad 0 s.fr).modTwin (fun t => { t with giveup := true, ready := false, phase := 0 })) := by
  show execResyncGiveup s = _
  simp [execResyncGiveup, hshadow, hbad, hgive]

/-- SEAL_MISSING makes the outstanding latch with own inputs, and may start a resynchronisation. -/
theorem exec_sealMissing_outstanding {s : State} (seen : Bool) (hshadow : s.isShadow = true) (hdue : s.twin.latchDue ≠ 0) :
    ∃ t, exec (.sealMissing seen) s = .next t ∧ latchCount t.twin = (0, wrap32 (s.twin.nOwn + 1)) := by
  have hmade := latchNowWith_own hdue
  have hrest : PairKeeps latchCount (s.latchNowWith none)
      (if seen && ((s.latchNowWith none).twin.ready || (s.latchNowWith none).twin.phase == 4) then (s.latchNowWith none).startResync
       else s.latchNowWith none) := .ite (PairKeeps.refl _).startResync (.refl _)
  refine ⟨_, ?_, Eq.trans hrest hmade⟩
  show execSealMissing seen s = _
  simp only [execSealMissing, hshadow, beq_eq_false_iff_ne.mpr hdue, Bool.not_true, Bool.or_self, Bool.false_eq_true, if_false]

/-! ### Output digests (R337) -/

/-- Mismatches in a row within 1 s of a join, with the one found now (R340). -/
def State.badJoins (s : State) : Nat :=
  let near := decide (s.now ≤ s.twin.joinTai + 1000000000) && s.twin.joinTai != 0
  if near then min 255 (s.twin.joinBad + 1) else 0

/-- A READY shadow whose digest differs from its lead's: not READY, with its sticky bit and one record. -/
def State.unmatched (s : State) (own d g : Nat) : State :=
  ((s.modTwin (fun t => { t with ready := false, plan := none, joinBad := s.badJoins })).rcSet 170 0 9).audit 0x40 {} 6 own d g

theorem unmatched_spec (s : State) (own d g : Nat) : ∃ w y p ev,
    s.unmatched own d g = { s with twin := w, sys := y, peat := p, pub := { s.pub with ev := ev } } ∧
      LoggedOne s { s with sys := y } 0x40 ∧ (evGet ev 170 0).getLsbD 9 = true ∧ w.ready = false ∧ w.plan = none := by
  obtain ⟨y, p, haudit, hlog, -⟩ := audit_record
    ((s.modTwin (fun t => { t with ready := false, plan := none, joinBad := s.badJoins })).rcSet 170 0 9) 0x40 {} 6 own d g
  exact ⟨_, y, p, _, haudit, hlog, rcBit_rcSet s 170 0 9 (by decide), rfl, rfl⟩

section
variable {s : State} {b : TBlk} {g own : Nat} (htake : s.tTake b = (s, some g)) (hown : s.twin.ownDig = some (g, own))
include htake hown

theorem exec_outDigest_same : exec (.outDigest b own) s = .next s := by
  show execOutDigest b own s = _
  simp only [execOutDigest, htake, hown, beq_self_eq_true, Bool.or_true, if_true]

theorem exec_outDigest_differs {d : Nat} (hd : d ≠ own) (hshadow : s.isShadow = true) (hready : s.twin.ready = true) :
    exec (.outDigest b d) s = .next (
      let u := s.unmatched own d g
      if u.pb gTWN 7 && !u.twin.giveup && u.twin.joinBad < u.pn gTWN 8 then u.startResync else u.modTwin (fun t => { t with phase := 0 })) := by
  show execOutDigest b d s = _
  simp only [execOutDigest, htake, hown, bne_self_eq_false, beq_eq_false_iff_ne.mpr hd, hshadow, hready, Bool.or_self, Bool.true_or,
    Bool.not_true, Bool.false_eq_true, if_false]
  rfl

theorem outDigest_mismatch {d : Nat} (hd : d ≠ own) (hshadow : s.isShadow = true) (hready : s.twin.ready = true) :
    ∃ t : State, exec (.outDigest b d) s = .next t ∧ LoggedOne s t 0x40 ∧ t.rcBit 170 0 9 = true ∧ t.twin.ready = false ∧
      t.twin.plan = none ∧ t = { s with twin := t.twin, sys := t.sys, peat := t.peat, pub := { s.pub with ev := t.pub.ev } } := by
  obtain ⟨w, y, p, ev, hu, hlog, hbit, hnot, hplan⟩ := unmatched_spec s own d g
  rw [exec_outDigest_differs htake hown hd hshadow hready, hu]
  dsimp only
  split
  · exact ⟨_, rfl, hlog, hbit, rfl, hplan, rfl⟩
  · exact ⟨_, rfl, hlog, hbit, hnot, hplan, rfl⟩

end

/-! ### Switch-over (R276, R342, R346, R347) -/

/-- A change of every configured cell shows through no view that it keeps. -/
theorem view_mapCells {β : Type} (g : Cell → β) (s : State) {f : Nat → Cell → Cell} (hg : ∀ c y, g (f c y) = g y) (k : Nat) :
    g ((s.mapCells f).cell k) = g (s.cell k) := by
  simp only [State.cell, List.getD_eq_getElem?_getD]
  cases hy : s.arm.cells[k]? with
  | none => rw [List.getElem?_eq_none (by rw [length_mapCells]; exact List.getElem?_eq_none_iff.mp hy)]
  | some y =>
    rw [mapCells_at f hy]
    cases y.conf with
    | false => rfl
    | true => exact hg k y

/-- A cell's history with the command of apply frame `h` in the frames of the gap. -/
def Cell.held (c : Cell) (h : Nat) (gap : List Nat) : Cell :=
  match c.hist.find? (fun x => x.1 == h) with
  | some x => { c with hist := c.hist.map (fun y => if gap.contains y.1 then (y.1, { st := x.2.1.st }, x.2.2) else y) }
  | none => c

theorem held_acct_cmd (c : Cell) (h : Nat) (gap : List Nat) : ((c.held h gap).acct, (c.held h gap).cmd) = (c.acct, c.cmd) := by
  unfold Cell.held
  split <;> rfl

/-- What is booked for the gap of a switch-over bears on the arms' books, and of the cells on their history alone (R276). -/
theorem holdGap_spec (s : State) (h : Nat) : ∃ arms, s.holdGap h =
    (s.mapCells (fun _ c => c.held h (s.gapOf h))).modArm (fun a => { a with arms := arms }) := by
  unfold State.holdGap
  refine forAll_invariant (P := fun v => ∃ arms, v =
    (s.mapCells (fun _ c => c.held h (s.gapOf h))).modArm (fun a => { a with arms := arms })) ⟨s.arm.arms, rfl⟩ ?_
  rintro _ a ⟨arms, rfl⟩
  dsimp only
  split
  · exact ⟨_, rfl⟩
  · exact ⟨arms, rfl⟩

theorem cell_holdGap (s : State) (h k : Nat) :
    ((s.holdGap h).cell k).acct = (s.cell k).acct ∧ ((s.holdGap h).cell k).cmd = (s.cell k).cmd := by
  obtain ⟨arms, hgap⟩ := holdGap_spec s h
  rw [hgap]
  exact Prod.mk.inj (view_mapCells (fun c => (c.acct, c.cmd)) s (fun _ c => held_acct_cmd c h (s.gapOf h)) k)

/-- The shadow at the head of the pair: its partner failed, the epoch raised, the change of lead counted and noted (R346). -/
def State.tookLead (s : State) (cause : Nat) : State :=
  (s.modTwin (fun t => { t with
    partFailed := true, plan := none, pReady := false, lostT := t.lostT || cause == 1, lostC := t.lostC || cause == 1
    shadow := false, ready := false, phase := 0, epoch := (t.epoch + 1) % 65536 })).leadChange {} true cause

theorem declareFailed_shadow {s : State} (cause : Nat) (hshadow : s.twin.shadow = true) (hwell : s.twin.selfFailed = false)
    (hplan : s.twin.plan = none) : s.declareFailed cause =
      if s.twin.ready then (s.tookLead cause).when (cause == 1) (fun u => u.holdGap (s.twin.leadF + 2))
      else (s.tookLead cause).toFaulted := by
  simp only [State.declareFailed, hshadow, hwell, hplan, Option.isSome_none, when_false, Bool.not_false, Bool.and_self, if_true]
  rfl

/-- The pair's record of the member that leads now: its partner failed, under the next epoch, with one more forced change of lead. -/
def LeadsNow (s t : State) : Prop :=
  t.twin.shadow = false ∧ t.twin.partFailed = true ∧ t.twin.phase = 0 ∧ t.twin.epoch = (s.twin.epoch + 1) % 65536 ∧
    t.twin.nForced = wrap32 (s.twin.nForced + 1)

theorem tookLead_spec (s : State) (cause : Nat) : ∃ w y p, s.tookLead cause = { s with twin := w, sys := y, peat := p } ∧
    LeadsNow s { s with twin := w } ∧ LoggedOne s { s with sys := y } 0x40 ∧ y.st = s.sys.st := by
  unfold State.tookLead State.leadChange
  generalize hu : s.modTwin _ = u
  obtain ⟨y, p, haudit, hlog, hst⟩ := audit_record u 0x40 {} cause u.twin.hbF u.twin.epoch u.fr
  rw [haudit]
  subst hu
  exact ⟨_, y, p, rfl, ⟨rfl, rfl, rfl, rfl, rfl⟩, hlog, hst⟩

theorem toFaulted_st {s : State} (h : s.sys.st = .running ∨ s.sys.st = .ready) : s.toFaulted.sys.st = .faulted := by
  have hworks : (s.sys.st == .running || s.sys.st == .ready) = true := by simpa using h
  unfold State.toFaulted
  rw [if_pos hworks]
  rfl

theorem toFaulted_twin (s : State) : s.toFaulted.twin = s.twin := PairKeeps.toFaulted (φ := fun t => t) (.refl s)

/-- The gap's books, where they are made. -/
theorem gapBooks_spec (s : State) (b : Bool) (h : Nat) : ∃ cells arms,
    s.when b (fun u => u.holdGap h) = s.modArm (fun a => { a with cells := cells, arms := arms }) ∧
      (b = false → ({ s.arm with cells := cells, arms := arms } : Arm) = s.arm) ∧
      ∀ k, ((s.modArm (fun a => { a with cells := cells, arms := arms })).cell k).acct = (s.cell k).acct ∧
        ((s.modArm (fun a => { a with cells := cells, arms := arms })).cell k).cmd = (s.cell k).cmd := by
  cases b with
  | false => exact ⟨s.arm.cells, s.arm.arms, rfl, fun _ => rfl, fun _ => ⟨rfl, rfl⟩⟩
  | true =>
    obtain ⟨arms, hgap⟩ := holdGap_spec s h
    have hcells := cell_holdGap s h
    rw [hgap] at hcells
    exact ⟨_, arms, hgap, nofun, hcells⟩

section
variable {s : State} (cause : Nat) (hshadow : s.twin.shadow = true) (hwell : s.twin.selfFailed = false) (hplan : s.twin.plan = none)
include hshadow hwell hplan

/-- A READY shadow goes on at the head of the pair; after a silence, not after FAIL, its books hold the gap's command. -/
theorem declareFailed_ready (hready : s.twin.ready = true) : ∃ t, s.declareFailed cause = t ∧ LeadsNow s t ∧
    LoggedOne s t 0x40 ∧ t.sys.st = s.sys.st ∧
    t = { s with twin := t.twin, arm := { s.arm with cells := t.arm.cells, arms := t.arm.arms }, sys := t.sys, peat := t.peat } ∧
    (cause ≠ 1 → t.arm = s.arm) ∧ (∀ k, (t.cell k).acct = (s.cell k).acct ∧ (t.cell k).cmd = (s.cell k).cmd) := by
  obtain ⟨w, y, p, hlead, hleads, hlog, hst⟩ := tookLead_spec s cause
  obtain ⟨cells, arms, hbooks, hnone, hcells⟩ := gapBooks_spec (s.tookLead cause) (cause == 1) (s.twin.leadF + 2)
  rw [declareFailed_shadow cause hshadow hwell hplan, if_pos hready, hbooks]
  rw [hlead] at hnone hcells ⊢
  exact ⟨_, rfl, hleads, hlog, hst, rfl, fun hcause => hnone (beq_false_of_ne hcause), hcells⟩

/-- A shadow that is not READY leads in FAULTED. -/
theorem declareFailed_unready (hready : s.twin.ready = false) : ∃ t, s.declareFailed cause = t ∧ LeadsNow s t ∧
    (s.sys.st = .running ∨ s.sys.st = .ready → t.sys.st = .faulted) := by
  obtain ⟨w, y, p, hlead, hleads, -, hst⟩ := tookLead_spec s cause
  rw [declareFailed_shadow cause hshadow hwell hplan, if_neg (by simp [hready]), hlead]
  refine ⟨_, rfl, ?_, fun hworks => toFaulted_st (hst ▸ hworks)⟩
  unfold LeadsNow
  rw [toFaulted_twin]
  exact hleads

end

/-- With no latch outstanding, making it drops at most the vectors that are past. -/
theorem latchNowWith_idle {s : State} (hdue : s.twin.latchDue = 0) (v : Option Vec) :
    ∃ l, s.latchNowWith v = s.modTwin (fun t => { t with vecs := l }) := by
  unfold State.latchNowWith
  simp only [latchLate_none_due hdue]
  split
  · exact ⟨s.twin.vecs, rfl⟩
  · exact ⟨_, rfl⟩

theorem exec_partnerFailed_dead {s : State} (hpair : s.pb gTWN 1 = true) (hdead : s.partnerDead = true) :
    exec .partnerFailed s = .next ((s.latchNowWith none).declareFailed 1) := by
  show execPartnerFailed s = _
  simp only [execPartnerFailed, hpair, hdead, Bool.and_self, if_true]

theorem exec_fail_taken {s : State} {b : TBlk} {f : Nat} (k : Nat) (htake : s.tTake b = (s, some f)) (hnew : s.twin.partFailed = false) :
    exec (.fail b k) s = .next ((s.latchNowWith none).declareFailed 2) := by
  show execFail b k s = _
  simp only [execFail, htake, hnew, Bool.false_eq_true, if_false]

/-- The switch-over of a shadow with no latch outstanding. -/
theorem switchOver_spec {s : State} (cause : Nat) (hdue : s.twin.latchDue = 0) (hshadow : s.twin.shadow = true)
    (hwell : s.twin.selfFailed = false) (hplan : s.twin.plan = none) : ∃ t, (s.latchNowWith none).declareFailed cause = t ∧ LeadsNow s t ∧
      (s.twin.ready = true → LoggedOne s t 0x40 ∧ t.sys.st = s.sys.st ∧
        t = { s with twin := t.twin, arm := { s.arm with cells := t.arm.cells, arms := t.arm.arms }, sys := t.sys, peat := t.peat } ∧
        (cause ≠ 1 → t.arm = s.arm) ∧ (∀ k, (t.cell k).acct = (s.cell k).acct ∧ (t.cell k).cmd = (s.cell k).cmd)) ∧
      (s.twin.ready = false → s.sys.st = .running ∨ s.sys.st = .ready → t.sys.st = .faulted) := by
  obtain ⟨l, hidle⟩ := latchNowWith_idle hdue none
  rw [hidle]
  cases hready : s.twin.ready with
  | true =>
    obtain ⟨t, ht, hleads, hrest⟩ := declareFailed_ready (s := s.modTwin (fun t => { t with vecs := l })) cause hshadow hwell hplan hready
    exact ⟨t, ht, hleads, fun _ => hrest, nofun⟩
  | false =>
    obtain ⟨t, ht, hleads, hrest⟩ := declareFailed_unready (s := s.modTwin (fun t => { t with vecs := l })) cause hshadow hwell hplan hready
    exact ⟨t, ht, hleads, nofun, fun _ => hrest⟩

/-! ### The statement -/

/-- Settles O59: each event has its equation where it is due; a switch-over goes through `switchOver_spec`, a late latch through the work
that keeps `latchCount`. -/
theorem twinRolesChange : Obligations.TwinRolesChange := by
  unfold Obligations.TwinRolesChange
  intro s hpair
  refine ⟨fun p hon hform hready hside hdigest => ⟨?forms, ?joins⟩, ?failed, fun b g own d hon hcrc hal hown hg hshadow hready => ?digest,
    ?complete, ?giveup, exec_heartbeatPathLost_chain hpair, exec_heartbeatPathLost_link hpair, ?swap, ?sealMissing⟩
  case forms =>
    intro hlead
    refine ⟨s.formed p, ?_, formed_spec s p⟩
    rw [exec_pairFormation_meets hon hform hready hside hdigest, hlead]
    rfl
  case joins =>
    intro hlead
    refine ⟨s.joined p, ?_, rfl, rfl, rfl, rfl, rfl, rfl, rfl⟩
    rw [exec_pairFormation_meets hon hform hready hside hdigest, hlead]
    rfl
  case failed =>
    intro c hc hdue hshadow hwell hplan
    obtain ⟨cause, hexec, hfail⟩ : ∃ cause, exec c s = .next ((s.latchNowWith none).declareFailed cause) ∧
        ((∃ b k, c = .fail b k) → cause ≠ 1) := by
      rcases hc with ⟨rfl, hdead⟩ | ⟨b, k, rfl, hon, hcrc, hal, hnew⟩
      · exact ⟨1, exec_partnerFailed_dead hpair hdead, nofun⟩
      · exact ⟨2, exec_fail_taken k (tTake_good hon hcrc hal) hnew, fun _ => by decide⟩
    obtain ⟨t, ht, ⟨hlead, hpart, hphase, hepoch, hforced⟩, hready, hunready⟩ := switchOver_spec cause hdue hshadow hwell hplan
    refine ⟨t, hexec.trans (congrArg _ ht), hlead, hpart, hphase, hepoch, hforced, fun hr => ?_, hunready⟩
    obtain ⟨hlog, hst, hframe, harm, hcells⟩ := hready hr
    exact ⟨hlog, hst, hframe, fun hf => harm (hfail hf), hcells⟩
  case digest =>
    have htake := tTake_good hon hcrc hal
    rw [hg] at htake
    refine ⟨?_, fun hd => outDigest_mismatch htake hown hd (isShadow_true hpair hshadow) hready⟩
    rintro rfl
    exact exec_outDigest_same htake hown
  case complete =>
    intro d hshadow hphase hown hgive
    obtain ⟨y, p, haudit, hlog, -⟩ := audit_record s 0x40 {} 8 s.twin.epoch s.twin.epoch s.fr
    rw [exec_resyncComplete_matches (isShadow_true hpair hshadow) hphase hown hgive, haudit]
    exact ⟨_, rfl, hlog, rfl, rfl, rfl, rfl⟩
  case giveup =>
    intro hshadow hbad hgive
    obtain ⟨y, p, haudit, hlog, -⟩ := audit_record s 0x40 {} 7 s.twin.joinBad 0 s.fr
    rw [exec_resyncGiveup_due (isShadow_true hpair hshadow) hbad hgive, haudit]
    exact ⟨_, rfl, hlog, rfl, rfl, rfl, rfl⟩
  case swap =>
    intro hperiod hdue hlead hpaired hplan
    obtain ⟨l, hsent, -⟩ := tSend_spec (s.modTwin (fun t => { t with plan := some (s.nextSup s.fr + s.fpms), replied := false }))
      (.swap (s.nextSup s.fr + s.fpms))
    rw [exec_swapPeriodElapsed_due hpair hperiod hdue hlead hpaired hplan, hsent]
    exact ⟨_, rfl, rfl, rfl, rfl⟩
  case sealMissing =>
    intro seen hshadow hdue
    obtain ⟨t, hexec, hcount⟩ := exec_sealMissing_outstanding seen (isShadow_true hpair hshadow) hdue
    exact ⟨t, hexec, Prod.mk.inj hcount⟩

end Sys2Proof.Machine
end

section
/-!
SUPPORT. What asks for a switch of Hedgerow's outputs to open (R362, R371, R378, R379, R383), and what a channel that drives makes of its
own switches (R357, R385).
-/
namespace Sys2Proof.Machine
open Sys2Proof

/-! ### One channel, one output pair -/

theorem ch_updCh (s : State) (b : Bool) (f : HCh → HCh) : (s.updCh b f).hdg.ch b = f (s.hdg.ch b) := by cases b <;> rfl

theorem ch_updCh_other (s : State) (b : Bool) (f : HCh → HCh) : (s.updCh b f).hdg.ch (!b) = s.hdg.ch (!b) := by cases b <;> rfl

theorem updCh_eq (s : State) (b : Bool) (f : HCh → HCh) : s.updCh b f = { s with hdg := { s.hdg with
    sa := (s.updCh b f).hdg.sa, sb := (s.updCh b f).hdg.sb } } := by cases b <;> rfl

theorem out_of_some {s : State} {k : Nat} {o : HOut} (h : s.hdg.outs[k]? = some o) : s.hdg.out k = o := getD_of_some _ _ _ _ h

theorem outs_at {s : State} {k : Nat} (h : k < s.hdg.outs.length) : s.hdg.outs[k]? = some (s.hdg.out k) := by
  simp [Hdg.out, List.getD, List.getElem?_eq_getElem h]

/-! ### What asks for a switch to open (R362, R371, R378, R379, R383) -/

/-- A fault of the pair stands (R383). -/
def HOut.faulty (o : HOut) : Bool := o.stuck || o.cross || o.extHi || o.gnd

/-- No reset has been given on matching parameter sets, or a channel fault stands (R362, R378). -/
def State.unready (s : State) : Bool :=
  !s.hdg.sa.valid || !s.hdg.sb.valid || s.hdg.sa.crc != s.hdg.sb.crc || !s.hdg.given ||
  s.hdg.sa.xcmp || s.hdg.sa.clkf || s.hdg.sa.self_ || s.hdg.sb.xcmp || s.hdg.sb.clkf || s.hdg.sb.self_

/-- A request of Bramble or of the module stands on the output (R379). -/
def State.soReq (s : State) (so : Nat) : Bool := if so == 0 then s.so1Req else s.so2Req

theorem chOff_eq (s : State) (b : Bool) (so : Nat) :
    s.chOff b so = (s.unready || (s.hdg.out so).faulty || s.soReq so || s.chDemand b so) := by
  simp only [State.chOff, State.unready, HOut.faulty, State.soReq, Bool.or_assoc]

theorem chOff_of_unready {s : State} (b : Bool) (so : Nat) (h : s.unready = true) : s.chOff b so = true := by simp [chOff_eq, h]
theorem chOff_of_faulty {s : State} (b : Bool) {so : Nat} (h : (s.hdg.out so).faulty = true) : s.chOff b so = true := by simp [chOff_eq, h]
theorem chOff_of_soReq {s : State} (b : Bool) {so : Nat} (h : s.soReq so = true) : s.chOff b so = true := by simp [chOff_eq, h]
theorem chOff_of_chDemand {s : State} {b : Bool} {so : Nat} (h : s.chDemand b so = true) : s.chOff b so = true := by simp [chOff_eq, h]

theorem unready_of_xcmp {s : State} (b : Bool) (h : (s.hdg.ch b).xcmp = true) : s.unready = true := by
  cases b <;> simp_all [Hdg.ch, State.unready]

theorem unready_of_clkf {s : State} (b : Bool) (h : (s.hdg.ch b).clkf = true) : s.unready = true := by
  cases b <;> simp_all [Hdg.ch, State.unready]

/-- A latched function demands the outputs of its reaction off (R366, R369). -/
theorem chDemand_of_function {s : State} {b : Bool} {f so : Nat} (hf : f < 4) (hlat : (s.hdg.ch b).fnLat.getD f false = true)
    (hr : s.reacts (s.pn gHDG 41 f) so = true) : s.chDemand b so = true := by
  refine Bool.or_eq_true_iff.mpr (.inl (List.any_eq_true.mpr ⟨f, List.mem_range.mpr hf, ?_⟩))
  simp only [hlat, hr, Bool.and_self]

/-- A DISC_FAULT demands off the outputs of its pair's function, and both where that function has no reaction of its own (R374). -/
theorem chDemand_of_disc {s : State} (b : Bool) {k so : Nat} (hk : k < 8) (hfn : s.pairFn k ≠ 0) (hdisc : s.hdg.dsF.getD k false = true)
    (hr : pairReact (s.pairFn k) = none ∨ ∃ r, pairReact (s.pairFn k) = some r ∧ s.reacts r so = true) : s.chDemand b so = true := by
  refine Bool.or_eq_true_iff.mpr (.inr (List.any_eq_true.mpr ⟨k, List.mem_range.mpr hk, ?_⟩))
  rcases hr with hnone | ⟨r, hsome, hr⟩
  · simp only [hnone, hdisc, Bool.true_and, bne_iff_ne, ne_eq, hfn, not_false_eq_true]
  · simp only [hsome, hdisc, hr, Bool.or_true, Bool.and_self]

/-! ### The switches (R357, R371, R381, R385) -/

/-- The pair with channel `b`'s switch as `off` asks for: SA's is the high side, SB's the low side. -/
def HOut.driven (o : HOut) (b off : Bool) : HOut := if b then { o with ls := !off } else { o with hs := !off }

theorem driven_faulty (o : HOut) (b off : Bool) : (o.driven b off).faulty = o.faulty := by cases b <;> rfl

/-- Both channels ask for the output to be off: both switches are open. -/
theorem driven_both_off (o : HOut) (b : Bool) :
    ((o.driven b true).driven (!b) true).hs = false ∧ ((o.driven b true).driven (!b) true).ls = false := by
  cases b <;> exact ⟨rfl, rfl⟩

theorem getD_modify_faulty (l : List HOut) (k so : Nat) (b off : Bool) :
    ((l.modify k (fun o => o.driven b off)).getD so HOut.reset).faulty = (l.getD so HOut.reset).faulty := by
  simp only [List.getD, List.getElem?_modify]
  cases l[so]? with
  | none => rfl
  | some o => by_cases hk : k = so <;> simp [hk, driven_faulty]

/-- What asks for a switch rests on the pairs through their faults alone. -/
theorem chOff_outs {s : State} {l : List HOut} (b : Bool) {so : Nat} (h : (l.getD so HOut.reset).faulty = (s.hdg.out so).faulty) :
    (s.modHdg (fun x => { x with outs := l })).chOff b so = s.chOff b so := by
  rw [chOff_eq, chOff_eq, ← h]
  rfl

/-- The pairs once channel `b` has driven its switches. -/
def State.drivenOuts (s : State) (b : Bool) : List HOut :=
  (s.hdg.outs.modify 0 (fun o => o.driven b (s.chOff b 0))).modify 1 (fun o => o.driven b (s.chOff b 1))

/-- A channel drives its switch of each output as what asks for it stands before. -/
theorem drive_eq (s : State) (b : Bool) : s.drive b = s.modHdg (fun h => { h with outs := s.drivenOuts b }) := by
  have hone := chOff_outs (s := s) (l := s.hdg.outs.modify 0 (fun o => o.driven b (s.chOff b 0))) b (so := 1) (getD_modify_faulty ..)
  unfold State.drivenOuts
  rw [← hone]
  rfl

theorem length_drivenOuts (s : State) (b : Bool) : (s.drivenOuts b).length = s.hdg.outs.length := by simp [State.drivenOuts]

/-- Driving changes nothing that asks for a switch. -/
theorem chOff_drive (s : State) (b c : Bool) (so : Nat) : (s.drive b).chOff c so = s.chOff c so := by
  rw [drive_eq]
  exact chOff_outs c ((getD_modify_faulty ..).trans (getD_modify_faulty ..))

theorem out_drive {s : State} (b : Bool) {k : Nat} (hk : k < 2) (hlen : s.hdg.outs.length = 2) :
    (s.drive b).hdg.out k = (s.hdg.out k).driven b (s.chOff b k) := by
  have hat := outs_at (hlen ▸ hk)
  rw [drive_eq]
  refine getD_of_some _ _ _ _ ?_
  obtain rfl | rfl : k = 0 ∨ k = 1 := by omega
  · simp [State.drivenOuts, hat]
  · simp [State.drivenOuts, hat]

theorem length_outs_drive (s : State) (b : Bool) : (s.drive b).hdg.outs.length = s.hdg.outs.length := by
  rw [drive_eq]
  exact length_drivenOuts s b

/-- With both channels driven, each switch of an output is open exactly where its channel asks for it. -/
theorem out_drive_drive {s : State} (b : Bool) {k : Nat} (hk : k < 2) (hlen : s.hdg.outs.length = 2) :
    ((s.drive b).drive (!b)).hdg.out k = ((s.hdg.out k).driven b (s.chOff b k)).driven (!b) (s.chOff (!b) k) := by
  rw [out_drive (!b) hk ((length_outs_drive s b).trans hlen), out_drive b hk hlen, chOff_drive]

end Sys2Proof.Machine
end

section
/-!
SUPPORT. Events of Hedgerow besides the safety cycle (R360 to R362, R366, R368, R369, R374, R382 to R384): each is a change of its records
and then, but for a message, a drive of its channel or of both.
-/
namespace Sys2Proof.Machine
open Sys2Proof

theorem mem_outs_two {P : HOut → Prop} {l : List HOut} (hlen : l.length = 2) (h : ∀ k, k < 2 → P (l.getD k HOut.reset)) :
    ∀ o ∈ l, P o := by
  intro o ho
  obtain ⟨k, hk, rfl⟩ := List.mem_iff_getElem.mp ho
  simpa [List.getD, List.getElem?_eq_getElem hk] using h k (hlen ▸ hk)

theorem safetyOff_iff {s : State} (hlen : s.hdg.outs.length = 2) :
    s.safetyOff ↔ ∀ k, k < 2 → (s.hdg.out k).hs = false ∧ (s.hdg.out k).ls = false := by
  constructor
  · intro h k hk
    exact h _ (List.mem_of_getElem? (outs_at (hlen ▸ hk)))
  · exact mem_outs_two (P := fun o => o.hs = false ∧ o.ls = false) hlen

/-- A drive of both channels, from the one that has found something. -/
def State.driveBoth (s : State) (b : Bool) : State := (s.drive b).drive (!b)

theorem driveBoth_eq (s : State) (b : Bool) :
    s.driveBoth b = s.modHdg (fun h => { h with outs := (s.drive b).drivenOuts (!b) }) := by
  rw [State.driveBoth, drive_eq (s.drive b)]
  simp only [drive_eq]
  rfl

/-- An output that both channels ask off is de-energised once both have driven. -/
theorem driveBoth_off {s : State} (b : Bool) {k : Nat} (hk : k < 2) (hlen : s.hdg.outs.length = 2) (hoff : ∀ c, s.chOff c k = true) :
    ((s.driveBoth b).hdg.out k).hs = false ∧ ((s.driveBoth b).hdg.out k).ls = false := by
  rw [State.driveBoth, out_drive_drive b hk hlen, hoff, hoff]
  exact driven_both_off _ _

/-! ### Channel faults (R360, R361, R362) -/

theorem driveBoth_unready {s : State} (b : Bool) (hlen : s.hdg.outs.length = 2) (h : s.unready = true) : (s.driveBoth b).safetyOff := by
  refine (safetyOff_iff ?_).mpr fun k hk => driveBoth_off b hk hlen fun c => chOff_of_unready c k h
  rw [State.driveBoth, length_outs_drive, length_outs_drive, hlen]

theorem hdgOn_of {s : State} (h : s.sys.st ≠ .dormant) : s.hdgOn = true := bne_iff_ne.mpr h

theorem exec_xcmpFault_due {s : State} {b : Bool} (hon : s.sys.st ≠ .dormant)
    (hdue : 3 ≤ (s.hdg.ch b).noMsg ∨ 2 < (s.hdg.ch b).crcBad ∨ ∃ i, i < 6 ∧ s.pn gHDG 81 < (s.hdg.ch b).xErr.getD i 0) :
    exec (.xcmpFault b) s = .next ((s.updCh b (fun c => { c with xcmp := true, okSince := 0 })).driveBoth b) := by
  refine congrArg Host.Outcome.next (if_pos ?_)
  simp only [hdgOn_of hon, Bool.true_and, Bool.or_eq_true, decide_eq_true_eq, List.any_eq_true, List.mem_range]
  rcases hdue with h | h | h
  · exact .inl (.inl h)
  · exact .inr h
  · exact .inl (.inr h)

theorem exec_clockFault {s : State} (b : Bool) (d : Int) (hon : s.sys.st ≠ .dormant) :
    exec (.clockFault b d) s = .next (if 200 < d.natAbs then
      (s.updCh b (fun c => { c with clkf := true, okSince := 0 })).driveBoth b else s) := by
  show Host.Outcome.next _ = _
  simp only [hdgOn_of hon, Bool.true_and, decide_eq_true_eq]
  rfl

/-- A fault that a channel finds opens every switch, and changes Hedgerow alone. -/
theorem fault_driveBoth {s : State} (b : Bool) (f : HCh → HCh) (hlen : s.hdg.outs.length = 2) (h : (s.updCh b f).unready = true) :
    ∃ t, (s.updCh b f).driveBoth b = t ∧ t = { s with hdg := t.hdg } ∧ t.hdg.ch b = f (s.hdg.ch b) ∧ t.safetyOff :=
  ⟨_, rfl, by rw [driveBoth_eq]; rfl, by rw [driveBoth_eq]; exact ch_updCh s b f, driveBoth_unready b (by rwa [updCh_eq]) h⟩

/-- Settles O28: either fault makes its channel unfit, and with it every switch is asked open. -/
theorem channelFaultsOpenBothOutputs : Obligations.ChannelFaultsOpenBothOutputs := by
  intro s b hon hlen
  refine ⟨fun hdue => ?_, fun d hd => ?_, fun d hd => ?_⟩
  · obtain ⟨t, ht, hframe, hch, hoff⟩ := fault_driveBoth b (fun c => { c with xcmp := true, okSince := 0 }) hlen
      (unready_of_xcmp b (congrArg HCh.xcmp (ch_updCh s b _)))
    exact ⟨t, ht ▸ exec_xcmpFault_due hon hdue, hframe, congrArg HCh.xcmp hch, hoff⟩
  · obtain ⟨t, ht, hframe, hch, hoff⟩ := fault_driveBoth b (fun c => { c with clkf := true, okSince := 0 }) hlen
      (unready_of_clkf b (congrArg HCh.clkf (ch_updCh s b _)))
    exact ⟨t, by rw [exec_clockFault b d hon, if_pos hd, ht], hframe, congrArg HCh.clkf hch, hoff⟩
  · rw [exec_clockFault b d hon, if_neg (Nat.not_lt.mpr hd)]

/-! ### Cross-link (R360) -/

theorem exec_crossLinkMessage {s : State} (b : Bool) (m : Option XMsg) (hon : s.sys.st ≠ .dormant) :
    ∃ f, exec (.crossLinkMessage b m) s = .next (s.updCh b f) ∧ ∀ c : HCh, (f c).msg = m ∧ (f c).fnLat = c.fnLat ∧
      (f c).noMsg = (if m.isSome then 0 else c.noMsg) ∧
      ∀ x, m = some x → (f c).crcBad = if x.crc == c.crc then 0 else min 255 (c.crcBad + 1) := by
  have hrun : exec (.crossLinkMessage b m) s = execCrossLinkMessage b m s := rfl
  simp only [hrun, execCrossLinkMessage, hdgOn_of hon, Bool.not_true, Bool.false_eq_true, if_false]
  cases m with
  | none => exact ⟨_, rfl, fun c => ⟨rfl, rfl, rfl, nofun⟩⟩
  | some x => exact ⟨_, rfl, fun c => ⟨rfl, rfl, rfl, fun y hy => by cases hy; rfl⟩⟩

/-- Settles O29: the row is a change of the one channel's record. -/
theorem crossLinkMessageCompared : Obligations.CrossLinkMessageCompared := by
  intro s b hon
  refine ⟨fun x => ?_, ?_⟩
  · obtain ⟨f, hexec, hf⟩ := exec_crossLinkMessage b (some x) hon
    obtain ⟨hmsg, hlat, hno, hcrc⟩ := hf (s.hdg.ch b)
    refine ⟨_, hexec, rfl, ?_⟩
    rw [ch_updCh, ch_updCh_other, updCh_eq]
    refine ⟨hmsg, hno, fun heq => ?_, fun hne => ?_, rfl, rfl, hlat⟩
    · rw [hcrc x rfl, if_pos (beq_iff_eq.mpr heq)]
    · rw [hcrc x rfl, if_neg fun heq => hne (beq_iff_eq.mp heq)]
  · obtain ⟨f, hexec, hf⟩ := exec_crossLinkMessage b none hon
    obtain ⟨hmsg, -, hno, -⟩ := hf (s.hdg.ch b)
    refine ⟨_, hexec, rfl, ?_⟩
    rw [ch_updCh, ch_updCh_other, updCh_eq]
    exact ⟨hmsg, hno, rfl, rfl⟩


/-! ### Demands (R364, R366, R368, R369, R374) -/

/-- The switch of channel `b`. -/
def HOut.switch (o : HOut) (b : Bool) : Bool := if b then o.ls else o.hs

theorem driven_switch (o : HOut) (b off : Bool) : (o.driven b off).switch b = !off := by cases b <;> rfl

theorem driven_switch_other (o : HOut) (b off : Bool) : (o.driven b off).switch (!b) = o.switch (!b) := by cases b <;> rfl

/-- The delay of a safe stop that starts now, in cycles; one that runs or has reached SO1 goes on (R368). -/
def State.stopStarted (s : State) : Option Nat :=
  if s.hdg.stop.isNone && !s.hdg.so1Off then some ((s.pn gHDG 42 + 999999) / 1000000) else s.hdg.stop

/-- A demand that the channel does not hold yet is latched and counted, and with SAFE_STOP its delay starts (R366, R368, R369). -/
theorem latchFn_free {s : State} {b : Bool} {f : Nat} (hfree : (s.hdg.ch b).fnLat.getD f false ≠ true) : ∃ dem,
    s.latchFn b f = ((s.updCh b (fun c => { c with fnLat := c.fnLat.set f true })).modHdg (fun h => { h with dem := dem })).when
      (s.pn gHDG 41 f == 2) State.startStop := by
  unfold State.latchFn
  rw [if_neg hfree]
  cases !(s.hdg.ch (!b)).fnLat.getD f false <;> exact ⟨_, rfl⟩

/-- A latch changes Hedgerow alone, and no output; with SAFE_STOP the first one starts the delay. -/
theorem latchFn_spec {s : State} {b : Bool} {f : Nat} (hf : f < (s.hdg.ch b).fnLat.length) : ∃ h, s.latchFn b f = { s with hdg := h } ∧
    h.outs = s.hdg.outs ∧ (h.ch b).fnLat.getD f false = true ∧
    ((s.hdg.ch b).fnLat.getD f false = false → s.pn gHDG 41 f = 2 → h.stop = s.stopStarted) := by
  by_cases hlat : (s.hdg.ch b).fnLat.getD f false = true
  · exact ⟨s.hdg, if_pos hlat, rfl, hlat, fun hfree => absurd (hfree.symm.trans hlat) Bool.false_ne_true⟩
  · obtain ⟨dem, heq⟩ := latchFn_free hlat
    have hset : ((s.hdg.ch b).fnLat.set f true).getD f false = true := by simp [List.getD, hf]
    rw [heq]
    cases hstop : s.pn gHDG 41 f == 2 with
    | false => cases b <;> exact ⟨_, rfl, rfl, hset, fun _ hsafe => absurd hsafe (beq_eq_false_iff_ne.mp hstop)⟩
    | true => cases b <;> exact ⟨_, rfl, rfl, hset, fun _ _ => rfl⟩

theorem exec_functionRaised_due {s : State} {b : Bool} {f : Nat} (hon : s.sys.st ≠ .dormant) (hf : f < 4)
    (hcond : (s.hdg.ch b).cond.getD f false = true) : exec (.functionRaised b f) s = .next ((s.latchFn b f).drive b) :=
  congrArg Host.Outcome.next (if_pos (by simp only [hdgOn_of hon, hcond, hf, decide_true, Bool.and_self]))

/-- The switch of an output that the driving channel asks off is open. -/
theorem drive_switch_off {s : State} {b : Bool} {k : Nat} (hk : k < 2) (hlen : s.hdg.outs.length = 2) (hoff : s.chOff b k = true) :
    ((s.drive b).hdg.out k).switch b = false := by
  rw [out_drive b hk hlen, driven_switch, hoff]
  rfl

/-- The two channels driven in either order give the same. -/
theorem driven_comm (o : HOut) (b x y : Bool) : (o.driven b x).driven (!b) y = (o.driven (!b) y).driven b x := by cases b <;> rfl

theorem driveBoth_switch_off {s : State} (a : Bool) {b : Bool} {k : Nat} (hk : k < 2) (hlen : s.hdg.outs.length = 2)
    (hoff : s.chOff b k = true) : ((s.driveBoth a).hdg.out k).switch b = false := by
  rw [State.driveBoth, out_drive_drive a hk hlen]
  obtain rfl | rfl : b = a ∨ b = !a := by cases a <;> cases b <;> simp
  · rw [driven_comm, driven_switch, hoff]
    rfl
  · rw [driven_switch, hoff]
    rfl

theorem exec_safeStopDelayEnd_due {s : State} (hstop : s.hdg.stop = some 0) :
    exec .safeStopDelayEnd s = .next ((s.modHdg (fun h => { h with stop := none, so1Off := true })).driveBoth false) :=
  congrArg Host.Outcome.next (if_pos (by simp [hstop]))

theorem exec_discFault_due {s : State} {k : Nat} (hk : k < 8) (hfn : s.pairFn k ≠ 0) (hdue : s.pn gHDG 52 k ≤ s.hdg.dsN.getD k 0) :
    exec (.discFault k) s = .next (((s.modHdg (fun h => { h with dsF := h.dsF.set k true })).when
      (s.pairFn k == 1) State.startStop).driveBoth false) :=
  congrArg Host.Outcome.next (if_pos (by simp only [hk, bne_iff_ne.mpr hfn, hdue, decide_true, Bool.and_self]))

/-- A pair's DISC_FAULT latches; with SAFE_STOP the delay may start, and no output changes (R368, R374). -/
theorem discLatch_spec {s : State} {k : Nat} (start : Bool) (hk : k < s.hdg.dsF.length) : ∃ h,
    (s.modHdg (fun h => { h with dsF := h.dsF.set k true })).when start State.startStop = { s with hdg := h } ∧ h.outs = s.hdg.outs ∧
      h.dsF.getD k false = true := by
  have hset : (s.hdg.dsF.set k true).getD k false = true := by simp [List.getD, hk]
  cases start <;> exact ⟨_, rfl, rfl, hset⟩

/-- A safe stop that has run out reaches SO1 as well as SO2 (R368). -/
theorem reacts_safeStop {s : State} {r : Nat} (so : Nat) (hr : r = 2) (hso1 : s.hdg.so1Off = true) : s.reacts r so = true := by
  subst hr
  exact Bool.or_eq_true_iff.mpr (.inr hso1)

/-- Settles O30: each event has put what asks for its outputs in place by the time its channels drive. -/
theorem safetyDemandsOpenOutputs : Obligations.SafetyDemandsOpenOutputs := by
  intro s hon hlen
  refine ⟨fun b f hf hcond hlat => ?raised, fun hstop => ?delay, fun k hk hfn hdue hdisc => ?disc⟩
  case raised =>
    obtain ⟨h, hlatch, houts, hset, hstart⟩ := latchFn_spec (hlat ▸ hf)
    rw [exec_functionRaised_due hon hf hcond, hlatch]
    refine ⟨_, rfl, rfl, hset, fun k hk hr => ?_, fun hfree hsafe hnone hso1 => ?_⟩
    · have hdem : State.chDemand { s with hdg := h } b k = true := chDemand_of_function hf hset hr
      exact drive_switch_off hk (houts ▸ hlen) (chOff_of_chDemand hdem)
    · show h.stop = _
      rw [hstart hfree hsafe, State.stopStarted, hnone, hso1]
      rfl
  case delay =>
    rw [exec_safeStopDelayEnd_due hstop]
    refine ⟨_, rfl, by rw [driveBoth_eq]; rfl, by rw [driveBoth_eq]; rfl, by rw [driveBoth_eq]; rfl, fun b f hf hlat hsafe => ?_⟩
    generalize hu : s.modHdg (fun h => { h with stop := none, so1Off := true }) = u
    have hdem : u.chDemand b 0 = true := by
      subst hu
      exact chDemand_of_function hf hlat (reacts_safeStop 0 hsafe rfl)
    have hlen' : u.hdg.outs.length = 2 := hu ▸ hlen
    exact driveBoth_switch_off false (by decide) hlen' (chOff_of_chDemand hdem)
  case disc =>
    obtain ⟨h, hlatch, houts, hset⟩ := discLatch_spec (s.pairFn k == 1) (hdisc ▸ hk)
    rw [exec_discFault_due hk hfn hdue, hlatch]
    refine ⟨_, rfl, by rw [driveBoth_eq]; rfl, by rw [driveBoth_eq]; exact hset, fun so hso hr => ?_⟩
    have hdem (c : Bool) : State.chDemand { s with hdg := h } c so = true := chDemand_of_disc c hk hfn hset hr
    exact driveBoth_off false hso (houts ▸ hlen) fun c => chOff_of_chDemand (hdem c)


/-! ### Tests of the output pairs (R382, R383, R384) -/

/-- A test of an output in its slot (R382). -/
theorem exec_outputPairTest_slot {s : State} {so : Nat} (obs : PairObs) (hon : s.sys.st ≠ .dormant) (hso : so < 2)
    (hslot : s.testSlot so = true) : exec (.outputPairTest so obs) s = .next (
      if s.chOff false so || s.chOff true so || obs.cut then
        if (s.hdg.out so).hs || (s.hdg.out so).ls then
          ((s.updSo so (fun o => { o with pend := true, disc := wrap32 (o.disc + 1), lastT := s.now })).rcSet 180 0 24).driveBoth false
        else s.updSo so (fun o => { o with pend := true, lastT := s.now })
      else (s.updSo so (fun o => { o with
        runs := wrap32 (o.runs + 1), pend := false, lastT := s.now, stuck := o.stuck || (!obs.hsFollows || !obs.lsFollows)
        cross := o.cross || (obs.crossSeen && !s.pb gHDG 72)
        okN := if obs.crossSeen && !s.pb gHDG 72 then 0 else o.okN })).driveBoth false) := by
  show Host.Outcome.next _ = _
  refine congrArg _ (if_neg ?_)
  simp [hdgOn_of hon, hso, hslot]

/-- The pair that was `x` before both channels drove is `x` still but for its switches. -/
theorem outs_driveBoth {s : State} {a : Bool} {so : Nat} {x : HOut} (hso : so < 2) (hlen : s.hdg.outs.length = 2)
    (hx : s.hdg.outs[so]? = some x) : (s.driveBoth a).hdg.outs[so]? = some ((x.driven a (s.chOff a so)).driven (!a) (s.chOff (!a) so)) := by
  have hlen' : (s.driveBoth a).hdg.outs.length = 2 := by rw [State.driveBoth, length_outs_drive, length_outs_drive, hlen]
  rw [outs_at (hlen' ▸ hso), State.driveBoth, out_drive_drive a hso hlen, out_of_some hx]

/-- Driving its switches touches nothing else of a pair. -/
theorem driven_driven_eq (o : HOut) (b x y : Bool) : ∃ hs ls, (o.driven b x).driven (!b) y = { o with hs := hs, ls := ls } := by
  cases b <;> exact ⟨_, _, rfl⟩

/-- A pair at a test, once both channels have driven: it is as the test left it but for its switches, which are open where it has a
fault. -/
theorem updSo_driveBoth_spec {s : State} {so : Nat} {o : HOut} (f : HOut → HOut) (hso : so < 2) (hlen : s.hdg.outs.length = 2)
    (ho : s.hdg.outs[so]? = some o) : ∃ hs ls,
      ((s.updSo so f).driveBoth false).hdg.outs[so]? = some { f o with hs := hs, ls := ls } ∧
        ((f o).faulty = true → hs = false ∧ ls = false) := by
  have hat : (s.updSo so f).hdg.outs[so]? = some (f o) := modify_at _ _ _ _ ho
  have hdrive := outs_driveBoth (a := false) hso ((List.length_modify ..).trans hlen) hat
  by_cases hfault : (f o).faulty = true
  · have hoff (c : Bool) : (s.updSo so f).chOff c so = true := chOff_of_faulty c (by rwa [out_of_some hat])
    rw [hoff, hoff] at hdrive
    exact ⟨false, false, hdrive, fun _ => ⟨rfl, rfl⟩⟩
  · obtain ⟨hs, ls, heq⟩ := driven_driven_eq (f o) false ((s.updSo so f).chOff false so) ((s.updSo so f).chOff (!false) so)
    exact ⟨hs, ls, heq ▸ hdrive, fun h => absurd h hfault⟩

theorem faulty_of {o : HOut} (h : o.stuck = true ∨ o.cross = true) : o.faulty = true := by
  rcases h with h | h <;> simp [HOut.faulty, h]

/-- Settles O31: a test that is not cut counts and latches what it sees before the channels drive. -/
theorem outputPairTestDetects : Obligations.OutputPairTestDetects := by
  intro s so obs o hon hso hlen ho hslot
  rw [exec_outputPairTest_slot obs hon hso hslot, out_of_some ho]
  refine ⟨fun hfalse htrue hcut => ?_, fun hoff hclosed => ?_, fun hoff hhs hls => ?_⟩
  · rw [hfalse, htrue, hcut, if_neg (by decide)]
    obtain ⟨hs, ls, hat, hopen⟩ := updSo_driveBoth_spec (fun o => { o with
      runs := wrap32 (o.runs + 1), pend := false, lastT := s.now, stuck := o.stuck || (!obs.hsFollows || !obs.lsFollows)
      cross := o.cross || (obs.crossSeen && !s.pb gHDG 72)
      okN := if obs.crossSeen && !s.pb gHDG 72 then 0 else o.okN }) hso hlen ho
    exact ⟨_, _, rfl, by rw [driveBoth_eq]; rfl, hat, rfl, rfl, rfl, (Bool.or_assoc ..).symm, rfl, fun h => hopen (faulty_of h)⟩
  · have hcut : (s.chOff false so || s.chOff true so || obs.cut) = true := by simpa [or_assoc] using hoff
    have hon' : (o.hs || o.ls) = true := Bool.or_eq_true_iff.mpr hclosed
    rw [hcut, hon', if_pos rfl, if_pos rfl]
    obtain ⟨hs, ls, hat, -⟩ := updSo_driveBoth_spec (s := s.rcSet 180 0 24)
      (fun o => { o with pend := true, disc := wrap32 (o.disc + 1), lastT := s.now }) hso hlen ho
    exact ⟨_, _, rfl, by rw [driveBoth_eq]; rfl, hat, rfl, rfl, rfl, by rw [driveBoth_eq]; exact rcBit_rcSet s 180 0 24 (by decide)⟩
  · have hcut : (s.chOff false so || s.chOff true so || obs.cut) = true := by
      rcases hoff with h | h <;> simp [h]
    have hopen : (o.hs || o.ls) = false := by rw [hhs, hls]; rfl
    rw [hcut, hopen, if_pos rfl, if_neg Bool.false_ne_true]
    exact ⟨_, rfl, rfl, onlyAt_modify _ _ _, modify_at _ _ _ _ ho⟩

end Sys2Proof.Machine
end

section
/-!
SUPPORT. The safety cycle (R359, R376): what it leaves as it is beside the samples of its channel, and the switches it drives at its end.
-/
namespace Sys2Proof.Machine
open Sys2Proof

/-! ### The safety cycle (R359, R362, R371, R374, R376, R378, R379, R383) -/

/-- Samples of a channel, with its count of cycles (R359). -/
abbrev Samples := List F32 × List Bool × List Bool × Nat

/-- What a channel has sampled, and its count of cycles. -/
def HCh.samples (c : HCh) : Samples := (c.q, c.lev, c.brk, c.cycles)

/-- A state without Hedgerow, the sticky bits and the log. -/
def State.besideCycle (s : State) : State := { s with
  hdg := Hdg.reset, pub := { s.pub with ev := [] }
  sys := { s.sys with log := [], seqNo := 0, logOver := 0 }, peat := { s.peat with pageN := 0, pageT := 0 } }

/-- The switches of the output pairs. -/
def Hdg.switches (h : Hdg) : List (Bool × Bool) := h.outs.map (fun o => (o.hs, o.ls))

/-- What a safety cycle leaves as it is once its channel has taken its samples: all beside Hedgerow, the sticky bits and the log; the
samples of SA and of SB; the switches. -/
def State.cycleView (s : State) : State × Samples × Samples × List (Bool × Bool) :=
  (s.besideCycle, s.hdg.sa.samples, s.hdg.sb.samples, s.hdg.switches)

/-- The cycle leaves `v` of that. -/
def InCycle (v : State × Samples × Samples × List (Bool × Bool)) (t : State) : Prop := t.cycleView = v

/-- A change of one unit that a map does not see. -/
theorem map_modify_eq {α β : Type} {f : α → α} {g : α → β} (hf : ∀ x, g (f x) = g x) (l : List α) (k : Nat) :
    (l.modify k f).map g = l.map g := by
  refine List.ext_getElem? fun j => ?_
  simp only [List.getElem?_map, List.getElem?_modify]
  cases l[j]? with
  | none => rfl
  | some x => by_cases hk : k = j <;> simp [hk, hf]

namespace InCycle
variable {v : State × Samples × Samples × List (Bool × Bool)} {t u : State}

theorem when {b : Bool} {f : State → State} (h : InCycle v t) (hf : ∀ x, InCycle v x → InCycle v (f x)) : InCycle v (t.when b f) := by
  cases b with
  | false => exact h
  | true => exact hf t h

theorem ite {c : Prop} [Decidable c] (h : InCycle v t) (k : InCycle v u) : InCycle v (if c then t else u) := by
  split
  · exact h
  · exact k

theorem forAll {β : Type} {l : List β} {f : State → β → State} (h : InCycle v t) (hf : ∀ x b, InCycle v x → InCycle v (f x b)) :
    InCycle v (forAll l f t) := forAll_invariant h hf

section
variable (h : InCycle v t)
include h

/-- A change of Hedgerow that leaves samples and switches. -/
theorem modHdg {g : Hdg → Hdg} (hsa : (g t.hdg).sa.samples = t.hdg.sa.samples) (hsb : (g t.hdg).sb.samples = t.hdg.sb.samples)
    (houts : (g t.hdg).switches = t.hdg.switches) : InCycle v (t.modHdg g) := by
  refine Eq.trans ?_ h
  simp only [State.cycleView, modHdg_hdg, hsa, hsb, houts]
  rfl

theorem updCh {b : Bool} {f : HCh → HCh} (hf : ∀ c, (f c).samples = c.samples) : InCycle v (t.updCh b f) := by
  cases b
  · exact h.modHdg (hf _) rfl rfl
  · exact h.modHdg rfl (hf _) rfl

theorem updSo {k : Nat} {f : HOut → HOut} (hf : ∀ o, ((f o).hs, (f o).ls) = (o.hs, o.ls)) : InCycle v (t.updSo k f) :=
  h.modHdg rfl rfl (map_modify_eq hf _ _)

theorem rcSet {d e k : Nat} : InCycle v (t.rcSet d e k) := h
theorem audit {ty : Nat} {w : Who} {subj : Nat} : InCycle v (t.audit ty w subj) := forAll_invariant h fun _ _ h => h

theorem startStop : InCycle v t.startStop := h

theorem latchFn {b : Bool} {f : Nat} : InCycle v (t.latchFn b f) :=
  .ite h (.when (.when (h.updCh fun _ => rfl) fun _ h => h) fun _ h => h.startStop)

theorem latchPair {b : Bool} {k : Nat} : InCycle v (t.latchPair b k) :=
  .ite h (.when (.when (h.updCh fun _ => rfl) fun _ h => h) fun _ h => h.startStop)

theorem discCycle : InCycle v t.discCycle :=
  h.forAll fun _ _ h => .ite h (.ite h (when h fun _ h => h.rcSet))

theorem soFaults {obs : HdgObs} : InCycle v (t.soFaults obs) := h.forAll fun _ _ h => h.updSo fun _ => rfl

/-- A reset clears latches, delays and faults; it touches no sample and closes no switch (R376, R378). -/
theorem hdgReset : InCycle v t.hdgReset := by
  refine .ite h.rcSet.audit (h.modHdg rfl rfl ?_)
  simp only [Hdg.switches, List.map_map]
  rfl

theorem resetPair : InCycle v t.resetPair := by
  unfold State.resetPair
  split
  · exact h
  · exact .ite h (.ite (when h fun _ h => h.hdgReset) h)

end
end InCycle

/-- What the cycle of channel `b` leaves of state `s`: its own samples are the new ones. -/
def State.sampledView (s : State) (b : Bool) (obs : HdgObs) : State × Samples × Samples × List (Bool × Bool) :=
  let own := (s.hdgQ b obs, obs.levels, obs.breaks, (s.hdg.ch b).cycles + 1)
  (s.besideCycle, if b then s.hdg.sa.samples else own, if b then own else s.hdg.sb.samples, s.hdg.switches)

/-- A channel that takes new samples. -/
theorem inCycle_sampled {s : State} {b : Bool} {obs : HdgObs} {f : HCh → HCh}
    (hf : ∀ c, (f c).samples = (s.hdgQ b obs, obs.levels, obs.breaks, c.cycles + 1)) : InCycle (s.sampledView b obs) (s.updCh b f) := by
  cases b
  · exact congrArg (fun x => (s.besideCycle, x, s.hdg.sb.samples, s.hdg.switches)) (hf _)
  · exact congrArg (fun x => (s.besideCycle, s.hdg.sa.samples, x, s.hdg.switches)) (hf _)

/-- A safety cycle takes its samples and evaluates, latches and resets; then the channel sends its message and drives. -/
theorem safetyCycle_spec (s : State) (b : Bool) (obs : HdgObs) : ∃ u, InCycle (s.sampledView b obs) u ∧
    s.safetyCycle b obs = (u.updCh b (fun c => { c with sent := some (u.xmsg b obs) })).drive b := by
  unfold State.safetyCycle
  extract_lets now base ang mag bad c0 quiet sampled verdicts steps q judged paired received faults delayed host taken done
  have hsampled : InCycle (s.sampledView b obs) sampled := inCycle_sampled fun _ => rfl
  have hjudged : InCycle (s.sampledView b obs) judged := hsampled.updCh fun _ => rfl
  have hpaired : InCycle (s.sampledView b obs) paired := hjudged.forAll fun _ _ h => h.when fun _ h => h.latchPair
  have hreceived : InCycle (s.sampledView b obs) received := by
    unfold received
    split
    · exact .forAll (hpaired.forAll fun _ _ h => h.when fun _ h => h.latchFn) fun _ _ h => h.when fun _ h => h.latchPair
    · exact hpaired
  have hfaults : InCycle (s.sampledView b obs) faults := hreceived.discCycle.soFaults
  clear_value faults
  have hdelayed : InCycle (s.sampledView b obs) delayed := hfaults.modHdg rfl rfl rfl
  have htaken : InCycle (s.sampledView b obs) taken := hdelayed.modHdg rfl rfl rfl
  exact ⟨done, .ite hreceived (htaken.when fun _ h => h.hdgReset).resetPair, rfl⟩

theorem exec_safetyCycle_on {s : State} (b : Bool) (obs : HdgObs) (hon : s.sys.st ≠ .dormant) :
    exec (.safetyCycle b obs) s = .next (s.safetyCycle b obs) := congrArg Host.Outcome.next (if_pos (hdgOn_of hon))

/-- A switch is asked for by none of all that asks for it. -/
theorem chOff_eq_false {s : State} {b : Bool} {so : Nat} (h : s.chOff b so = false) :
    s.unready = false ∧ (s.hdg.out so).faulty = false ∧ s.soReq so = false ∧ s.chDemand b so = false := by
  simpa only [chOff_eq, Bool.or_eq_false_iff, and_assoc] using h

section
variable {s t : State} (h : t.besideCycle = s.besideCycle)
include h

theorem frame_of_besideCycle : t = { s with hdg := t.hdg, pub := t.pub, sys := t.sys, peat := t.peat } :=
  congrArg (fun x : State => { x with hdg := t.hdg, pub := t.pub, sys := t.sys, peat := t.peat }) h

theorem st_of_besideCycle : t.sys.st = s.sys.st := by
  show t.besideCycle.sys.st = s.besideCycle.sys.st
  rw [h]

theorem pn_of_besideCycle (g n e : Nat) : t.pn g n e = s.pn g n e := by
  show t.besideCycle.pn g n e = s.besideCycle.pn g n e
  rw [h]

theorem soReq_of_besideCycle (so : Nat) : t.soReq so = s.soReq so := by
  show t.besideCycle.soReq so = s.besideCycle.soReq so
  rw [h]

end

theorem besideCycle_drive (s : State) (b : Bool) : (s.drive b).besideCycle = s.besideCycle := by
  rw [drive_eq]
  rfl

theorem ch_drive (s : State) (b c : Bool) : (s.drive b).hdg.ch c = s.hdg.ch c := by
  rw [drive_eq]
  rfl

theorem getD_switches (h : Hdg) (k : Nat) : h.switches.getD k (HOut.reset.hs, HOut.reset.ls) = ((h.out k).hs, (h.out k).ls) := by
  simp only [Hdg.switches, Hdg.out, List.getD, List.getElem?_map]
  cases h.outs[k]? with
  | none => rfl
  | some o => rfl

theorem switch_of_switches {g h : Hdg} (heq : g.switches = h.switches) (b : Bool) (k : Nat) : (g.out k).switch b = (h.out k).switch b := by
  have hk : ((g.out k).hs, (g.out k).ls) = ((h.out k).hs, (h.out k).ls) := by rw [← getD_switches, ← getD_switches, heq]
  cases b
  · exact congrArg Prod.fst hk
  · exact congrArg Prod.snd hk

/-- What the cycle of channel `b` has left of both channels. -/
theorem InCycle.channels {s t : State} {b : Bool} {obs : HdgObs} (h : InCycle (s.sampledView b obs) t) :
    t.besideCycle = s.besideCycle ∧ t.hdg.switches = s.hdg.switches ∧
      (t.hdg.ch b).samples = (s.hdgQ b obs, obs.levels, obs.breaks, (s.hdg.ch b).cycles + 1) ∧
      (t.hdg.ch (!b)).samples = (s.hdg.ch (!b)).samples := by
  simp only [InCycle, State.cycleView, State.sampledView, Prod.mk.injEq] at h
  obtain ⟨hbeside, hsa, hsb, hswitches⟩ := h
  cases b
  · exact ⟨hbeside, hswitches, hsa, hsb⟩
  · exact ⟨hbeside, hswitches, hsb, hsa⟩

theorem ready_of_unready_eq_false {s : State} (h : s.unready = false) :
    s.hdg.given = true ∧ s.hdg.sa.valid = true ∧ s.hdg.sb.valid = true ∧ s.hdg.sa.crc = s.hdg.sb.crc ∧
      s.hdg.sa.xcmp = false ∧ s.hdg.sb.xcmp = false ∧ s.hdg.sa.clkf = false ∧ s.hdg.sb.clkf = false ∧
      s.hdg.sa.self_ = false ∧ s.hdg.sb.self_ = false := by
  simp only [State.unready, Bool.or_eq_false_iff, Bool.not_eq_false', bne_eq_false_iff_eq] at h
  obtain ⟨⟨⟨⟨⟨⟨⟨⟨⟨hva, hvb⟩, hcrc⟩, hgiven⟩, hxa⟩, hca⟩, hsa⟩, hxb⟩, hcb⟩, hsb⟩ := h
  exact ⟨hgiven, hva, hvb, hcrc, hxa, hxb, hca, hcb, hsa, hsb⟩

theorem sound_of_faulty_eq_false {o : HOut} (h : o.faulty = false) :
    o.stuck = false ∧ o.cross = false ∧ o.extHi = false ∧ o.gnd = false := by
  simpa only [HOut.faulty, Bool.or_eq_false_iff, and_assoc] using h

/-- No latched function and no DISC_FAULT reaches an output that its channel demands nothing of. -/
theorem noDemand_spec {s : State} {b : Bool} {so : Nat} (h : s.chDemand b so = false) :
    (∀ f, f < 4 → (s.hdg.ch b).fnLat.getD f false = true → s.reacts (s.pn gHDG 41 f) so = false) ∧
    (∀ j, j < 8 → s.hdg.dsF.getD j false = true → s.pairFn j ≠ 0 →
      ∃ r, pairReact (s.pairFn j) = some r ∧ s.reacts r so = false) := by
  have hnot : ¬ s.chDemand b so = true := Bool.eq_false_iff.mp h
  refine ⟨fun f hf hlat => Bool.eq_false_iff.mpr fun hr => hnot (chDemand_of_function hf hlat hr), fun j hj hdisc hfn => ?_⟩
  cases hreact : pairReact (s.pairFn j) with
  | none => exact absurd (chDemand_of_disc b hj hfn hdisc (.inl hreact)) hnot
  | some r => exact ⟨r, rfl, Bool.eq_false_iff.mpr fun hr => hnot (chDemand_of_disc b hj hfn hdisc (.inr ⟨r, hreact, hr⟩))⟩

/-- Settles O27: by the time the channel drives, its samples are taken and nothing beside Hedgerow and the log has changed; a switch it
closes is asked open by none of what asks for it. -/
theorem safetyCycleDrivesOwnSwitches : Obligations.SafetyCycleDrivesOwnSwitches := by
  intro s b obs hon hlen
  obtain ⟨u, hu, heq⟩ := safetyCycle_spec s b obs
  rw [exec_safetyCycle_on b obs hon, heq]
  have hsent : (u.updCh b (fun c => { c with sent := some (u.xmsg b obs) })).hdg.ch b = { u.hdg.ch b with sent := some (u.xmsg b obs) } :=
    ch_updCh u b _
  have hw := hu.updCh (b := b) (f := fun c => { c with sent := some (u.xmsg b obs) }) fun _ => rfl
  obtain ⟨hbeside, hswitches, hown, hother⟩ := hw.channels
  generalize u.updCh b (fun c => { c with sent := some (u.xmsg b obs) }) = w at *
  have hbeside' := (besideCycle_drive w b).trans hbeside
  have hlen' : w.hdg.outs.length = 2 := by
    simpa [Hdg.switches, hlen] using congrArg List.length hswitches
  simp only [HCh.samples, Prod.mk.injEq] at hown hother
  obtain ⟨hq, hlev, hbrk, hcycles⟩ := hown
  obtain ⟨hqo, hlevo, -, -⟩ := hother
  refine ⟨_, rfl, frame_of_besideCycle hbeside', st_of_besideCycle hbeside', ?_⟩
  simp only [ch_drive]
  refine ⟨hq, ⟨u.xmsg b obs, congrArg HCh.sent hsent, (congrArg HCh.q hsent).symm.trans hq, (congrArg HCh.fnLat hsent).symm,
    (congrArg HCh.prLat hsent).symm, (congrArg HCh.crc hsent).symm⟩, hlev, hbrk, hcycles, hqo, hlevo,
    (length_outs_drive w b).trans hlen', fun k hk => ?_⟩
  have hout := out_drive b hk hlen'
  have hswitch : ((w.drive b).hdg.out k).switch b = !(w.drive b).chOff b k := by rw [hout, driven_switch, chOff_drive]
  have hkept : ((w.drive b).hdg.out k).switch (!b) = (s.hdg.out k).switch (!b) := by
    rw [hout, driven_switch_other, switch_of_switches hswitches]
  refine ⟨hswitch, ?_, fun hclosed => ?_⟩
  · cases b
    · exact hkept
    · exact hkept
  · have hfree : (w.drive b).chOff b k = false := by simpa using hswitch.symm.trans hclosed
    obtain ⟨hready, hsound, hreq, hdemand⟩ := chOff_eq_false hfree
    obtain ⟨hgiven, hva, hvb, hcrc, hxa, hxb, hca, hcb, hsa, hsb⟩ := ready_of_unready_eq_false hready
    obtain ⟨hstuck, hcross, hext, hgnd⟩ := sound_of_faulty_eq_false hsound
    obtain ⟨hfns, hpairs⟩ := noDemand_spec hdemand
    simp only [ch_drive, pn_of_besideCycle hbeside'] at hfns
    simp only [State.pairFn, pn_of_besideCycle hbeside'] at hpairs
    rw [soReq_of_besideCycle hbeside'] at hreq
    refine ⟨hgiven, hva, hvb, hcrc, hxa, hxb, hca, hcb, hsa, hsb, hstuck, hcross, hext, hgnd, ?_, hfns, hpairs⟩
    obtain rfl | rfl : k = 0 ∨ k = 1 := by omega
    · exact hreq
    · exact hreq

end Sys2Proof.Machine
end

section
/-!
SUPPORT. The safety outputs at rest (R379, R441, R491). `StaysSafe s t` says of a stretch of work that it closes no switch where all were
open, and that where it brings the module to rest all are open; one lemma for each operation, which goes on from a state reached so far.
Here: what it composes of, and the operations of chapters 02 to 08 and 12.
-/
namespace Sys2Proof.Machine
open Sys2Proof

/-! ### At rest -/

/-- A state in which the module asks both safety outputs off: DORMANT, STANDBY or CONFIG_PENDING (R379, R441, R491). -/
def State.resting (s : State) : Prop := s.sys.st = .dormant ∨ s.sys.st = .standby ∨ s.sys.st = .configPending

/-- From `s` to `t` no switch of a safety output closes where all were open, and where the module comes to rest all are open. -/
def StaysSafe (s t : State) : Prop := (s.safetyOff → t.safetyOff) ∧ (t.resting → s.resting ∨ t.safetyOff)

theorem soReq_of_resting {s : State} (h : s.resting) (so : Nat) : s.soReq so = true := by
  have hmod : s.modReq = true := by
    rcases h with h | h | h <;> simp [State.modReq, h]
  simp [State.soReq, State.so1Req, State.so2Req, hmod]

/-- A standing request leaves both switches of both outputs open (R379). -/
theorem openReq_of_resting {s : State} (h : s.resting) : s.openReq.safetyOff := by
  have h1 : s.so1Req = true := soReq_of_resting h 0
  have h2 : s.so2Req = true := soReq_of_resting h 1
  intro o ho
  simp only [State.openReq, modHdg_hdg, h1, h2, if_true, List.mem_cons, List.not_mem_nil, or_false] at ho
  rcases ho with rfl | rfl <;> exact ⟨rfl, rfl⟩

/-- No switch of the output is closed. -/
def HOut.isOpen (o : HOut) : Prop := o.hs = false ∧ o.ls = false

theorem out_isOpen {s : State} (h : s.safetyOff) (k : Nat) : (s.hdg.out k).isOpen := by
  cases hk : s.hdg.outs[k]? with
  | none => simp [Hdg.out, List.getD, hk, HOut.isOpen, HOut.reset]
  | some o => exact out_of_some hk ▸ h o (List.mem_of_getElem? hk)

theorem off_safetyOff (s : State) : s.off.safetyOff := by
  intro o ho
  obtain rfl : o = HOut.reset := by simpa [State.off, State.reset, Hdg.reset] using ho
  exact ⟨rfl, rfl⟩

theorem booted_safetyOff (s : State) (slot : Nat) (strapped vbatOk : Bool) (secs : Nat) : (s.booted slot strapped vbatOk secs).safetyOff :=
  off_safetyOff s

theorem enter_safetyOff {s : State} (m : MState) (w : Who) : (s.enter m w).safetyOff ↔ s.safetyOff := Iff.rfl

/-- Life-cycle requests leave the module's state. -/
theorem lifeApply_st (s : State) : s.lifeApply.sys.st = s.sys.st := by
  unfold State.lifeApply
  dsimp only
  split <;> rfl

namespace StaysSafe
variable {s t u : State}

/-! ### Composition -/

theorem refl (s : State) : StaysSafe s s := ⟨id, .inl⟩

/-- All switches are open. -/
theorem of_off (h : t.safetyOff) : StaysSafe s t := ⟨fun _ => h, fun _ => .inr h⟩

theorem trans (h : StaysSafe s t) (k : StaysSafe t u) : StaysSafe s u := by
  obtain ⟨hoff, hrest⟩ := h
  obtain ⟨koff, krest⟩ := k
  refine ⟨koff ∘ hoff, fun hu => ?_⟩
  rcases krest hu with ht | hu
  · exact (hrest ht).imp_right koff
  · exact .inr hu

theorem safetyInv (h : StaysSafe s t) (hs : s.safetyInv) : t.safetyInv := by
  obtain ⟨hoff, hrest⟩ := h
  intro ht
  rcases hrest ht with hrest | ht
  · exact hoff (hs hrest)
  · exact ht

theorem when {b : Bool} {f : State → State} (h : StaysSafe s t) (hf : ∀ v, StaysSafe s v → StaysSafe s (f v)) :
    StaysSafe s (t.when b f) := by
  cases b with
  | false => exact h
  | true => exact hf t h

theorem ite {c : Prop} [Decidable c] (h : StaysSafe s t) (k : StaysSafe s u) : StaysSafe s (if c then t else u) := by
  split
  · exact h
  · exact k

/-- A choice between two answers of a command. -/
theorem iteP {α : Type} {c : Prop} [Decidable c] {p q : State × α} (h : StaysSafe s p.1) (k : StaysSafe s q.1) :
    StaysSafe s (if c then p else q).1 := by
  split
  · exact h
  · exact k

theorem foldl {β : Type} {l : List β} {f : State → β → State} (h : StaysSafe s t)
    (hf : ∀ v b, StaysSafe s v → StaysSafe s (f v b)) : StaysSafe s (l.foldl f t) := forAll_invariant h hf

theorem forAll {β : Type} {l : List β} {f : State → β → State} (h : StaysSafe s t)
    (hf : ∀ v b, StaysSafe s v → StaysSafe s (f v b)) : StaysSafe s (forAll l f t) := forAll_invariant h hf

section
variable (h : StaysSafe s t)
include h

/-- A change of Hedgerow that leaves its outputs. -/
theorem modHdg {g : Hdg → Hdg} (hg : (g t.hdg).outs = t.hdg.outs) : StaysSafe s (t.modHdg g) :=
  h.trans ⟨fun hoff o ho => hoff o (hg ▸ ho), .inl⟩

/-- A change that leaves the module's state. -/
theorem modSys {g : Sys → Sys} (hg : (g t.sys).st = t.sys.st) : StaysSafe s (t.modSys g) := by
  refine h.trans ⟨id, fun hrest => .inl ?_⟩
  simpa only [State.resting, modSys_sys, hg] using hrest

theorem openReq : StaysSafe s t.openReq := by
  refine h.trans ⟨fun hoff o ho => ?_, fun hrest => .inr (openReq_of_resting hrest)⟩
  have hopened {b : Bool} {k : Nat} : (if b then { t.hdg.out k with hs := false, ls := false } else t.hdg.out k).isOpen := by
    cases b with
    | false => exact out_isOpen hoff k
    | true => exact ⟨rfl, rfl⟩
  simp only [State.openReq, modHdg_hdg, List.mem_cons, List.not_mem_nil, or_false] at ho
  rcases ho with rfl | rfl <;> exact hopened

/-- Frames that leave as the work of their boundary leaves the module. -/
theorem sent {v u : State} (hu : StaysSafe (t.asSent v) u) : StaysSafe s (u.afterSent t) := h.trans ⟨hu.1, .inl⟩

theorem audit {ty : Nat} {w : Who} {subj : Nat} {old new detail : Int} {result : Nat} {more : List Reason} {vals : List (List Int)} :
    StaysSafe s (t.audit ty w subj old new detail result more vals) := .foldl h fun _ _ h => h

/-- A state in which the outputs may be energised is entered. -/
theorem enter {m : MState} {w : Who} (hm : m ≠ .dormant ∧ m ≠ .standby ∧ m ≠ .configPending) : StaysSafe s (t.enter m w) := by
  obtain ⟨hdormant, hstandby, hpending⟩ := hm
  refine (h.audit (ty := 0x20) (w := w) (old := t.sys.st.code) (new := m.code)).trans ⟨id, fun hrest => absurd hrest ?_⟩
  rintro (h | h | h)
  · exact hdormant h
  · exact hstandby h
  · exact hpending h

/-! ### Records of the state and shared operations -/

theorem modClk {g : Clk → Clk} : StaysSafe s (t.modClk g) := h
theorem modMeas {g : Meas → Meas} : StaysSafe s (t.modMeas g) := h
theorem modEng {g : Eng → Eng} : StaysSafe s (t.modEng g) := h
theorem modKern {g : Kern → Kern} : StaysSafe s (t.modKern g) := h
theorem modArm {g : Arm → Arm} : StaysSafe s (t.modArm g) := h
theorem modLink {g : Link → Link} : StaysSafe s (t.modLink g) := h
theorem modNest {g : Nest → Nest} : StaysSafe s (t.modNest g) := h
theorem modProt {g : Prot → Prot} : StaysSafe s (t.modProt g) := h
theorem modTwin {g : Twin → Twin} : StaysSafe s (t.modTwin g) := h
theorem modAcq {g : Acq → Acq} : StaysSafe s (t.modAcq g) := h
theorem modMbx {g : Mbx → Mbx} : StaysSafe s (t.modMbx g) := h
theorem modPar {g : Par → Par} : StaysSafe s (t.modPar g) := h
theorem modPeat {g : Store → Store} : StaysSafe s (t.modPeat g) := h
theorem modFio {g : Fio → Fio} : StaysSafe s (t.modFio g) := h
theorem modHw {g : Hw → Hw} : StaysSafe s (t.modHw g) := h
theorem modPub {g : Pub → Pub} : StaysSafe s (t.modPub g) := h
theorem modTrk {g : List Trk → List Trk} : StaysSafe s (t.modTrk g) := h
theorem setRaw {id : Pid} {e : Nat} {v : Raw} : StaysSafe s (t.setRaw id e v) := h
theorem updCell {c : Nat} {f : Cell → Cell} : StaysSafe s (t.updCell c f) := h
theorem mapCells {f : Nat → Cell → Cell} : StaysSafe s (t.mapCells f) := h
theorem updArm {a : Nat} {f : ArmS → ArmS} : StaysSafe s (t.updArm a f) := h
theorem updRef {a : Nat} {f : RefA → RefA} : StaysSafe s (t.updRef a f) := h
theorem updPort {p : Nat} {f : Port → Port} : StaysSafe s (t.updPort p f) := h
theorem updKid {i : Nat} {f : Nst → Nst} : StaysSafe s (t.updKid i f) := h
theorem updTrk {k : Nat} {f : Trk → Trk} : StaysSafe s (t.updTrk k f) := h
theorem updChan {c : Nat} {f : Chan → Chan} : StaysSafe s (t.updChan c f) := h
theorem updOut {o : Nat} {f : OutS → OutS} : StaysSafe s (t.updOut o f) := h
theorem rcSet {d e k : Nat} : StaysSafe s (t.rcSet d e k) := h
theorem rcPublish {lo hi : Nat} : StaysSafe s (t.rcPublish lo hi) := h
theorem irqSet {k : Nat} : StaysSafe s (t.irqSet k) := h

/-! ### Inputs and trackers (chapter 02) -/

theorem condSample {k : Nat} {b : Bool} : StaysSafe s (t.condSample k b) := h

theorem ocSample {i : Nat} {odd : Bool} {c : Int} : StaysSafe s (t.ocSample i odd c) :=
  h.foldl fun _ _ h => h.condSample.modProt

theorem rawSample {i : Nat} {c : Int} : StaysSafe s (t.rawSample i c) := h

theorem convert {k : Nat} {smp : Sample} : StaysSafe s (t.convert k smp) :=
  ((h.modMeas.when fun _ h => h.rcSet).when fun _ h => h.rawSample).ocSample

theorem deliver : StaysSafe s t.deliver := h
theorem cmpDisarm {k : Nat} : StaysSafe s (t.cmpDisarm k) := .ite h.updTrk.rcSet.setRaw h
theorem trkCross {k : Nat} {neg : Bool} {tx : Int} : StaysSafe s (t.trkCross k neg tx) := .ite h.updTrk.rcSet.cmpDisarm h.updTrk

theorem trkMark {k j : Nat} {neg : Bool} {beyond : Int} {ok : Bool} {tx : Int} : StaysSafe s (t.trkMark k j neg beyond ok tx) :=
  .ite h (.ite h.updTrk.trkCross h.updTrk)

theorem trkCrossings {k : Nat} {a1 a2 : Angle} {t1 t2 : Int} {ok : Bool} : StaysSafe s (t.trkCrossings k a1 a2 t1 t2 ok) := by
  unfold State.trkCrossings
  refine .foldl ?_ fun _ _ h => h.trkMark
  split
  · exact h.trkMark
  · exact h

theorem cmpFire {k : Nat} {tx ts : Int} : StaysSafe s (t.cmpFire k tx ts) := h.updTrk.modKern.rcSet.setRaw

theorem cmpEval {k : Nat} {a1 : Angle} {prevOk : Bool} {a2 : Angle} {t1 t2 : Int} : StaysSafe s (t.cmpEval k a1 prevOk a2 t1 t2) := by
  have hmark {b : Bool} {g : Trk → Trk} : StaysSafe s ((t.updTrk k g).when b (fun s => s.rcSet 44 k 10)) :=
    h.updTrk.when fun _ h => h.rcSet
  exact .ite (.ite hmark.cmpFire hmark) (.ite hmark.cmpFire hmark)

theorem trkFrame {k : Nat} : StaysSafe s (t.trkFrame k) := by
  unfold State.trkFrame
  refine .ite h ?_
  have hmag {c : Prop} [Decidable c] {g : Trk → Trk} : StaysSafe s (if c then t else t.updTrk k g) := .ite h h.updTrk
  have hcross {c d : Prop} [Decidable c] [Decidable d] {f g : Trk → Trk} {a1 a2 : Angle} {t1 t2 : Int} {ok : Bool} :
      StaysSafe s ((if d then (if c then t else t.updTrk k g).trkCrossings k a1 a2 t1 t2 ok
        else if c then t else t.updTrk k g).updTrk k f) :=
    (StaysSafe.ite hmag.trkCrossings hmag).updTrk
  exact .ite hcross.cmpEval hcross

theorem trkTimeout {k : Nat} : StaysSafe s (t.trkTimeout k) := .ite h.updTrk.rcSet h
theorem cmpWrite {k n : Nat} {v : Raw} : StaysSafe s (t.cmpWrite k n v) := .ite h.updTrk (.ite h.updTrk h)

/-! ### Loop engine and kernel (chapters 03 and 04) -/

theorem startRun {g : Grp} {bank : Bool} {knext : Option (KOut × KMode)} {due : Nat} : StaysSafe s (t.startRun g bank knext due) :=
  h.modEng

theorem numericEv {l : List Nat} {inv : Bool} : StaysSafe s (t.numericEv l inv) := h.modEng.when fun _ h => h.rcSet
theorem numericOf {r : Run} : StaysSafe s (t.numericOf r) := h.numericEv
theorem publishRun {g : Grp} {r : Run} : StaysSafe s (t.publishRun g r) := h.modEng.numericOf
theorem measureSpan {g : Grp} {v : Nat} : StaysSafe s (t.measureSpan g v) := .ite h.modEng.rcSet.audit h.modEng

theorem overrun {g : Grp} : StaysSafe s (t.overrun g) := by
  unfold State.overrun
  split
  · exact h
  · split
    · exact h.numericOf.modEng.modEng.rcSet
    · exact h.numericOf.modEng.numericEv.modEng.modKern.rcSet
    · exact h.numericOf.modEng.modEng.rcSet.audit
    · exact h.numericOf.modEng

theorem publishDue {g : Grp} {spans : List Nat} : StaysSafe s (t.publishDue g spans) := by
  unfold State.publishDue
  split
  · exact .ite h (.ite h.overrun.measureSpan h.publishRun.measureSpan)
  · exact h

theorem bankExchange : StaysSafe s t.bankExchange := .ite h.modEng.modPar.audit h
theorem kernStart : StaysSafe s t.kernStart := .ite h (StaysSafe.ite h.modKern h).modKern

theorem syncDisarm : StaysSafe s t.syncDisarm := by
  unfold State.syncDisarm
  refine .modKern ?_
  split
  · exact h.updTrk.setRaw
  · exact h

theorem kernPublish : StaysSafe s t.kernPublish := by
  unfold State.kernPublish
  split
  · exact h
  · refine modKern (when (rcPublish (numericEv ?_)) fun _ h => h.syncDisarm)
    refine when (when (when (when (when ?_ ?_) ?_) ?_) ?_) fun _ h => h.setRaw
    · split
      · exact h.modKern.audit
      · exact h.modKern
    · exact fun _ h => h.rcSet.audit
    · exact fun _ h => h.rcSet.audit
    · exact fun _ h => h.rcSet
    · exact fun _ h => h.rcSet.audit

theorem syncArm : StaysSafe s (Machine.syncArm t) := by
  unfold Machine.syncArm
  dsimp only
  split
  · exact .ite h.cmpWrite.setRaw.modKern h
  · exact h

theorem kernForce {n : Nat} : StaysSafe s (t.kernForce n) := by
  unfold State.kernForce
  dsimp only
  split
  · exact .ite h.modKern.startRun h.modKern
  · exact h.modKern

theorem syncFailed : StaysSafe s (Machine.syncFailed t) := by
  unfold Machine.syncFailed
  split
  · exact .ite h.rcSet.audit.modKern h
  · exact h

/-! ### Arms and cells (chapter 05) -/

theorem refTake {published : Bool} : StaysSafe s (t.refTake published) := h.forAll fun _ _ h => h.updRef
theorem pwmRestart : StaysSafe s t.pwmRestart := h
theorem direction {a : Nat} : StaysSafe s (t.direction a) := h

theorem pscModulate {a m : Nat} {v : Int} : StaysSafe s (t.pscModulate a m v) := by
  unfold State.pscModulate
  refine forAll (.ite h ?_) fun _ _ h => h.updCell
  exact ((h.when fun _ h => h.rcSet).forAll fun _ _ h => h.updCell).updArm

theorem armLatch {a : Nat} : StaysSafe s (t.armLatch a) := h.direction.updArm

theorem pwmPlan {a m : Nat} {n v : Int} {turn start : Bool} {r : Sel} : StaysSafe s (t.pwmPlan a m n v turn start r) := by
  unfold State.pwmPlan
  refine .ite ?_ (.ite ?_ h)
  · split
    · exact h.updArm.updCell
    · exact h.updArm.rcSet
  · split
    · exact h.updArm.updCell
    · exact h

theorem selectArm {a m : Nat} {grant : Option (Int × Int)} {blk : Bool} : StaysSafe s (t.selectArm a m grant blk) := by
  unfold State.selectArm
  have hgone {b : Bool} :
      StaysSafe s (t.when b (fun s => (s.updArm a (fun x => { x with pwm := none, pwmWait := false })).rcSet 100 a 10)) :=
    h.when fun _ h => h.updArm.rcSet
  cases grant with
  | none => exact hgone.updArm
  | some g => exact .ite hgone.updArm hgone.updArm.pwmPlan

theorem formArm {a m : Nat} : StaysSafe s (t.formArm a m) := (h.forAll fun _ _ h => h.updCell).updArm.when fun _ h => h.rcSet
theorem refreshCount : StaysSafe s t.refreshCount := .ite h h.mapCells

/-! ### Station time (chapter 12) -/

theorem stepTime {off : Int} {frac : Nat} : StaysSafe s (t.stepTime off frac) := h.audit.modClk.rcSet.modMeas.mapCells
theorem takeStep : StaysSafe s t.takeStep := .ite (.ite h.stepTime h.modClk) h

theorem measureTime {code : Nat} {off : Int} {frac : Nat} {anew : Bool} : StaysSafe s (t.measureTime code off frac anew) := by
  have hnew {c : Prop} [Decidable c] {g : Clk → Clk} : StaysSafe s (if c then t.modClk g else t) := .ite h.modClk h
  exact .ite hnew.stepTime.modClk (.ite hnew.modClk.modClk hnew.modClk)

theorem timeFrom {code : Nat} {off : Int} {frac : Nat} {anew : Bool} : StaysSafe s (t.timeFrom code off frac anew) :=
  .ite h (.ite h.modClk.measureTime h.modClk)

theorem timeNest {port : Nat} {off : Int} : StaysSafe s (t.timeNest port off) := h.timeFrom

theorem ppsSet {off : Int} {frac : Nat} : StaysSafe s (t.ppsSet off frac) := by
  unfold State.ppsSet
  split
  next => exact h.modClk.timeFrom
  next => exact h

theorem clockOutputs : StaysSafe s t.clockOutputs := h

/-! ### Fen ledger (chapter 07) -/

theorem ledgerTake : StaysSafe s t.ledgerTake := h.forAll fun _ _ h => (h.when fun _ h => h.rcSet).updArm

theorem bookCell {m : Nat} {pcs : List (Nat × Nat × Int)} {c : Nat} : StaysSafe s (t.bookCell m pcs c) :=
  h.updCell.when fun _ h => h.rcSet

theorem bookFrame : StaysSafe s t.bookFrame := .ite h (h.forAll fun _ _ h => (h.forAll fun _ _ h => h.bookCell).updArm)
theorem driftCompute : StaysSafe s t.driftCompute := h.mapCells.forAll fun _ _ h => h.updArm.forAll fun _ _ h => h.audit
theorem poolReentry : StaysSafe s t.poolReentry := h

/-! ### Crihel (chapter 06) -/

theorem takeStatus {c f : Nat} {sl : Slot} : StaysSafe s (t.takeStatus c f sl) :=
  ((h.updCell.when fun _ h => h.rcSet).when fun _ h => h.updPort).when fun _ h => h.rcSet

theorem latchStatuses : StaysSafe s t.latchStatuses := by
  unfold State.latchStatuses
  refine h.modLink.forAll fun v c h => ?_
  dsimp only
  split
  · exact h.takeStatus
  · exact h.updCell

theorem portLatch : StaysSafe s t.portLatch := h.forAll fun _ _ h => h.updPort
theorem sendPort {p : Nat} : StaysSafe s (t.sendPort p) := h
theorem sendDownlink : StaysSafe s t.sendDownlink := .ite (h.modLink.forAll fun _ _ h => h.sendPort) h.modLink
theorem cutFrames {p k : Nat} : StaysSafe s (t.cutFrames p k) := h
theorem sendBlockAll {k p : Nat} : StaysSafe s (State.sendBlockAll k t p) := .ite h.cutFrames.updPort.rcSet h
theorem startRelease {p : Nat} : StaysSafe s (t.startRelease p) := h
theorem releaseAll : StaysSafe s t.releaseAll := h.forAll fun _ _ h => h.startRelease
theorem creditsReconcile : StaysSafe s t.creditsReconcile := h.forAll fun _ _ h => .ite h h.updPort.rcSet
theorem startRelink : StaysSafe s t.startRelink := h.forAll fun _ _ h => h.updPort
theorem tSend {b : TBody} : StaysSafe s (t.tSend b) := .ite h.modTwin h
theorem setTrav {p k : Nat} : StaysSafe s (t.setTrav p k) := h.updPort.forAll fun _ _ h => .ite h (h.updCell.when fun _ h => h.updPort)

theorem rangingCheck {loops : List (Nat × Nat)} : StaysSafe s (t.rangingCheck loops) :=
  h.forAll fun _ _ h => .ite (.ite (.ite h.setTrav.tSend h) ((h.forAll fun _ _ h => h.updPort).when fun _ h => h.rcSet)) h

theorem crihelFrame {p : Nat} {bytes : List Byte} : StaysSafe s (t.crihelFrame p bytes) := by
  refine .ite h (.ite h.updPort.updPort (modLink ?_))
  exact (((h.updPort.updPort.when fun _ h => h.rcSet).when fun _ h => h.modTwin).when fun _ h => h.tSend).when fun _ h => h.tSend

theorem readBack {p : Nat} {req m : Msg} : StaysSafe s (t.readBack p req m) := by
  unfold State.readBack
  refine .ite h ?_
  split
  · exact .ite h h.updCell
  · exact h

/-! ### Nest links and credits (chapter 07) -/

theorem nestHold : StaysSafe s t.nestHold := by
  unfold State.nestHold
  refine .ite h ?_
  dsimp only
  split
  · exact .ite h.modNest.updArm.updArm h.modNest
  · exact h.modNest

theorem levelIssue : StaysSafe s t.levelIssue := .ite h <| h.forAll fun _ _ h =>
  (((h.when fun _ h => h.pscModulate).when fun _ h => h.rcSet).when fun _ h => h.rcSet).updRef.when fun _ h => h.updArm

theorem armLatches : StaysSafe s t.armLatches := .ite (h.forAll fun _ _ h => h.armLatch) h
theorem selectAll : StaysSafe s t.selectAll := .ite h (h.forAll fun _ _ h => h.selectArm.updArm)
theorem formAll : StaysSafe s t.formAll := .ite h (h.forAll fun _ _ h => h.formArm)

theorem creditCheck : StaysSafe s t.creditCheck := by
  unfold State.creditCheck
  refine .ite h (h.forAll fun v a h => ?_)
  dsimp only
  split
  · refine .ite ?_ h.updRef
    split
    · exact h.updRef.audit.when fun _ h => h.rcSet
    · exact h.updRef.audit
  · exact h

theorem reconcile : StaysSafe s t.reconcile := by
  unfold State.reconcile
  refine .ite h (h.forAll fun v a h => ?_)
  split
  · exact .ite h.audit.updRef h
  · exact h

theorem sendDown : StaysSafe s t.sendDown := by
  unfold State.sendDown
  refine .ite h.modNest (.forAll ?_ fun _ _ h => h.rcSet)
  split
  · exact h.modNest.modNest.updRef
  · exact h.modNest.modNest

theorem sendUp : StaysSafe s t.sendUp := .ite h.modNest h
theorem openBooks : StaysSafe s t.openBooks := h.modNest.modArm
theorem twinDigest {item d : Nat} : StaysSafe s (t.twinDigest item d) := .ite h.tSend h
theorem nestSync {port : Nat} : StaysSafe s (t.nestSync port) := .ite h.updPort h

theorem nestDownTake {port : Nat} {b : List Byte} : StaysSafe s (t.nestDownTake port b).1 := by
  refine .iteP h (.iteP h.nestSync (.iteP h.nestSync.modNest (.iteP h.nestSync.modNest (.iteP h.nestSync ?_))))
  exact h.nestSync.modNest.twinDigest.when fun _ h => h.rcSet

theorem resetAck {i : Nat} {r : UpRep} : StaysSafe s (t.resetAck i r) := by
  unfold State.resetAck
  refine .ite ?_ h
  dsimp only
  split
  · exact .ite (h.updKid.forAll fun _ _ h => h.updRef) h.updKid
  · exact h.updKid

theorem nestUpTake {port : Nat} {b : List Byte} : StaysSafe s (t.nestUpTake port b).1 := by
  unfold State.nestUpTake
  split
  · exact h
  · refine .iteP h (.iteP h.nestSync (.iteP h.nestSync.updKid (.iteP h.nestSync.updKid (.iteP h.nestSync ?_))))
    exact ((h.nestSync.resetAck.updKid.when fun _ h => h.rcSet).when fun _ h => h.rcSet).twinDigest.when fun _ h => h.rcSet

theorem nestDead {ports : List Nat} : StaysSafe s (t.nestDead ports) := h.forAll fun _ _ h => h.updPort

/-! ### Bramble (chapter 08) -/

theorem sampleConds {l : List (Nat × Bool)} : StaysSafe s (t.sampleConds l) := h.forAll fun _ _ h => h.condSample
theorem endTest : StaysSafe s t.endTest := .ite h.modArm.setRaw h
theorem toFaulted {w : Who} : StaysSafe s (t.toFaulted w) := .ite (h.endTest.enter (by decide)) h
theorem faultCheck : StaysSafe s t.faultCheck := .ite h.toFaulted h
theorem selfFail {src : Nat} : StaysSafe s (t.selfFail src) := .ite h h.tSend.modTwin.toFaulted
theorem excludeProt {g : Nat} : StaysSafe s (t.excludeProt g) := h
theorem blockPorts {g k : Nat} : StaysSafe s (t.blockPorts g k) := h.forAll fun _ _ h => h.sendBlockAll

theorem takeAction {step : Bool} {k g : Nat} {a : Action} {ba : Bool} : StaysSafe s (t.takeAction step k g a ba) := by
  have hnoted : StaysSafe s (((t.audit 0x30 {} k g a.code t.fr).rcSet 164 g 0).modProt (fun p =>
      { p with acted := p.acted.set k true })) := h.audit.rcSet.modProt
  cases a with
  | none => exact h
  | record => exact hnoted
  | block => exact (hnoted.irqSet.modProt.when fun _ h => h.blockPorts).faultCheck
  | bypass => exact hnoted.irqSet.modProt.excludeProt
  | breaker => exact hnoted.irqSet.modProt
  | selfFail => exact .ite hnoted.irqSet.modProt.selfFail (hnoted.irqSet.modProt.modProt.when fun _ h => h.blockPorts).faultCheck

theorem raise {k : Nat} : StaysSafe s (t.raise k) := ((h.modProt.forAll fun _ _ h => h.takeAction).when fun _ h => h.modProt).openReq

theorem convertFast {k : Nat} {smp : Sample} : StaysSafe s (t.convertFast k smp) :=
  h.convert.forAll fun _ _ h => .ite (h.modProt.forAll fun _ _ h => h.sendBlockAll) h.modProt

theorem ocRefresh : StaysSafe s t.ocRefresh := h
theorem startResync : StaysSafe s t.startResync := h

theorem toReady {w : Who} : StaysSafe s (t.toReady w) := by
  unfold State.toReady
  exact (h.openBooks.takeStep.enter (by decide)).faultCheck

theorem brambleReset {w : Who} : StaysSafe s (t.brambleReset w) := by
  have hrejoin {u : State} {c : Prop} [Decidable c] {g : Twin → Twin} (hu : StaysSafe s u) :
      StaysSafe s (if c then (u.modTwin g).startResync else u) := .ite hu.modTwin.startResync hu
  exact .ite (hrejoin h.audit.modProt.mapCells).toReady
    ((hrejoin h.audit.modProt.mapCells).when fun _ h => h.forAll fun _ _ h => h.startRelease)

end
end StaysSafe

end Sys2Proof.Machine
end

section
/-!
SUPPORT. What keeps the safety outputs open at rest, continued: recorder, twin operation, field terminals, Peat store, publication and
mailbox (chapters 09, 11, 13, 15 to 17).
-/
namespace Sys2Proof.Machine
open Sys2Proof

namespace StaysSafe
variable {s t : State}

section
variable (h : StaysSafe s t)
include h

/-! ### Recorder (chapter 11) -/

theorem acqTrigger {mets : List (Nat × Nat × Nat)} {f0 origin originF : Nat} : StaysSafe s (t.acqTrigger mets f0 origin originF) := by
  unfold State.acqTrigger
  cases mets with
  | nil => exact h
  | cons m mets =>
    have hrec {g : Acq → Acq} {b : Bool} : StaysSafe s ((t.modAcq g).when b (fun s => s.rcSet 190 0 7)) :=
      h.modAcq.when fun _ h => h.rcSet
    dsimp only
    split
    case h_1 | h_2 => exact .ite hrec.modNest hrec
    · exact h.modAcq
    · exact h.modAcq.rcSet
    · exact h.modAcq.rcSet
    · exact h

theorem reedbed : StaysSafe s t.reedbed := .ite h.modAcq (.ite h h.modAcq.acqTrigger)
theorem reserve : StaysSafe s t.reserve := h
theorem acqArm : StaysSafe s t.acqArm := .ite h.modAcq.reserve h.modAcq

theorem acqDisarm : StaysSafe s t.acqDisarm := by
  unfold State.acqDisarm
  split
  · exact h.modAcq
  · exact h.modAcq

theorem condRestart {i : Nat} : StaysSafe s (t.condRestart i) := h

theorem xtrigTake {link x : Nat} : StaysSafe s (t.xtrigTake link x) := by
  have harm {b c d : Prop} [Decidable b] [Decidable c] [Decidable d] {g : Acq → Acq} :
      StaysSafe s (if b then (if c then (if d then (t.modAcq g).acqArm else (t.modAcq g).acqDisarm) else t.modAcq g) else t) :=
    .ite (.ite (.ite h.modAcq.acqArm h.modAcq.acqDisarm) h.modAcq) h
  exact .ite harm (.ite harm (.ite harm.modNest (harm.modNest.when fun _ h => h.rcSet).acqTrigger))

theorem afterHoldoff : StaysSafe s t.afterHoldoff := .ite h.modAcq h.reserve

/-! ### Twin operation (chapter 09) -/

theorem tTake {b : TBlk} : StaysSafe s (t.tTake b).1 := by
  cases hon : t.twinOn with
  | false => simpa only [State.tTake, hon, Bool.not_false, if_true] using h
  | true => cases hcrc : b.crcOk with
    | false => exact tTake_badCrc hon hcrc ▸ h.modTwin
    | true => cases hmis : misaligned t.fr (extendF t.fr b.fnum) with
      | true => exact tTake_misaligned hon hcrc hmis ▸ h.modTwin
      | false => exact tTake_good hon hcrc hmis ▸ h

theorem leadChange {w : Who} {forced : Bool} {cause : Nat} : StaysSafe s (t.leadChange w forced cause) := h.audit.modTwin

theorem twinFrame : StaysSafe s t.twinFrame := by
  unfold State.twinFrame
  refine .ite h ?_
  dsimp only
  split
  · exact .ite h.modTwin h.modTwin.modTwin.audit.startResync
  · exact h.modTwin.when fun _ h => h.startResync

theorem heartbeatT {f : Nat} : StaysSafe s (t.heartbeatT f) := h

theorem holdGap {n : Nat} : StaysSafe s (t.holdGap n) := by
  unfold State.holdGap
  refine h.mapCells.forAll fun v a h => ?_
  dsimp only
  split
  · exact h.updArm
  · exact h

theorem declareFailed {cause : Nat} : StaysSafe s (t.declareFailed cause) := by
  have hnoted {b : Bool} {g : Twin → Twin} :
      StaysSafe s ((t.modTwin g).when b (fun s => s.audit 0x40 {} 5 t.twin.epoch t.twin.epoch s.fr)) := h.modTwin.when fun _ h => h.audit
  exact .ite (.ite (hnoted.modTwin.leadChange.when fun _ h => h.holdGap) hnoted.modTwin.leadChange.toFaulted) hnoted

theorem vecSamples {v : Vec} : StaysSafe s (t.vecSamples v) := h.forAll fun _ _ h => h.modMeas
theorem vecDeliver {v : Vec} : StaysSafe s (t.vecDeliver v) := h
theorem digestTake : StaysSafe s t.digestTake := .ite h h.modTwin
theorem digestForm : StaysSafe s t.digestForm := .ite h h.modTwin.tSend
theorem resyncControl : StaysSafe s t.resyncControl := .ite h (.ite (.ite h.modTwin (.ite h.modTwin h)) (.ite h.modTwin.tSend h))
theorem planSwap : StaysSafe s t.planSwap := .ite h.modTwin.tSend h

theorem plannedSwap : StaysSafe s t.plannedSwap := by
  unfold State.plannedSwap
  split
  · exact .ite h (.ite h.modTwin.leadChange (.ite h.modTwin.audit.rcSet h.modTwin.audit.rcSet.tSend))
  · exact h

theorem sendException {i : Nat} : StaysSafe s (t.sendException i) := h.tSend
theorem itemCame {i : Nat} : StaysSafe s (t.itemCame i) := .ite h.updPort (.ite h.modNest h.updKid)
theorem itemsClear : StaysSafe s t.itemsClear := h

/-! ### Field terminals and sessions (chapters 13, 16 and 17) -/

theorem fieldLatch : StaysSafe s t.fieldLatch := h

theorem comparePulses : StaysSafe s t.comparePulses := by
  unfold State.comparePulses
  refine h.forAll fun _ _ h => ?_
  split
  · exact .ite h.updTrk h
  · exact h

theorem fieldOutputs : StaysSafe s t.fieldOutputs := h.comparePulses.modFio
theorem outFault {o bit : Nat} {on : Bool} {f : OutS → OutS} : StaysSafe s (t.outFault o bit on f) := h.audit.updOut
theorem crossShort {k j : Nat} : StaysSafe s (t.crossShort k j) := h.forAll fun _ _ h => h.outFault

theorem faultRelease {mask : Nat} : StaysSafe s (t.faultRelease mask) :=
  h.forAll fun _ _ h => (StaysSafe.ite (StaysSafe.ite h.outFault h).outFault (.ite h.outFault h)).updOut

theorem sessionClose {ch why : Nat} : StaysSafe s (t.sessionClose ch why) := by
  unfold State.sessionClose
  split
  · dsimp only
    split
    · exact .ite (h.audit.updChan.modSys rfl) h.audit.updChan
    · exact h.audit.updChan
  · exact h

theorem e1Drop {ch : Nat} : StaysSafe s (t.e1Drop ch) := .ite h.sessionClose.updChan h
theorem e1DropAll : StaysSafe s t.e1DropAll := h.forAll fun _ _ h => h.e1Drop

/-! ### Peat store (chapter 15) -/

theorem peatHealth : StaysSafe s t.peatHealth := (StaysSafe.ite (.ite h h.audit) (StaysSafe.ite h h.audit).audit).modPeat
theorem journalCommit : StaysSafe s t.journalCommit := h
theorem auditPage : StaysSafe s t.auditPage := h

theorem recFree : StaysSafe s t.recFree := by
  unfold State.recFree
  split
  · exact h.modPeat.rcSet
  · exact h

theorem recRoom {size n : Nat} : StaysSafe s (State.recRoom size n t) := by
  induction n generalizing t with
  | zero => exact h
  | succ n ih => exact .ite h (ih h.recFree)

theorem recWrite : StaysSafe s t.recWrite := by
  unfold State.recWrite
  split
  · exact h
  · exact .ite (StaysSafe.ite h h.recRoom).modPeat (StaysSafe.ite h h.recRoom).modPeat.modAcq

theorem recFlush : StaysSafe s t.recFlush := h.foldl fun _ _ h => h.recWrite
theorem peatRefresh {b : Nat} : StaysSafe s (t.peatRefresh b) := .ite h.modPeat.rcSet h
theorem scrubAtWake : StaysSafe s t.scrubAtWake := .ite h.modPeat h
theorem gapRecord {f l why : Nat} : StaysSafe s (t.gapRecord f l why) := ((h.modSys rfl).modSys rfl).audit.rcSet

/-! ### Publication (chapter 14) -/

theorem publishFrame : StaysSafe s t.publishFrame := h.modPub.modProt.rcPublish.rcPublish.rcPublish.rcPublish
theorem publishTrk : StaysSafe s t.publishTrk := h
theorem publishSup : StaysSafe s t.publishSup := h.modPub.rcPublish.rcPublish.rcPublish.rcPublish.rcPublish
theorem publishSys {tests : Bool} : StaysSafe s (t.publishSys tests) := .ite h.modPub h.modPub.rcPublish

theorem diaClear {n e : Nat} : StaysSafe s (t.diaClear n e) :=
  .ite h.modPub.modEng (.ite h.modPub.modEng (.ite h.modPub.modKern (.ite h.modPub.modPub (.ite h.modPub.modMbx h.modPub))))

/-! ### Parameter writes (chapter 13) -/

theorem store {id : Pid} {e : Nat} {v : Raw} : StaysSafe s (t.store id e v) := by
  unfold State.store
  split
  · exact h
  · refine .ite h (.ite h.updCell (.ite h.updCell (.ite h.updCell (.ite ?_ h.setRaw))))
    dsimp only
    split
    · exact h.modPar.modEng
    · exact h.modPar

theorem commit {mask : Nat} : StaysSafe s (t.commit mask) := h.forAll fun _ _ h => h.updCell

theorem hook {w : Write} : StaysSafe s (t.hook w) := by
  refine .ite h.modKern (.ite h.cmpWrite (.ite h.updCell (.ite h (.ite h.commit (.ite h.modArm (.ite h.updPort (.ite h.ocRefresh ?_)))))))
  refine .ite (.ite h.modTwin.startResync h) (.ite (.ite h.planSwap h) (.ite h.modEng (.ite h.modEng (.ite (h.modHdg rfl) ?_))))
  refine .ite (.ite h.acqArm h.acqDisarm) (.ite h.modAcq (.ite h.condRestart (.ite (.ite h.modPeat h) (.ite (.ite h.modFio h) ?_))))
  exact .ite h.faultRelease (.ite (.ite h.modClk h) (.ite h.modClk (.ite h.modClk h)))

theorem applyWrite {w : Write} : StaysSafe s (t.applyWrite w) :=
  .ite (h.when fun _ h => h.modMeas).store.hook.audit.audit (h.when fun _ h => h.modMeas).store.hook.audit

theorem lateRefuse {ch sess cred subj ty : Nat} {why : Reason} : StaysSafe s (t.lateRefuse ch sess cred subj ty why) :=
  .ite h.audit h.audit.updChan.irqSet

theorem matrixActs {old : State} : StaysSafe s (State.matrixActs old t) := h.forAll fun _ _ h => h.takeAction

theorem paramsDue : StaysSafe s t.paramsDue :=
  .ite h (.ite (h.modPar.forAll fun _ _ h => h.applyWrite).matrixActs.faultCheck.openReq (h.modPar.forAll fun _ _ h => h.applyWrite))

theorem applyRestart : StaysSafe s t.applyRestart := h.modPar.forAll fun _ _ h => h.applyWrite
theorem carry {op : Nat} {w : Write} : StaysSafe s (t.carry op w) := .ite h.modTwin h

theorem acceptWrite {w : Write} : StaysSafe s (t.acceptWrite w) := by
  unfold State.acceptWrite
  split
  · exact h.carry.applyWrite
  · exact h.carry.applyWrite
  · exact h.carry.modPar

theorem writeReq {a : Author} {ents : List Ent} : StaysSafe s (t.writeReq a ents).1 := by
  unfold State.writeReq
  refine .iteP h (.iteP h ?_)
  dsimp only
  split
  · exact h
  · have hall : StaysSafe s (Machine.forAll (ents.flatMap (t.writesOf a)) State.acceptWrite t) := h.forAll fun _ _ h => h.acceptWrite
    exact .iteP hall hall

theorem writeLog {a : Author} {ents : List Ent} {st : Nat} {r : Reply} : StaysSafe s (t.writeLog a ents st r) := h.audit

/-! ### Mailbox (chapter 13) -/

theorem deliverResp {ch : Nat} {resp : List Byte} : StaysSafe s (t.deliverResp ch resp) := .ite h.updChan.modMbx h.updChan

theorem finish {ch : Nat} {q : Req} {st : Status} {pay : List Byte} {count : Bool} : StaysSafe s (t.finish ch q st pay count) :=
  h.updChan.modMbx.deliverResp

theorem finishWith {ch : Nat} {q : Req} {r : Reply} : StaysSafe s (t.finishWith ch q r) := h.finish
theorem doorbell {ch : Nat} {v : Word} : StaysSafe s (t.doorbell ch v) := .ite h (.ite h.modMbx h.updChan)

theorem abortReq {ch : Nat} : StaysSafe s (t.abortReq ch) := by
  unfold State.abortReq
  split
  · exact .ite h.finish h
  · exact h

theorem statusClear {ch : Nat} {v : Word} : StaysSafe s (t.statusClear ch v) := .ite h.updChan h
theorem refusedLog {ch : Nat} {q : Req} {r : Reply} : StaysSafe s (t.refusedLog ch q r) := .ite h.audit (.ite h h.audit)

theorem startReq {ch : Nat} {q : Req} : StaysSafe s (t.startReq ch q) := by
  unfold State.startReq
  refine .ite h.finish (.ite h.finish ?_)
  split
  · refine .ite h.refusedLog.finish (.ite h.updChan.updChan.deliverResp (.ite h.updChan.finish ?_))
    split
    · exact h.updChan.refusedLog.finishWith
    · exact h.updChan.updChan
  · split
    · exact h.refusedLog.finishWith
    · exact h.updChan

theorem resume : StaysSafe s t.resume := .ite h h.modMbx

theorem command {ch op : Nat} {f : State → Req → Author → State × Reply} (hf : ∀ q a, StaysSafe s (f t q a).1) :
    StaysSafe s (t.command ch op f) := by
  unfold State.command
  split
  · exact .ite (StaysSafe.iteP h (hf _ _)).finishWith.resume h
  · exact h

omit h in
theorem logged {f : State → Req → Author → State × Reply} {q : Req} {a : Author} (hf : StaysSafe s (f t q a).1) :
    StaysSafe s (State.logged f t q a).1 := hf.audit

theorem carryCmd {op : Nat} {a : Author} {at_ addr : Nat} {ws : List Word} {e : Nat} : StaysSafe s (t.carryCmd op a at_ addr ws e) :=
  .ite h.modTwin h

theorem authenticate {ch : Nat} {q : Req} : StaysSafe s (t.authenticate ch q).1 := by
  unfold State.authenticate
  refine .iteP h (.iteP h ?_)
  split
  · exact .iteP h.updChan.modMbx.updChan.audit h.updChan.audit
  · exact h.updChan.audit

theorem snpCtrl {v : Word} : StaysSafe s (t.snpCtrl v) := h
theorem snpBase {hi : Bool} {v : Word} : StaysSafe s (t.snpBase hi v) := .ite h.modMbx h.modMbx
theorem protoErr : StaysSafe s t.protoErr := h

theorem regWrite {ofs : Nat} {v : Word} : StaysSafe s (t.regWrite ofs v) := by
  unfold State.regWrite
  refine .ite h.protoErr ?_
  split
  · exact h.modMbx
  · exact h.modMbx
  · exact h.modMbx
  · exact h.modMbx
  · exact h.modMbx
  · exact h.snpBase
  · exact h.snpBase
  · exact h.snpCtrl
  · exact h.modMbx
  · exact h.modMbx
  · refine .ite ?_ (.ite h.updChan h)
    split
    · exact h.doorbell
    · exact h.statusClear
    · exact .ite h.abortReq h
    · exact h

/-! ### Snapshot rings (chapter 13) -/

theorem snapWrite {p : SnapPend} : StaysSafe s (t.snapWrite p) := by
  unfold State.snapWrite
  split
  · exact .ite h.modMbx h.modMbx.irqSet
  · exact h

theorem snapBoundary : StaysSafe s t.snapBoundary := .ite h.modMbx.modMbx (.ite h.modMbx.modMbx.modMbx h.modMbx.modMbx.modMbx)

theorem fastWrite {p : FastPend} : StaysSafe s (t.fastWrite p) := by
  unfold State.fastWrite
  split
  · exact .ite h.modMbx h.modMbx.irqSet
  · exact h

theorem fastEntry : StaysSafe s t.fastEntry :=
  .ite h.modMbx (.ite h.modMbx.modMbx.modMbx (.ite h.modMbx.modMbx.modMbx h.modMbx.modMbx.fastWrite))

theorem ringsControl : StaysSafe s t.ringsControl := h.modMbx.fastEntry

theorem ringsArrive : StaysSafe s t.ringsArrive := by
  unfold State.ringsArrive
  dsimp only
  split
  · exact .ite h.modMbx.modMbx.fastWrite h.modMbx
  · exact h.modMbx

/-! ### Commands of the mailbox (chapter 13) -/

theorem readEnts {clear : Bool} {l : List Ent} : StaysSafe s (State.readEnts clear t l).1 := by
  induction l generalizing t with
  | nil => exact h
  | cons e l ih =>
    exact ih (List.foldlRecOn (motive := fun p : State × List (List Byte) => StaysSafe s p.1) _ _ h fun p hp _ _ => .ite (diaClear hp) hp)

theorem readReq {q : Req} {a : Author} : StaysSafe s (t.readReq q a).1 := by
  unfold State.readReq
  split
  · exact h
  · split
    · exact h
    · exact .iteP h (.iteP h (h.readEnts.when fun _ h => h.forAll fun _ _ h => h.audit))

theorem writeLogged {a : Author} {l : List Ent} : StaysSafe s (t.writeLogged a l).1 :=
  .iteP h.writeReq (h.writeReq.writeLog.when fun _ h => h.protoErr)

theorem hostWrite {ch : Nat} {e : Ent} : StaysSafe s (t.hostWrite ch e) := by
  unfold State.hostWrite
  split
  · refine .ite h ?_
    split
    · exact .ite h.writeLogged.finishWith.resume h.writeLogged
    · exact h.writeLogged
  · exact h

theorem bankLog {op : Nat} {a : Author} {old new : Int} {r : Reply} : StaysSafe s (t.bankLog op a old new r) := h.audit

theorem bankWords {a : Author} {bank addr : Nat} {ws : List Word} : StaysSafe s (t.bankWords a bank addr ws).1 :=
  .iteP h.bankLog (.iteP h.bankLog (.iteP h.bankLog h.modEng.carryCmd.bankLog))

theorem bankSwap {a : Author} {crc : Word} {target : Option Nat} : StaysSafe s (t.bankSwap a crc target).1 :=
  .iteP h.bankLog (.iteP h.bankLog (.iteP h.bankLog (.iteP h.bankLog (.iteP h.bankLog h.modEng.carryCmd.bankLog))))

theorem bankCancel {a : Author} : StaysSafe s (t.bankCancel a).1 := by
  unfold State.bankCancel
  split
  · exact .iteP h.bankLog h.modEng.carryCmd.bankLog
  · exact h.bankLog

theorem acceptCmd {op : Nat} {a : Author} : StaysSafe s (t.acceptCmd op a).1 := h.modPar.carryCmd
theorem recDelete {r : Rec} : StaysSafe s (t.recDelete r) := h
theorem guStage {ofs : Nat} {bytes : List Byte} : StaysSafe s (t.guStage ofs bytes) := h
theorem guStart {cells : List Nat} : StaysSafe s (t.guStart cells) := h.forAll fun _ _ h => h.updPort

end
end StaysSafe

end Sys2Proof.Machine
end

section
/-!
SUPPORT. What keeps the safety outputs open at rest, continued: images, wake, shut-down and power, and the work of the boundaries (chapters
01, 03, 12 and 14).
-/
namespace Sys2Proof.Machine
open Sys2Proof

namespace StaysSafe
variable {s t : State}

section
variable (h : StaysSafe s t)
include h

/-! ### Images (chapter 14) -/

theorem imgLog {op : Nat} {a : Author} {old new : Int} {r : Reply} : StaysSafe s (t.imgLog op a old new r).1 := h.audit

theorem imgBegin {a : Author} {kind len : Nat} : StaysSafe s (t.imgBegin a kind len).1 := by
  refine .iteP h.imgLog (.iteP h.imgLog (.iteP h.imgLog (.iteP h.imgLog (carryCmd ?_).imgLog)))
  exact .ite ((h.modSys rfl).modSys rfl).modPeat (.ite ((h.modSys rfl).modSys rfl).modPeat (h.modSys rfl))

theorem imgBlock {a : Author} {ofs : Nat} {bytes : List Byte} : StaysSafe s (t.imgBlock a ofs bytes).1 := by
  unfold State.imgBlock
  split
  · exact h.imgLog
  · exact .iteP h.imgLog (.iteP h.imgLog (.iteP h.imgLog (h.modSys rfl).carryCmd.imgLog))

theorem storeConfig {b : List Byte} : StaysSafe s (t.storeConfig b) := h

theorem storeKeys {a : Author} {b : List Byte} : StaysSafe s (t.storeKeys a b) :=
  ((h.forAll fun _ _ h => h.sessionClose).modSys rfl).audit

theorem imgCommit {a : Author} {sha : List Byte} : StaysSafe s (t.imgCommit a sha).1 := by
  unfold State.imgCommit
  split
  · exact h.imgLog
  · refine .iteP h.imgLog (.iteP h.imgLog (.iteP h.imgLog (.iteP (h.modSys rfl).carryCmd.imgLog (.iteP ?_ ?_))))
    · split
      · exact (h.modSys rfl).carryCmd.storeConfig.journalCommit.imgLog
      · exact (h.modSys rfl).carryCmd.imgLog
    · split
      · exact (h.modSys rfl).carryCmd.imgLog
      · exact (StaysSafe.ite (h.modSys rfl).carryCmd.storeKeys
          (.ite ((h.modSys rfl).carryCmd.modSys rfl) ((h.modSys rfl).carryCmd.modSys rfl).modPeat)).journalCommit.imgLog

theorem selSet {fw slotB : Bool} : StaysSafe s (t.selSet fw slotB) := by
  refine h.modSys ?_
  split <;> rfl

theorem imgSelect {a : Author} {fw slotB activate : Bool} : StaysSafe s (t.imgSelect a fw slotB activate).1 :=
  .iteP h.imgLog (.iteP h.imgLog (.iteP h.imgLog (.iteP h.carryCmd.modPar.imgLog h.carryCmd.selSet.imgLog)))

/-! ### Loading an image and the identity match (chapter 14) -/

theorem setReach : StaysSafe s t.setReach := h
theorem hdgValid : StaysSafe s t.hdgValid := h
theorem trkLoad : StaysSafe s t.trkLoad := (h.forAll fun _ _ h => h.when fun _ h => h.rcSet).modTrk

theorem loadImage {c : Content} {b : List Byte} {keep : Bool} : StaysSafe s (t.loadImage c b keep) := by
  unfold State.loadImage
  refine setReach (ocRefresh (modArm (trkLoad (modKern (modEng (hdgValid ?_))))))
  exact .ite (h.modSys rfl).modPar.modArm ((h.modSys rfl).modPar.modArm.modHdg rfl)

theorem noImage : StaysSafe s t.noImage := (h.modSys rfl).modPar.modArm.modEng.trkLoad

theorem takeIdent {l : List SeenPort} {c : Nat} : StaysSafe s (t.takeIdent l c) := by
  unfold State.takeIdent
  split
  · exact h.updCell
  · exact h.updCell

theorem enumerate {now : List Nat} {l : List SeenPort} {leads : Bool} : StaysSafe s (t.enumerate now l leads) := by
  unfold State.enumerate
  exact ((h.modSys rfl).modLink.forAll fun _ _ h => h.takeIdent).modLink

theorem countIdent : StaysSafe s t.countIdent := h

theorem identity {obs : WakeObs} {again : Bool} : StaysSafe s (t.identity obs again).1 := by
  unfold State.identity
  dsimp only
  exact h.enumerate.countIdent.modTwin

/-! ### Wake, shut-down and power (chapters 12, 14) -/

theorem softRepair : StaysSafe s t.softRepair := h
theorem freshUnits : StaysSafe s t.freshUnits := h
theorem groupsApply : StaysSafe s t.groupsApply := h
theorem record {finds : List Find} {retry : Bool} : StaysSafe s (t.record finds retry) := (h.modSys rfl).when fun _ h => h.audit

theorem toPending {finds : List Find} {retry : Bool} : StaysSafe s (t.toPending finds retry) := by
  refine (h.trans (of_off (openReq_of_resting (.inr (.inr ?_))))).publishSys
  split
  next hst => exact beq_iff_eq.mp hst
  next => rfl

theorem passReady : StaysSafe s t.passReady := by
  unfold State.passReady
  refine publishSys (toReady ?_)
  exact .ite h.record.applyRestart.modLink.modEng.modTwin.mapCells.acqArm h.record.applyRestart.modLink.modEng.modTwin.mapCells

theorem validate {obs : WakeObs} : StaysSafe s (t.validate obs) := by
  have hid {u v : State} {l : List Find} (hv : StaysSafe s v) (heq : v.identity obs false = (u, l)) : StaysSafe s u := by
    simpa only [heq] using hv.identity (obs := obs) (again := false)
  unfold State.validate
  dsimp only
  split
  · split
    · split
      next heq => exact (hid (h.modSys rfl).loadImage.groupsApply.pwmRestart heq).passReady
      next heq => exact (hid (h.modSys rfl).loadImage.groupsApply.pwmRestart heq).toPending
    · refine toPending ?_
      exact .ite (h.modSys rfl).loadImage.groupsApply.pwmRestart (.ite (h.modSys rfl).noImage (h.modSys rfl).loadImage.groupsApply)
  · exact (h.modSys rfl).noImage.toPending

theorem wakeSeq {obs : WakeObs} : StaysSafe s (t.wakeSeq obs) := (h.modClk.modSys rfl).freshUnits.softRepair.scrubAtWake.validate.modClk
theorem wakeUp {obs : WakeObs} : StaysSafe s (t.wakeUp obs) := .ite (.ite (h.modSys rfl) h.wakeSeq) (.ite (h.modSys rfl) h)

theorem lifeApply : StaysSafe s t.lifeApply := by
  unfold State.lifeApply
  dsimp only
  split
  · exact ((h.modSys rfl).modSys rfl).audit
  · exact ((h.modSys rfl).modSys rfl).modPeat.audit
  · exact ((h.modSys rfl).modSys rfl).modPeat.audit
  · exact h.modSys rfl

theorem toStandby : StaysSafe s t.toStandby := (h.trans (of_off (openReq_of_resting (.inr (.inl (lifeApply_st _)))))).publishSys
theorem sliceSkip : StaysSafe s t.sliceSkip := h
theorem shutEnd : StaysSafe s t.shutEnd := h.journalCommit.toStandby

theorem sliceStart : StaysSafe s t.sliceStart := by
  unfold State.sliceStart
  split
  · exact .ite (h.modSys rfl) h.sliceSkip.shutEnd
  · exact h.shutEnd

theorem shutFrame : StaysSafe s t.shutFrame :=
  .ite h (.ite (h.modSys rfl) (.ite (h.modLink.modSys rfl).shutEnd ((h.modLink.modSys rfl).modSys rfl).sliceStart))

theorem shutStart : StaysSafe s t.shutStart := h.recFlush.endTest.modSys rfl
theorem sleepReq : StaysSafe s t.sleepReq.1 := .iteP h (.iteP h h)

theorem sliceClear {k : Nat} : StaysSafe s (t.sliceClear k) := by
  unfold State.sliceClear
  split
  · exact h.modEng
  · exact h.modEng
  · exact h.pwmRestart
  · exact h

theorem sliceDone {r : SliceRes} : StaysSafe s (t.sliceDone r) := (h.modSys rfl).modPeat.audit.sliceClear.sliceStart

theorem activate {fw slotB : Bool} : StaysSafe s (t.activate fw slotB) :=
  .ite (h.selSet.modSys rfl) (.ite (h.selSet.shutStart.modSys rfl) h.selSet)

theorem flushAudit : StaysSafe s t.flushAudit := h.foldl fun _ _ h => .ite h h.auditPage
theorem loseRecords : StaysSafe s t.loseRecords := h

theorem failOutputs : StaysSafe s t.failOutputs := by
  refine h.trans (of_off fun o ho => ?_)
  obtain ⟨_, _, rfl⟩ := List.mem_map.mp ho
  exact ⟨rfl, rfl⟩

theorem powerDown : StaysSafe s t.powerDown := h.trans (of_off (off_safetyOff t))

theorem booted {slot : Nat} {strapped vbatOk : Bool} {secs : Nat} : StaysSafe s (t.booted slot strapped vbatOk secs) :=
  h.trans (of_off (off_safetyOff t))

theorem bootParams : StaysSafe s t.bootParams := by
  unfold State.bootParams
  dsimp only
  split
  · exact .ite h.modPar.hdgValid h
  · exact h

/-! ### Boundaries (chapters 01 and 03) -/

theorem lateWrite {w : Write} : StaysSafe s (t.lateWrite w) := by
  refine .ite (.ite h.applyWrite (.ite h.lateRefuse h.applyWrite.brambleReset)) (.ite h.applyWrite.modArm ?_)
  exact .ite h.lateRefuse (.ite h.applyWrite h.applyWrite.modArm.releaseAll)

theorem cmdDo {c : Nat × SRole × Nat × Nat} : StaysSafe s (t.cmdDo c) := by
  refine .ite ?_ (.ite (.ite h.toReady h.lateRefuse) (.ite h.lateRefuse h.activate))
  split
  · exact h.lateRefuse
  · exact (h.enter (by decide)).releaseAll

theorem hostDue : StaysSafe s t.hostDue := (h.modPar.forAll fun _ _ h => h.lateWrite).forAll fun _ _ h => .ite h.lateRefuse h.cmdDo
theorem supMain : StaysSafe s t.supMain := (h.when fun _ h => h.driftCompute).sampleConds.plannedSwap.hostDue.startRelink
theorem tick : StaysSafe s t.tick := h

theorem publications {spans : List Nat} : StaysSafe s (t.publications spans) := by
  unfold State.publications
  refine when (when (publishDue (when ?_ fun _ h => h.kernPublish)) fun _ h => h.publishDue.modEng) fun _ h => h.refTake
  exact h.modEng.publishDue.publishDue

theorem frameTake : StaysSafe s t.frameTake := by
  unfold State.frameTake
  have htaken := h.latchStatuses.portLatch.nestHold
  exact htaken.when fun _ h => h.creditCheck.levelIssue

theorem frameLatch {v : Option Vec} : StaysSafe s (t.frameLatch v) := by
  unfold State.frameLatch
  refine .bookFrame (.refreshCount (.sampleConds (.publishTrk (.forAll ?_ fun _ _ h => h.trkFrame))))
  split
  · exact h.vecSamples.ledgerTake.vecDeliver.modMeas
  · exact h.ledgerTake.deliver.fieldLatch

theorem ownLatch {arms : List (List (Nat × Bool × Int))} : StaysSafe s (t.ownLatch arms) := h
theorem frameUp : StaysSafe s t.frameUp := (h.sendUp.when fun _ h => h.rcSet).modNest.digestTake
theorem frameSend : StaysSafe s t.frameSend := (h.formAll.sendDownlink.when fun _ h => h.creditCheck).sendDown

theorem frameOut : StaysSafe s t.frameOut := by
  unfold State.frameOut
  refine when (reedbed (selectAll (when ?_ fun _ h => h.levelIssue))) fun _ h => h.startRun
  exact h.armLatches

theorem twinSend {arms : List (List (Nat × Bool × Int))} : StaysSafe s (t.twinSend arms) :=
  .ite h.itemsClear (.ite h.tSend.itemsClear (h.when fun _ h => h.forAll fun _ _ h => h.sendException).modTwin.tSend.tSend.itemsClear)

theorem controlWork : StaysSafe s t.controlWork :=
  (StaysSafe.ite h.bankExchange.kernStart.startRun h.bankExchange).sampleConds.digestForm.resyncControl.ringsControl

theorem supWork : StaysSafe s t.supWork := (h.when fun _ h => h.startRun).supMain

theorem latchLate {apply : State → HostAct → State} {v : Option Vec} (ha : ∀ u x, StaysSafe s u → StaysSafe s (apply u x)) :
    StaysSafe s (t.latchLate apply v) := by
  have hacts {l : List HostAct} {b : Bool} {g : Twin → Twin} :
      StaysSafe s (Machine.forAll l apply ((t.modTwin g).when b (fun s => s.rcSet 170 0 8))) :=
    (h.modTwin.when fun _ h => h.rcSet).forAll ha
  exact .ite h ((hacts.paramsDue.frameLatch.frameUp.frameOut.when fun _ h => h.controlWork).when fun _ h => h.supWork)

theorem takeSensors {x : Sensors} : StaysSafe s (t.takeSensors x) := h
theorem supPublish : StaysSafe s t.supPublish := h.clockOutputs.peatHealth.publishSup.snapBoundary
theorem supCounts : StaysSafe s t.supCounts := h

theorem frameWork {obs : EngObs} : StaysSafe s (t.frameWork obs) := by
  have hlatched {u : State} {arms : List (List (Nat × Bool × Int))} {c : Prop} [Decidable c] (hu : StaysSafe s u) :
      StaysSafe s (if c then u.ownLatch arms else u.frameLatch none) := .ite hu.ownLatch hu.frameLatch
  have hsent {u v : State} {arms : List (List (Nat × Bool × Int))} (hu : StaysSafe s u) :
      StaysSafe s ((((u.asSent v).frameSend).afterSent u).twinSend arms) := (hu.sent (refl _).frameSend).twinSend
  have hout {u v : State} {c : Prop} [Decidable c] (hu : StaysSafe s u) :
      StaysSafe s (if c then u else (((u.asSent v).frameUp).afterSent u).frameOut) := .ite hu (hu.sent (refl _).frameUp).frameOut
  unfold State.frameWork
  refine publishFrame (fieldOutputs (hout (hsent (hlatched (frameTake (when ?_ fun _ h => h.publications.ringsArrive))))))
  exact h.modEng

theorem sampleStarts : StaysSafe s t.sampleStarts := h

/-! ### The pair's blocks (chapter 09) -/

theorem applyAct {x : HostAct} : StaysSafe s (t.applyAct x) := by
  unfold State.applyAct
  split
  · exact h.acceptWrite
  · exact h.bankWords
  · exact h.modEng.bankLog
  · exact h.modEng.bankLog
  · exact h.modPar.audit
  · exact h.modPar.audit
  · exact h.audit.shutStart
  · exact h.imgBegin
  · exact h.imgBlock
  · exact h.imgCommit
  · exact .ite h.modPar.audit h.imgSelect
  · exact h.modMbx.audit
  · exact h.modMbx.audit
  · refine .audit ?_
    split
    · exact h.recDelete
    · exact h
  · exact h.guStage.audit
  · exact h.audit
  · exact h

theorem latchNowWith {v : Option Vec} : StaysSafe s (t.latchNowWith v) := by
  have hlate : StaysSafe s (t.latchLate State.applyAct v) := h.latchLate fun _ _ h => h.applyAct
  exact .ite hlate hlate.modTwin

theorem exceptSlot {c f : Nat} {sl : Slot} : StaysSafe s (t.exceptSlot c f sl) := .ite h.updCell (.ite h.takeStatus.updCell h.takeStatus)

theorem exceptNest {port : Nat} {bytes : List Byte} : StaysSafe s (t.exceptNest port bytes) :=
  .ite (.ite h.modNest.updArm.updArm h.modNest) h.updKid

theorem replayAct {x : HostAct} : StaysSafe s (t.replayAct x) := by
  unfold State.replayAct
  split
  · exact h.modEng
  · exact h.modEng
  · exact h.modEng
  · exact h

theorem loadImg {g : StateImg} : StaysSafe s (t.loadImg g) := h

theorem replayFrame {first : Nat} {x : Nat × Vec} : StaysSafe s (State.replayFrame first t x) := by
  have hacts {g : Clk → Clk} : StaysSafe s (Machine.forAll x.2.acts State.replayAct (t.modClk g)) :=
    h.modClk.forAll fun _ _ h => h.replayAct
  have hlatch {u : State} {b c : Bool} (hu : StaysSafe s u) :
      StaysSafe s (((u.when b State.levelIssue).frameLatch (some x.2)).formAll.armLatches.when c State.levelIssue) :=
    (hu.when fun _ h => h.levelIssue).frameLatch.formAll.armLatches.when fun _ h => h.levelIssue
  unfold State.replayFrame
  refine when (when (hlatch (hacts.when fun _ h => h.publications)).selectAll.startRun ?_) ?_
  · exact fun _ h => h.bankExchange.kernStart.startRun.sampleConds
  · exact fun _ h => (h.startRun.when fun _ h => h.driftCompute).sampleConds.poolReentry

theorem replay {first : Nat} : StaysSafe s (t.replay first) := (h.forAll fun _ _ h => h.replayFrame).modClk

end
end StaysSafe

end Sys2Proof.Machine
end

section
/-!
SUPPORT. Each command but those with which a channel of Hedgerow drives keeps the safety outputs open at rest.
-/
namespace Sys2Proof.Machine
open Sys2Proof

/-- The command goes on to a state, by work that keeps the safety outputs open at rest. -/
def NextSafe (s : State) (o : Host.Outcome State Fault Refusal) : Prop := ∃ t, o = .next t ∧ StaysSafe s t

namespace NextSafe
open StaysSafe
variable {s t : State}

theorem next (h : StaysSafe s t) : NextSafe s (.next t) := ⟨t, rfl, h⟩

section
variable (h : StaysSafe s t)
include h

/-! ### Kernel, arms and cells (chapters 04, 05) -/

theorem syncCompareArmed : NextSafe s (execSyncCompareArmed t) := next h.syncArm
theorem syncAbort : NextSafe s (execSyncAbort t) := next (.ite h.kernForce h)
theorem syncFail : NextSafe s (execSyncFail t) := next h.syncFailed
theorem limitedReturn : NextSafe s (execLimitedReturn t) := next (.ite h.kernForce h)
theorem refreshDue {c : Nat} : NextSafe s (execRefreshDue c t) := next (.ite h.updCell h)
theorem refreshOverdue {c : Nat} : NextSafe s (execRefreshOverdue c t) := next (.ite h.updCell.rcSet h)

theorem gateSupplyLow {c : Nat} : NextSafe s (execGateSupplyLow c t) := by
  unfold execGateSupplyLow
  refine next ?_
  split
  · exact .ite h.updCell h
  · exact h

theorem statusStale {c : Nat} : NextSafe s (execStatusStale c t) := next (.ite h.updCell h)

/-! ### Clocks and station time (chapter 12) -/

theorem ptpMessage {m : PtpMsg} : NextSafe s (execPtpMessage m t) := by
  have hmine {b : Bool} {f g : Clk → Clk} : StaysSafe s ((t.modClk f).when b (fun s => s.modClk g)) := h.modClk.when fun _ h => h.modClk
  refine next (.ite h ?_)
  dsimp only
  split
  · exact .ite hmine.timeFrom.modClk hmine.timeFrom
  · exact hmine.timeFrom

theorem irigbFrame {m : IrigCode} {withPps : Bool} : NextSafe s (execIrigbFrame m withPps t) :=
  next (.ite h (StaysSafe.ite h.modClk h.timeFrom).modClk)

theorem ppsInEdge {m : TimeMeas} : NextSafe s (execPpsInEdge m t) := next (.ite h (.ite h.ppsSet.measureTime h.ppsSet))

theorem timeSourceLost {src : Nat} : NextSafe s (execTimeSourceLost src t) :=
  next (.ite (.ite h.modClk (.ite h.modClk.modClk (.ite h.modClk.modClk h.modClk.modClk))) h)

theorem timeLocked : NextSafe s (execTimeLocked t) := next (.ite h.modClk h)
theorem holdoverExpired : NextSafe s (execHoldoverExpired t) := next (.ite h.modClk.rcSet h)
theorem leapSecond : NextSafe s (execLeapSecond t) := next (.ite h.audit.modClk h)
theorem ppsOut {rise : Bool} : NextSafe s (execPpsOut rise t) := next (.ite h (.ite (.ite h.modClk h) (.ite h.modClk h)))
theorem pllLock {p : Pll} : NextSafe s (execPllLock p t) := next (.ite h.modClk h)
theorem pllRelock {p : Pll} : NextSafe s (execPllRelock p t) := next (.ite h.modClk h)
theorem refFallback {count : Nat} : NextSafe s (execRefFallback count t) := next (.ite h.modClk h)
theorem refinLost : NextSafe s (execRefinLost t) := next (.ite h.modClk.rcSet h)
theorem refinResume : NextSafe s (execRefinResume t) := next (.ite h.modClk h)

/-! ### Ledger, Crihel and nest links (chapters 06, 07) -/

theorem driftWindowEnd : NextSafe s (execDriftWindowEnd t) := next (.ite h.mapCells.modNest h)
theorem crihelReturnFrame {p : Nat} {bytes : List Byte} : NextSafe s (execCrihelReturnFrame p bytes t) := next h.crihelFrame
theorem returnFrameMissing {p : Nat} : NextSafe s (execReturnFrameMissing p t) := next (.ite h.updPort h)
theorem linkLoss {p : Nat} : NextSafe s (execLinkLoss p t) := next (.ite h.updPort h)

theorem messageReply {p : Nat} {m : Msg} : NextSafe s (execMessageReply p m t) := by
  unfold execMessageReply
  refine next ?_
  split
  · exact h.updPort.readBack
  · exact h

theorem msgTimeout {p seq : Nat} : NextSafe s (execMsgTimeout p seq t) := next (.ite h.updPort.rcSet h)

theorem nestLoss {link : Nat} : NextSafe s (execNestLoss link t) :=
  next (.ite (.ite h.modNest.nestDead h) (.ite h.updKid.nestDead h))

/-! ### Bramble (chapter 08) -/

theorem sourceRaised {k : Nat} : NextSafe s (execSourceRaised k t) := next (.ite h.raise h)
theorem sourceCleared {k : Nat} : NextSafe s (execSourceCleared k t) := next (.ite h.modProt h)

theorem analogConversionComplete {k : Nat} {smp : Sample} : NextSafe s (execAnalogConversionComplete k smp t) :=
  next (.ite h.convertFast h)

/-! ### Recorder and frames of nest links (chapters 07, 11) -/

theorem nestDown {port : Nat} {bytes : List Byte} {off : Int} : NextSafe s (execNestDown port bytes off t) := by
  refine next (.ite ?_ h.nestDownTake)
  dsimp only
  split
  · exact h.nestDownTake.timeNest.xtrigTake
  · exact h.nestDownTake.timeNest

theorem nestUp {port : Nat} {bytes : List Byte} : NextSafe s (execNestUp port bytes t) := by
  unfold execNestUp
  refine next ?_
  dsimp only
  split
  · split
    · exact h.nestUpTake.xtrigTake
    · exact h.nestUpTake
  · exact h.nestUpTake

theorem preTriggerFilled : NextSafe s (execPreTriggerFilled t) := next (.ite h.modAcq h)

theorem recordComplete : NextSafe s (execRecordComplete t) := by
  unfold execRecordComplete
  refine next ?_
  split
  · exact .ite (.ite h.modAcq.rcSet.afterHoldoff h.modAcq.rcSet) h
  · exact h

theorem holdoffEnd : NextSafe s (execHoldoffEnd t) := next (.ite h.afterHoldoff h)
theorem memoryReserved : NextSafe s (execMemoryReserved t) := next (.ite h.reserve h)

/-! ### Twin operation (chapter 09) -/

theorem pairFormation {partner : Option PairInfo} : NextSafe s (execPairFormation partner t) := by
  unfold execPairFormation
  refine next (.ite h ?_)
  split
  · exact .ite h (.ite h.modTwin.modTwin.startResync h.modTwin.modTwin.audit.modTwin)
  · exact .ite h.modTwin.audit.modTwin h

theorem heartbeatPathLost {chain : Bool} : NextSafe s (execHeartbeatPathLost chain t) :=
  next (.ite h (.ite h.modTwin (.ite h.modTwin h)))

theorem outDigest {b : TBlk} {dig : Nat} : NextSafe s (execOutDigest b dig t) := by
  unfold execOutDigest
  refine next ?_
  dsimp only
  split
  · refine .ite h.tTake (.ite h.tTake.modTwin (.ite h.tTake ?_))
    exact .ite h.tTake.modTwin.rcSet.audit.startResync h.tTake.modTwin.rcSet.audit.modTwin
  · exact h.tTake

theorem resyncGiveup : NextSafe s (execResyncGiveup t) := next (.ite h.audit.modTwin h)
theorem resyncComplete {dig : Nat} : NextSafe s (execResyncComplete dig t) := next (.ite h.audit.modTwin h)
theorem swapPeriodElapsed : NextSafe s (execSwapPeriodElapsed t) := next (.ite h.planSwap h)

theorem swap {b : TBlk} {atF : Nat} : NextSafe s (execSwap b atF t) := by
  unfold execSwap
  refine next ?_
  dsimp only
  split
  · exact .ite h.tTake.modTwin.tSend (.ite h.tTake.modTwin h.tTake)
  · exact h.tTake

theorem vector {b : TBlk} {v : Vec} : NextSafe s (execVector b v t) := by
  unfold execVector
  refine next ?_
  dsimp only
  split
  · exact .ite h.tTake.modTwin h.tTake
  · exact h.tTake

theorem digests {b : TBlk} {ports : List (Nat × Nat)} : NextSafe s (execDigests b ports t) := by
  unfold execDigests
  refine next ?_
  dsimp only
  split
  · exact .ite h.tTake (h.tTake.forAll fun _ _ h => (h.when fun _ h => h.sendException).itemCame)
  · exact h.tTake

theorem hb {b : TBlk} {lepoch : Nat} {ready own : Bool} : NextSafe s (execHb b lepoch ready own t) := by
  unfold execHb
  refine next ?_
  dsimp only
  split
  · exact .ite h.tTake.heartbeatT.modTwin h.tTake.heartbeatT.modTwin.modTwin
  · exact h.tTake

theorem relay {b : TBlk} {port : Nat} {ttrav : Option Nat} {slots : List (Nat × Slot)} :
    NextSafe s (execRelay b port ttrav slots t) := by
  unfold execRelay
  refine next ?_
  dsimp only
  split
  · refine .ite ?_ (modLink (updPort ?_))
    all_goals
      split
      · exact .ite h.tTake.setTrav h.tTake
      · exact h.tTake
  · exact h.tTake

/-! ### Field terminals and housing (chapters 16, 17) -/

theorem fieldFrame {f : FieldObs} : NextSafe s (execFieldFrame f t) := next (.ite h (.ite h.rcSet h.modFio))

theorem inputLevelChange {i : Nat} {high : Bool} : NextSafe s (execInputLevelChange i high t) :=
  next (.ite (h.modFio.when fun _ h => h.modKern) h)

theorem wireBreak {i : Nat} : NextSafe s (execWireBreak i t) := next (.ite h.modFio h)
theorem wireBreakCleared {i : Nat} : NextSafe s (execWireBreakCleared i t) := next (.ite h.modFio h)

theorem compareOutputPulseEnd {k : Nat} : NextSafe s (execCompareOutputPulseEnd k t) := by
  unfold execCompareOutputPulseEnd
  refine next ?_
  split
  · refine .ite ?_ h
    dsimp only
    split
    · exact h.updTrk.updOut
    · exact h.updTrk
  · exact h

theorem thermalShutdown {o : Nat} : NextSafe s (execThermalShutdown o t) := next (.ite (.ite h.updOut.outFault h.updOut) h)
theorem outputThermalRestart {o : Nat} : NextSafe s (execOutputThermalRestart o t) := next (.ite h.updOut h)

theorem outputFault {o : Nat} {f : OutFault} {present : Bool} : NextSafe s (execOutputFault o f present t) := by
  unfold execOutputFault
  refine next (.ite h ?_)
  split
  · exact .ite h.outFault (.ite h.outFault h)
  · exact .ite h.outFault (.ite h.outFault h)
  · exact h
  · exact h

theorem fieldTestPulse {o : Nat} {obs : PulseObs} : NextSafe s (execFieldTestPulse o obs t) := by
  unfold execFieldTestPulse
  have hcounted {f : Fio → Fio} {g : OutS → OutS} : StaysSafe s ((t.modFio f).updOut o g) := h.modFio.updOut
  refine next (.ite h (.ite hcounted (.ite hcounted.updOut.rcSet (.ite (hcounted.forAll fun _ _ h => h.crossShort) ?_))))
  split
  · exact hcounted.crossShort
  · exact .ite hcounted hcounted.outFault

theorem logicSilence : NextSafe s (execLogicSilence t) := next (.ite h.modFio.rcSet.modFio h)
theorem fieldFramesReturn : NextSafe s (execFieldFramesReturn t) := next (.ite h.audit.modFio h)
theorem lplusMonitor : NextSafe s (execLplusMonitor t) := next (.ite h.modFio h)

theorem sfpInsertRemove {e2 present fault : Bool} : NextSafe s (execSfpInsertRemove e2 present fault t) :=
  next (.ite h (.ite (h.modHw.when fun _ h => h.rcSet).e1DropAll (h.modHw.when fun _ h => h.rcSet)))

theorem temperatureThreshold {k : F32} : NextSafe s (execTemperatureThreshold k t) :=
  next (.ite h (h.modHw.when fun _ h => h.rcSet))

/-! ### Peat store (chapter 15) -/

theorem journalCommit : NextSafe s (execJournalCommit t) := next (.ite h.journalCommit h)
theorem auditPageWrite : NextSafe s (execAuditPageWrite t) := next (.ite h.auditPage h)
theorem recordWritten : NextSafe s (execRecordWritten t) := next (.ite h.recWrite h)

theorem scrubRead {pg : PageObs} : NextSafe s (execScrubRead pg t) := by
  have hread {c : Prop} [Decidable c] {f g : Store → Store} {n : Nat} :
      StaysSafe s ((if c then (t.modPeat f).peatRefresh n else t.modPeat f).modPeat g) :=
    (StaysSafe.ite h.modPeat.peatRefresh h.modPeat).modPeat
  exact next (.ite h (.ite hread.modPeat hread.modPeat))

theorem programEraseFailure {block : Nat} {isErase : Bool} : NextSafe s (execProgramEraseFailure block isErase t) :=
  next (.ite h h.modPeat.peatHealth)

theorem uncorrectable {part : Nat} {bothCopies : Bool} {item last : Nat} : NextSafe s (execUncorrectable part bothCopies item last t) := by
  unfold execUncorrectable
  refine next (.ite h (.ite h.modPeat.rcSet ?_))
  split
  · exact h.audit.rcSet.modSys rfl
  · exact h.audit.rcSet.modSys rfl
  · exact h.audit.rcSet.audit.modPeat
  · exact (h.audit.rcSet.modSys rfl).modPeat
  · exact h.audit.rcSet.gapRecord
  · exact h.audit.rcSet.modSys rfl
  · exact h.audit.rcSet.modSys rfl
  · exact h.audit.rcSet.audit.rcSet
  · exact h.audit.rcSet.modPeat.rcSet

/-! ### Inputs and groups (chapters 02, 03) -/

theorem sigmaDeltaOutput {k : Nat} {bits : List Bool} {age : Nat} : NextSafe s (execSigmaDeltaOutput k bits age t) :=
  next (.ite h.modMeas h)

theorem sdFault {k : Nat} : NextSafe s (execSdFault k t) := next (.ite h.modMeas h)
theorem sdValidityReturn {k : Nat} : NextSafe s (execSdValidityReturn k t) := next (.ite h.modMeas h)
theorem sampledValueMessage {m : SvMessage} : NextSafe s (execSampledValueMessage m t) := next (.ite h.modMeas h)
theorem crossingTimeout {k : Nat} : NextSafe s (execCrossingTimeout k t) := next (.ite h.trkTimeout h)

theorem groupOverrun {g : Grp} : NextSafe s (execGroupOverrun g t) := by
  unfold execGroupOverrun
  refine next ?_
  split
  · exact .ite h.overrun.measureSpan h
  · exact h

theorem loopOverrunRaised {g : Grp} : NextSafe s (execLoopOverrunRaised g t) := next (.ite h.modEng h)
theorem backgroundRunStart : NextSafe s (execBackgroundRunStart t) := next (.ite h.modEng.startRun h)
theorem backgroundRunEnd : NextSafe s (execBackgroundRunEnd t) := next (.ite h.modEng h)

theorem backgroundWatchdog : NextSafe s (execBackgroundWatchdog t) := by
  unfold execBackgroundWatchdog
  refine next ?_
  split
  · exact .ite h.modEng.rcSet h
  · exact h

theorem engineSramUncorrectable {g : Grp} : NextSafe s (execEngineSramUncorrectable g t) := by
  unfold execEngineSramUncorrectable
  refine next ?_
  split
  · exact h.modEng
  · exact h

theorem snapshotDmaError : NextSafe s (execSnapshotDmaError t) := next (.ite h.modMbx.irqSet h)

/-! ### Mailbox and sessions (chapter 13) -/

theorem mbDoorbell {ch : Nat} {v : Word} : NextSafe s (execMbDoorbell ch v t) := next h.doorbell
theorem abort {ch : Nat} : NextSafe s (execAbort ch t) := next h.abortReq
theorem doneClear {ch : Nat} : NextSafe s (execDoneClear ch t) := next h.statusClear
theorem e1ConnectionOpen {ch : Nat} : NextSafe s (execE1ConnectionOpen ch t) := next (.ite h.updChan h)
theorem e1ConnectionClose {ch : Nat} : NextSafe s (execE1ConnectionClose ch t) := next h.e1Drop
theorem e1Request {ch : Nat} {bytes : List Byte} : NextSafe s (execE1Request ch bytes t) := next (.ite h.updChan h)

theorem requestStart : NextSafe s (execRequestStart t) := by
  unfold execRequestStart
  refine next (.ite h ?_)
  split
  · split
    · exact h.modMbx.startReq
    · exact h
  · exact h

theorem openSession {ch : Nat} : NextSafe s (execOpenSession ch t) :=
  next (h.command fun _ _ => .iteP h (.iteP h h.updChan.modMbx))

theorem authSession {ch : Nat} : NextSafe s (execAuthSession ch t) := next (h.command fun _ _ => h.authenticate)

theorem closeSession {ch : Nat} : NextSafe s (execCloseSession ch t) := by
  have hanswer {r : Reply} : StaysSafe s (t.command ch 0x04 (fun s _ _ => (s, r))) := h.command fun _ _ => h
  unfold execCloseSession
  refine next ?_
  split
  · exact .ite hanswer (.ite hanswer.sessionClose hanswer)
  · exact h

theorem sessionIdleTimeout {ch : Nat} : NextSafe s (execSessionIdleTimeout ch t) := by
  unfold execSessionIdleTimeout
  refine next ?_
  split
  · exact .ite h.sessionClose h
  · exact h

theorem authLockoutEnd {ch : Nat} : NextSafe s (execAuthLockoutEnd ch t) := by
  unfold execAuthLockoutEnd
  refine next ?_
  split
  · exact .ite h.updChan h
  · exact h

theorem loadLevelChange {util : Nat} : NextSafe s (execLoadLevelChange util t) := next (.ite h (h.modMbx.when fun _ h => h.irqSet))
theorem sysFrameLoRead : NextSafe s (execSysFrameLoRead t) := next (.ite h.modMbx h)
theorem sysTaiLoRead : NextSafe s (execSysTaiLoRead t) := next (.ite h.modMbx h)
theorem rcRegisterRead {ofs : Nat} : NextSafe s (execRcRegisterRead ofs t) := next (.ite h.modMbx h)
theorem snpCtrlEnable {v : Word} : NextSafe s (execSnpCtrlEnable v t) := next (.ite h.snpCtrl h)
theorem registerWrite {ofs : Nat} {v : Word} : NextSafe s (execRegisterWrite ofs v t) := next (.ite h.regWrite h)
theorem perstN : NextSafe s (execPerstN t) := next (.ite h.modMbx h)

/-! ### Snapshots (chapter 13) -/

theorem snapshotEmission : NextSafe s (execSnapshotEmission t) := by
  unfold execSnapshotEmission
  refine next ?_
  split
  · exact h
  · exact .ite h.snapWrite.modMbx h

theorem snapshotNow {ch : Nat} : NextSafe s (execSnapshotNow ch t) :=
  next (h.command fun _ _ => logged (.iteP h h.modMbx.carryCmd))

theorem snapshotFast {ch : Nat} {ids : List (Pid × Nat)} : NextSafe s (execSnapshotFast ch ids t) :=
  next (h.command fun _ _ => logged (.iteP h (.iteP h (.iteP h h.modMbx.carryCmd))))

/-! ### Commands of the mailbox (chapter 13) -/

theorem getInfo {ch : Nat} : NextSafe s (execGetInfo ch t) := next (h.command fun _ _ => .iteP h h)
theorem readParam {ch : Nat} : NextSafe s (execReadParam ch t) := next (h.command fun _ _ => h.readReq)

theorem writeParam {ch : Nat} : NextSafe s (execWriteParam ch t) := by
  refine next (h.command fun q a => ?_)
  split
  · exact h
  · exact h.writeLogged

theorem brambleReset {ch : Nat} : NextSafe s (execBrambleReset ch t) := next h.hostWrite
theorem reAdmitCell {ch c : Nat} : NextSafe s (execReAdmitCell ch c t) := next h.hostWrite
theorem commit {ch mask : Nat} : NextSafe s (execCommit ch mask t) := next h.hostWrite
theorem testMode {ch : Nat} {on : Bool} : NextSafe s (execTestMode ch on t) := next h.hostWrite
theorem modeRequest {ch m : Nat} : NextSafe s (execModeRequest ch m t) := next h.hostWrite
theorem compareArm {ch k : Nat} {on : Bool} : NextSafe s (execCompareArm ch k on t) := next h.hostWrite
theorem rejoin {ch port : Nat} : NextSafe s (execRejoin ch port t) := next h.hostWrite
theorem resynchronise {ch : Nat} : NextSafe s (execResynchronise ch t) := next h.hostWrite
theorem swapNow {ch : Nat} : NextSafe s (execSwapNow ch t) := next h.hostWrite
theorem recorderArm {ch : Nat} {on : Bool} : NextSafe s (execRecorderArm ch on t) := next h.hostWrite
theorem manualTrigger {ch : Nat} : NextSafe s (execManualTrigger ch t) := next h.hostWrite
theorem scrubNow {ch : Nat} : NextSafe s (execScrubNow ch t) := next h.hostWrite
theorem outputFaultReset {ch mask : Nat} : NextSafe s (execOutputFaultReset ch mask t) := next h.hostWrite
theorem hostReset {ch : Nat} : NextSafe s (execHostReset ch t) := next h.hostWrite
theorem setTime {ch : Nat} {tai : Int} : NextSafe s (execSetTime ch tai t) := next h.hostWrite

theorem bankWrite {ch bank addr : Nat} {ws : List Word} : NextSafe s (execBankWrite ch bank addr ws t) :=
  next (h.command fun _ _ => h.bankWords)

theorem bankRead {ch bank addr n : Nat} : NextSafe s (execBankRead ch bank addr n t) := next (h.command fun _ _ => .iteP h h)

theorem bankSwap {ch : Nat} {crc : Word} {target : Option Nat} : NextSafe s (execBankSwap ch crc target t) :=
  next (h.command fun _ _ => h.bankSwap)

theorem bankCancel {ch : Nat} : NextSafe s (execBankCancel ch t) := next (h.command fun _ _ => h.bankCancel)

theorem deblock {ch : Nat} : NextSafe s (execDeblock ch t) := by
  refine next (h.command fun q a => logged (.iteP h ?_))
  split
  · exact h
  · exact h.acceptCmd

theorem halt {ch : Nat} : NextSafe s (execHalt ch t) := next (h.command fun _ _ => logged (.iteP h (.iteP h.acceptCmd h)))
theorem recordList {ch : Nat} : NextSafe s (execRecordList ch t) := next (h.command fun _ _ => logged h)

theorem recordExport {ch num file ofs n : Nat} : NextSafe s (execRecordExport ch num file ofs n t) := by
  refine next (.ite h (h.command fun q a => logged ?_))
  split
  · exact .iteP h h
  · exact h

theorem recordDelete {ch num : Nat} : NextSafe s (execRecordDelete ch num t) := by
  refine next (h.command fun q a => logged ?_)
  split
  · exact h.recDelete.carryCmd
  · exact h

theorem logRead {ch fromSeq n : Nat} : NextSafe s (execLogRead ch fromSeq n t) := next (h.command fun _ _ => logged h)

theorem guFwLoad {ch ofs : Nat} {bytes : List Byte} : NextSafe s (execGuFwLoad ch ofs bytes t) :=
  next (h.command fun _ _ => logged (.iteP h.guStage.carryCmd h))

theorem guFwStart {ch : Nat} {cells : List Nat} : NextSafe s (execGuFwStart ch cells t) :=
  next (h.command fun _ _ => logged (.iteP h h.guStart.carryCmd))

/-! ### Images (chapter 14) -/

theorem imageBegin {ch kind len : Nat} : NextSafe s (execImageBegin ch kind len t) := next (h.command fun _ _ => h.imgBegin)

theorem imageBlock {ch ofs : Nat} {bytes : List Byte} : NextSafe s (execImageBlock ch ofs bytes t) :=
  next (h.command fun _ _ => h.imgBlock)

theorem imageCommit {ch : Nat} {sha : List Byte} : NextSafe s (execImageCommit ch sha t) := next (h.command fun _ _ => h.imgCommit)

theorem imageSelect {ch : Nat} {fw slotB activate : Bool} : NextSafe s (execImageSelect ch fw slotB activate t) :=
  next (h.command fun _ _ => h.imgSelect)

/-! ### Power, wake and shut-down (chapters 12, 14) -/

theorem pllLoss {p : Pll} : NextSafe s (execPllLoss p t) := by
  have hheld {u : State} {c d : Prop} [Decidable c] [Decidable d] {g : Clk → Clk} (hu : StaysSafe s u) :
      StaysSafe s (if c then (if d then u.e1DropAll.modClk g else u.e1DropAll) else u) := .ite (.ite hu.e1DropAll.modClk hu.e1DropAll) hu
  have hlost {b : Bool} {f : Clk → Clk} {g : Link → Link} {k : Nat} :
      StaysSafe s ((((t.modClk f).rcSet 200 0 k).openReq).when b (fun s => s.modLink g)) := h.modClk.rcSet.openReq.when fun _ h => h.modLink
  exact next (.ite h (.ite (hheld hlost).selfFail (hheld hlost)))

theorem wake {ch : Nat} {obs : WakeObs} : NextSafe s (execWake ch obs t) :=
  next (h.command fun _ _ => .iteP h.audit.wakeUp (logged h))

theorem wakeInputEdge {obs : WakeObs} : NextSafe s (execWakeInputEdge obs t) := next (.ite h.wakeUp h)

theorem blackStartRequestEdge {obs : WakeObs} : NextSafe s (execBlackStartRequestEdge obs t) :=
  next (.ite h (.ite h.modKern.wakeUp h.modKern))

theorem coldWakeRelease {obs : WakeObs} : NextSafe s (execColdWakeRelease obs t) := next (.ite h.wakeSeq h)

theorem identityRetry {obs : WakeObs} : NextSafe s (execIdentityRetry obs t) := by
  have hid {u : State} {l : List Find} (heq : t.identity obs true = (u, l)) : StaysSafe s u := by
    simpa only [heq] using h.identity (obs := obs) (again := true)
  refine next (.ite h ?_)
  split
  next heq => exact (hid heq).passReady
  next heq => exact (hid heq).toPending

theorem sustoWorksProcedure {key0 cred0 : Nat} : NextSafe s (execSustoWorksProcedure key0 cred0 t) :=
  next (.ite (h.modSys rfl).audit h)

theorem sleep {ch : Nat} : NextSafe s (execSleep ch t) := by
  refine next (h.command fun q a => ?_)
  have hreq : StaysSafe s (State.logged (fun s _ _ => s.sleepReq) t q a).1 := logged h.sleepReq
  exact .iteP hreq.carryCmd.shutStart hreq

theorem selfTestSliceEnd {r : SliceRes} : NextSafe s (execSelfTestSliceEnd r t) := next (.ite h.sliceDone h)
theorem sliceTimeout : NextSafe s (execSliceTimeout t) := next (.ite h.sliceDone h)

theorem powerFail : NextSafe s (execPowerFail t) := by
  have hfailed {u : State} {g : Sys → Sys} {p : Store → Store} (hu : StaysSafe s u) (hg : (g (u.failOutputs.audit 0x52).sys).st = _) :
      StaysSafe s (((((u.failOutputs.audit 0x52).modSys g).loseRecords.flushAudit).journalCommit.modPeat p).powerDown) :=
    (hu.failOutputs.audit.modSys hg).loseRecords.flushAudit.journalCommit.modPeat.powerDown
  exact next (.ite h (hfailed (.ite (h.endTest.enter (by decide)) h) rfl))

theorem powerUp {slot : Nat} {strapped vbatOk : Bool} {secs : Nat} {boots : List Bool} :
    NextSafe s (execPowerUp slot strapped vbatOk secs boots t) := by
  refine next (.ite h (.ite (h.modSys rfl) (publishSys (lifeApply (of_off ((enter_safetyOff _ _).mpr ?_))))))
  have hbooted := booted_safetyOff t (slot % 16) strapped vbatOk secs
  refine (when (when (when ?_ fun _ h => h.rcSet) fun _ h => h.rcSet) fun _ h => h.gapRecord).1 hbooted
  exact ((refl _).modSys rfl).modClk.bootParams.modClk

theorem firmwareWatchdog : NextSafe s (execFirmwareWatchdog t) := next (.ite h ((h.modMbx.modSys rfl).when fun _ h => h.rcSet))

/-! ### Boundaries (chapters 01, 03) -/

theorem supervisorySampleBoundary {sens : Sensors} : NextSafe s (execSupervisorySampleBoundary sens t) := by
  have hidle : StaysSafe s (t.takeSensors sens).hostDue.supPublish := h.takeSensors.hostDue.supPublish
  refine next (.ite h (.ite (.ite hidle.wakeUp hidle) ?_))
  have hwork {c : Prop} [Decidable c] {g : Twin → Twin} :
      StaysSafe s (if c then (t.takeSensors sens).modTwin g else (t.takeSensors sens).supWork) :=
    .ite h.takeSensors.modTwin h.takeSensors.supWork
  exact hwork.reconcile.creditsReconcile.rangingCheck.poolReentry.supCounts.supPublish

theorem controlSampleBoundary : NextSafe s (execControlSampleBoundary t) := next (.ite h (.ite h.modTwin h.controlWork))

theorem frameBoundary {obs : EngObs} : NextSafe s (execFrameBoundary obs t) := by
  have hlate : StaysSafe s (t.latchLate (fun s _ => s) none) := h.latchLate fun _ _ h => h
  have hdue {b : Bool} : StaysSafe s ((((t.latchLate (fun s _ => s) none).tick.twinFrame.shutFrame).when b State.sampleStarts).paramsDue) :=
    (hlate.tick.twinFrame.shutFrame.when fun _ h => h.sampleStarts).paramsDue
  exact next (.ite h (.ite hdue.frameWork hdue.fieldLatch.fieldOutputs.publishFrame))

/-! ### The pair's blocks that latch (chapter 09) -/

theorem sealBlock {b : TBlk} {lepoch : Nat} : NextSafe s (execSeal b lepoch t) := by
  unfold execSeal
  refine next ?_
  dsimp only
  split
  · exact .ite (.ite h.tTake.heartbeatT.modTwin.latchNowWith h.tTake.heartbeatT.modTwin) h.tTake.heartbeatT.modTwin
  · exact h.tTake

theorem sealMissing {chainSeen : Bool} : NextSafe s (execSealMissing chainSeen t) :=
  next (.ite h (.ite h.latchNowWith.startResync h.latchNowWith))

theorem exception {b : TBlk} {port : Nat} {slots : List Slot} {nestBytes : List Byte} :
    NextSafe s (execException b port slots nestBytes t) := by
  unfold execException
  refine next ?_
  dsimp only
  split
  · refine .ite h.tTake (.ite (startResync (modTwin (.ite (h.tTake.modTwin.forAll ?_) h.tTake.modTwin.exceptNest)))
      (.ite (h.tTake.modTwin.forAll ?_) h.tTake.modTwin.exceptNest))
    all_goals
      intro u x hu
      split
      · exact hu.exceptSlot
      · exact hu
  · exact h.tTake

theorem fail {b : TBlk} {src : Nat} : NextSafe s (execFail b src t) := by
  unfold execFail
  refine next ?_
  dsimp only
  split
  · exact .ite h.tTake h.tTake.latchNowWith.declareFailed
  · exact h.tTake

theorem partnerFailed : NextSafe s (execPartnerFailed t) := next (.ite h.latchNowWith.declareFailed h)

theorem state {b : TBlk} {slice : List Byte} {last : Bool} : NextSafe s (execState b slice last t) := by
  unfold execState
  refine next ?_
  dsimp only
  split
  · refine .ite h.tTake (.ite h.tTake.modTwin ?_)
    split
    · exact h.tTake.modTwin.loadImg.replay.modTwin
    · exact h.tTake.modTwin.modTwin
  · exact h.tTake

end
end NextSafe

end Sys2Proof.Machine
end

section
/-!
SUPPORT. The safety outputs at rest (R379, R441, R491): Hedgerow's channels, which drive by what asks for a switch, then every command.
-/
namespace Sys2Proof.Machine
open Sys2Proof

/-! ### Hedgerow's channels (chapter 10) -/

theorem forall_mem_modify {α : Type} {P : α → Prop} {f : α → α} (hf : ∀ x, P x → P (f x)) {l : List α} (h : ∀ x ∈ l, P x)
    (k : Nat) : ∀ x ∈ l.modify k f, P x := by
  intro x hx
  obtain ⟨j, hj, rfl⟩ := List.mem_iff_getElem.mp hx
  have hat : P (l[j]'(by simpa using hj)) := h _ (List.getElem_mem _)
  rw [List.getElem_modify]
  split
  · exact hf _ hat
  · exact hat

theorem driven_off_isOpen {o : HOut} (b : Bool) (h : o.isOpen) : (o.driven b true).isOpen := by
  obtain ⟨hhs, hls⟩ := h
  cases b
  · exact ⟨rfl, hls⟩
  · exact ⟨hhs, rfl⟩

/-- Rest asks for every switch, so a channel that drives closes none. -/
theorem State.safetyInv.drive {s : State} (hs : s.safetyInv) (b : Bool) : (s.drive b).safetyInv := by
  rw [drive_eq]
  intro hrest
  have hoff (so : Nat) : s.chOff b so = true := chOff_of_soReq b (soReq_of_resting hrest so)
  have hopen : ∀ o, HOut.isOpen o → (o.driven b true).isOpen := fun _ ho => driven_off_isOpen b ho
  show ∀ o ∈ s.drivenOuts b, o.isOpen
  rw [State.drivenOuts, hoff, hoff]
  exact forall_mem_modify hopen (forall_mem_modify hopen (hs hrest) 0) 1

theorem safetyOff_iff_switches (s : State) : s.safetyOff ↔ ∀ p ∈ s.hdg.switches, p = (false, false) := by
  simp [State.safetyOff, Hdg.switches]

namespace StaysSafe
variable {s t : State}

/-- The same switches in the same state of the module. -/
theorem of_switches (hst : t.sys.st = s.sys.st) (hsw : t.hdg.switches = s.hdg.switches) : StaysSafe s t := by
  refine ⟨fun hs => ?_, fun ht => .inl ?_⟩
  · rwa [safetyOff_iff_switches, hsw, ← safetyOff_iff_switches]
  · simpa only [State.resting, hst] using ht

theorem of_inCycle {b : Bool} {obs : HdgObs} (h : InCycle (s.sampledView b obs) t) : StaysSafe s t :=
  of_switches (congrArg (fun v => v.1.sys.st) h) (congrArg (fun v => v.2.2.2) h)

section
variable (h : StaysSafe s t)
include h

theorem updCh {b : Bool} {f : HCh → HCh} : StaysSafe s (t.updCh b f) := by
  cases b
  · exact h.modHdg rfl
  · exact h.modHdg rfl

theorem updSo {k : Nat} {f : HOut → HOut} (hf : ∀ o, ((f o).hs, (f o).ls) = (o.hs, o.ls)) : StaysSafe s (t.updSo k f) :=
  h.trans (of_switches rfl (map_modify_eq hf _ _))

theorem startStop : StaysSafe s t.startStop := h.modHdg rfl

theorem latchFn {b : Bool} {f : Nat} : StaysSafe s (t.latchFn b f) :=
  .ite h (when (when h.updCh fun _ h => h.modHdg rfl) fun _ h => h.startStop)

end
end StaysSafe

theorem NextSafe.crossLinkMessage {s t : State} (h : StaysSafe s t) {b : Bool} {m : Option XMsg} :
    NextSafe s (execCrossLinkMessage b m t) := by
  refine next (.ite h ?_)
  split
  · exact h.updCh
  · exact h.updCh

/-- The command goes on to a state that has the safety outputs off at rest. -/
def NextInv (o : Host.Outcome State Fault Refusal) : Prop := ∃ t, o = .next t ∧ t.safetyInv

theorem NextSafe.inv {s : State} {o : Host.Outcome State Fault Refusal} (h : NextSafe s o) (hs : s.safetyInv) : NextInv o := by
  obtain ⟨t, ho, ht⟩ := h
  exact ⟨t, ho, ht.safetyInv hs⟩

namespace State.safetyInv
variable {s t u : State}

theorem next (h : t.safetyInv) : NextInv (.next t) := ⟨t, rfl, h⟩

theorem ite {c : Prop} [Decidable c] (h : t.safetyInv) (k : u.safetyInv) : (if c then t else u).safetyInv := by
  split
  · exact h
  · exact k

section
variable (hs : s.safetyInv)
include hs

theorem safetyCycle {b : Bool} {obs : HdgObs} : NextInv (execSafetyCycle b obs s) := by
  obtain ⟨u, hu, heq⟩ := safetyCycle_spec s b obs
  refine next (ite ?_ hs)
  rw [heq]
  exact ((StaysSafe.of_inCycle hu).updCh.safetyInv hs).drive b

theorem xcmpFault {b : Bool} : NextInv (execXcmpFault b s) :=
  next (ite ((((StaysSafe.refl s).updCh.safetyInv hs).drive b).drive !b) hs)

theorem clockFault {b : Bool} {dev : Int} : NextInv (execClockFault b dev s) :=
  next (ite ((((StaysSafe.refl s).updCh.safetyInv hs).drive b).drive !b) hs)

theorem functionRaised {b : Bool} {f : Nat} : NextInv (execFunctionRaised b f s) :=
  next (ite (((StaysSafe.refl s).latchFn.safetyInv hs).drive b) hs)

theorem safeStopDelayEnd : NextInv (execSafeStopDelayEnd s) :=
  next (ite (((((StaysSafe.refl s).modHdg rfl).safetyInv hs).drive false).drive true) hs)

theorem discFault {k : Nat} : NextInv (execDiscFault k s) := by
  have hlatched {f : Hdg → Hdg} {b : Bool} (hf : (f s.hdg).outs = s.hdg.outs) : StaysSafe s ((s.modHdg f).when b State.startStop) :=
    ((StaysSafe.refl s).modHdg hf).when fun _ h => h.startStop
  exact next (ite ((((hlatched rfl).safetyInv hs).drive false).drive true) hs)

theorem outputPairTest {so : Nat} {obs : PairObs} : NextInv (execOutputPairTest so obs s) := by
  have h := StaysSafe.refl s
  unfold execOutputPairTest
  refine next (ite hs (ite (ite ((((h.updSo ?_).rcSet.safetyInv hs).drive false).drive true) ((h.updSo ?_).safetyInv hs))
    ((((h.updSo ?_).safetyInv hs).drive false).drive true)))
  all_goals exact fun _ => rfl

end
end State.safetyInv

/-! ### Every command -/

open NextSafe in
theorem exec_safetyInv {s : State} (hs : s.safetyInv) (c : Instr) : NextInv (exec c s) := by
  have h := StaysSafe.refl s
  exact match c with
  | .frameBoundary .. => (frameBoundary h).inv hs
  | .controlSampleBoundary => (controlSampleBoundary h).inv hs
  | .supervisorySampleBoundary .. => (supervisorySampleBoundary h).inv hs
  | .driftWindowEnd => (driftWindowEnd h).inv hs
  | .snapshotEmission => (snapshotEmission h).inv hs
  | .snapshotDmaError => (snapshotDmaError h).inv hs
  | .groupOverrun .. => (groupOverrun h).inv hs
  | .loopOverrunRaised .. => (loopOverrunRaised h).inv hs
  | .backgroundRunStart => (backgroundRunStart h).inv hs
  | .backgroundRunEnd => (backgroundRunEnd h).inv hs
  | .backgroundWatchdog => (backgroundWatchdog h).inv hs
  | .engineSramUncorrectable .. => (engineSramUncorrectable h).inv hs
  | .analogConversionComplete .. => (analogConversionComplete h).inv hs
  | .sigmaDeltaOutput .. => (sigmaDeltaOutput h).inv hs
  | .sdFault .. => (sdFault h).inv hs
  | .sdValidityReturn .. => (sdValidityReturn h).inv hs
  | .sampledValueMessage .. => (sampledValueMessage h).inv hs
  | .crossingTimeout .. => (crossingTimeout h).inv hs
  | .blackStartRequestEdge .. => (blackStartRequestEdge h).inv hs
  | .syncCompareArmed => (syncCompareArmed h).inv hs
  | .syncAbort => (syncAbort h).inv hs
  | .syncFail => (syncFail h).inv hs
  | .limitedReturn => (limitedReturn h).inv hs
  | .refreshDue .. => (refreshDue h).inv hs
  | .refreshOverdue .. => (refreshOverdue h).inv hs
  | .gateSupplyLow .. => (gateSupplyLow h).inv hs
  | .statusStale .. => (statusStale h).inv hs
  | .crihelReturnFrame .. => (crihelReturnFrame h).inv hs
  | .returnFrameMissing .. => (returnFrameMissing h).inv hs
  | .linkLoss .. => (linkLoss h).inv hs
  | .messageReply .. => (messageReply h).inv hs
  | .msgTimeout .. => (msgTimeout h).inv hs
  | .nestDown .. => (nestDown h).inv hs
  | .nestUp .. => (nestUp h).inv hs
  | .nestLoss .. => (nestLoss h).inv hs
  | .sourceRaised .. => (sourceRaised h).inv hs
  | .sourceCleared .. => (sourceCleared h).inv hs
  | .pairFormation .. => (pairFormation h).inv hs
  | .vector .. => (vector h).inv hs
  | .exception .. => (exception h).inv hs
  | .seal .. => (sealBlock h).inv hs
  | .sealMissing .. => (sealMissing h).inv hs
  | .digests .. => (digests h).inv hs
  | .hb _ lepoch _ _ => (hb h (lepoch := lepoch)).inv hs
  | .outDigest .. => (outDigest h).inv hs
  | .fail _ src => (fail h (src := src)).inv hs
  | .swap .. => (swap h).inv hs
  | .state .. => (state h).inv hs
  | .relay .. => (relay h).inv hs
  | .partnerFailed => (partnerFailed h).inv hs
  | .heartbeatPathLost .. => (heartbeatPathLost h).inv hs
  | .resyncComplete .. => (resyncComplete h).inv hs
  | .resyncGiveup => (resyncGiveup h).inv hs
  | .swapPeriodElapsed => (swapPeriodElapsed h).inv hs
  | .safetyCycle .. => hs.safetyCycle
  | .crossLinkMessage .. => (crossLinkMessage h).inv hs
  | .xcmpFault .. => hs.xcmpFault
  | .clockFault .. => hs.clockFault
  | .functionRaised .. => hs.functionRaised
  | .safeStopDelayEnd => hs.safeStopDelayEnd
  | .discFault .. => hs.discFault
  | .outputPairTest .. => hs.outputPairTest
  | .recordComplete => (recordComplete h).inv hs
  | .recordWritten => (recordWritten h).inv hs
  | .preTriggerFilled => (preTriggerFilled h).inv hs
  | .holdoffEnd => (holdoffEnd h).inv hs
  | .memoryReserved => (memoryReserved h).inv hs
  | .pllLock .. => (pllLock h).inv hs
  | .pllLoss .. => (pllLoss h).inv hs
  | .pllRelock .. => (pllRelock h).inv hs
  | .refFallback .. => (refFallback h).inv hs
  | .refinLost => (refinLost h).inv hs
  | .refinResume => (refinResume h).inv hs
  | .ptpMessage .. => (ptpMessage h).inv hs
  | .irigbFrame .. => (irigbFrame h).inv hs
  | .ppsInEdge .. => (ppsInEdge h).inv hs
  | .timeSourceLost .. => (timeSourceLost h).inv hs
  | .timeLocked => (timeLocked h).inv hs
  | .holdoverExpired => (holdoverExpired h).inv hs
  | .leapSecond => (leapSecond h).inv hs
  | .ppsOut .. => (ppsOut h).inv hs
  | .powerUp .. => (powerUp h).inv hs
  | .powerFail => (powerFail h).inv hs
  | .perstN => (perstN h).inv hs
  | .wakeInputEdge .. => (wakeInputEdge h).inv hs
  | .coldWakeRelease .. => (coldWakeRelease h).inv hs
  | .identityRetry obs => (identityRetry h (obs := obs)).inv hs
  | .selfTestSliceEnd .. => (selfTestSliceEnd h).inv hs
  | .sliceTimeout => (sliceTimeout h).inv hs
  | .mbDoorbell .. => (mbDoorbell h).inv hs
  | .abort .. => (abort h).inv hs
  | .doneClear .. => (doneClear h).inv hs
  | .requestStart => (requestStart h).inv hs
  | .e1ConnectionOpen .. => (e1ConnectionOpen h).inv hs
  | .e1ConnectionClose .. => (e1ConnectionClose h).inv hs
  | .e1Request .. => (e1Request h).inv hs
  | .sessionIdleTimeout .. => (sessionIdleTimeout h).inv hs
  | .authLockoutEnd .. => (authLockoutEnd h).inv hs
  | .loadLevelChange .. => (loadLevelChange h).inv hs
  | .sysFrameLoRead => (sysFrameLoRead h).inv hs
  | .sysTaiLoRead => (sysTaiLoRead h).inv hs
  | .rcRegisterRead .. => (rcRegisterRead h).inv hs
  | .snpCtrlEnable .. => (snpCtrlEnable h).inv hs
  | .registerWrite .. => (registerWrite h).inv hs
  | .getInfo .. => (getInfo h).inv hs
  | .openSession .. => (openSession h).inv hs
  | .authSession .. => (authSession h).inv hs
  | .closeSession .. => (closeSession h).inv hs
  | .readParam .. => (readParam h).inv hs
  | .writeParam .. => (writeParam h).inv hs
  | .bankWrite .. => (bankWrite h).inv hs
  | .bankRead .. => (bankRead h).inv hs
  | .bankSwap .. => (bankSwap h).inv hs
  | .bankCancel .. => (bankCancel h).inv hs
  | .deblock .. => (deblock h).inv hs
  | .halt .. => (halt h).inv hs
  | .sleep .. => (sleep h).inv hs
  | .wake .. => (wake h).inv hs
  | .imageBegin .. => (imageBegin h).inv hs
  | .imageBlock .. => (imageBlock h).inv hs
  | .imageCommit .. => (imageCommit h).inv hs
  | .imageSelect .. => (imageSelect h).inv hs
  | .snapshotNow .. => (snapshotNow h).inv hs
  | .snapshotFast .. => (snapshotFast h).inv hs
  | .recordList .. => (recordList h).inv hs
  | .recordExport .. => (recordExport h).inv hs
  | .recordDelete .. => (recordDelete h).inv hs
  | .logRead .. => (logRead h).inv hs
  | .guFwLoad .. => (guFwLoad h).inv hs
  | .guFwStart .. => (guFwStart h).inv hs
  | .brambleReset .. => (brambleReset h).inv hs
  | .reAdmitCell .. => (reAdmitCell h).inv hs
  | .commit .. => (commit h).inv hs
  | .testMode .. => (testMode h).inv hs
  | .modeRequest .. => (modeRequest h).inv hs
  | .compareArm .. => (compareArm h).inv hs
  | .rejoin .. => (rejoin h).inv hs
  | .resynchronise .. => (resynchronise h).inv hs
  | .swapNow .. => (swapNow h).inv hs
  | .recorderArm .. => (recorderArm h).inv hs
  | .manualTrigger .. => (manualTrigger h).inv hs
  | .scrubNow .. => (scrubNow h).inv hs
  | .outputFaultReset .. => (outputFaultReset h).inv hs
  | .hostReset .. => (hostReset h).inv hs
  | .setTime .. => (setTime h).inv hs
  | .journalCommit => (journalCommit h).inv hs
  | .auditPageWrite => (auditPageWrite h).inv hs
  | .scrubRead .. => (scrubRead h).inv hs
  | .programEraseFailure .. => (programEraseFailure h).inv hs
  | .uncorrectable .. => (uncorrectable h).inv hs
  | .fieldFrame .. => (fieldFrame h).inv hs
  | .inputLevelChange .. => (inputLevelChange h).inv hs
  | .wireBreak .. => (wireBreak h).inv hs
  | .wireBreakCleared .. => (wireBreakCleared h).inv hs
  | .thermalShutdown .. => (thermalShutdown h).inv hs
  | .outputFault .. => (outputFault h).inv hs
  | .fieldTestPulse .. => (fieldTestPulse h).inv hs
  | .logicSilence => (logicSilence h).inv hs
  | .fieldFramesReturn => (fieldFramesReturn h).inv hs
  | .lplusMonitor => (lplusMonitor h).inv hs
  | .sfpInsertRemove .. => (sfpInsertRemove h).inv hs
  | .temperatureThreshold .. => (temperatureThreshold h).inv hs
  | .compareOutputPulseEnd .. => (compareOutputPulseEnd h).inv hs
  | .outputThermalRestart .. => (outputThermalRestart h).inv hs
  | .firmwareWatchdog => (firmwareWatchdog h).inv hs
  | .sustoWorksProcedure .. => (sustoWorksProcedure h).inv hs

/-- Settles O4: each command keeps the safety outputs off at rest: Hedgerow's channels drive by what asks for a switch, and rest does; every
other command leaves the switches or opens them. -/
theorem safetyOutputsStayOff : Obligations.SafetyOutputsStayOff := by
  intro s t hs hstep
  unfold step at hstep
  split at hstep
  · cases hstep
    exact hs
  next c rest _ =>
    obtain ⟨u, hnext, hu⟩ := exec_safetyInv (s := { s with pending := rest }) hs c
    rw [hnext] at hstep
    cases hstep
    exact hu

end Sys2Proof.Machine
end

section
/-!
SUPPORT. The queue, and a RETIRED module (R506, R507). `StaysRetired s t` says of a stretch of work that it leaves the queue, and that a
module which is RETIRED with its keys erased stays so; one lemma for each operation, which goes on from a state reached so far. Here: what
it composes of, and the operations of chapters 02 to 08 and 12.
-/
namespace Sys2Proof.Machine
open Sys2Proof

/-- What RETIRED makes final (R506, R507): the life-cycle state, the key slots and the credentials. -/
def Sys.sealed (y : Sys) : Life × Nat × Option Nat × Option Nat × List Cred := (y.life, y.key0, y.key1, y.key2, y.creds)

/-- From `s` to `t` the queue stays, and a RETIRED module whose keys are erased stays one. -/
def StaysRetired (s t : State) : Prop := t.pending = s.pending ∧ (s.retiredInv → t.retiredInv)

theorem retiredInv_of_sealed {s t : State} (h : t.sys.sealed = s.sys.sealed) (hs : s.retiredInv) : t.retiredInv := by
  simp only [Sys.sealed, Prod.mk.injEq] at h
  obtain ⟨hlife, h0, h1, h2, hcreds⟩ := h
  simpa only [State.retiredInv, Sys.keysErased, hlife, h0, h1, h2, hcreds] using hs

/-- A RETIRED module answers GET_INFO alone (R506). -/
theorem mute_of_retiredInv {s : State} (h : s.retiredInv) : s.mute = true := by
  obtain ⟨hlife, -⟩ := h
  simp [State.mute, hlife]

namespace StaysRetired
variable {s t u : State}

/-! ### Composition -/

theorem refl (s : State) : StaysRetired s s := ⟨rfl, id⟩

/-- The queue, the life-cycle state and the keys stay. -/
theorem of_sealed (hp : t.pending = s.pending) (hk : t.sys.sealed = s.sys.sealed) : StaysRetired s t := ⟨hp, retiredInv_of_sealed hk⟩

/-- Work that a RETIRED module does not do leaves the queue. -/
theorem of_not_retired (hp : t.pending = s.pending) (hs : ¬ s.retiredInv) : StaysRetired s t := ⟨hp, fun h => absurd h hs⟩

theorem trans (h : StaysRetired s t) (k : StaysRetired t u) : StaysRetired s u := by
  obtain ⟨hq, hr⟩ := h
  obtain ⟨kq, kr⟩ := k
  exact ⟨kq.trans hq, kr ∘ hr⟩

theorem when {b : Bool} {f : State → State} (h : StaysRetired s t) (hf : ∀ v, StaysRetired s v → StaysRetired s (f v)) :
    StaysRetired s (t.when b f) := by
  cases b with
  | false => exact h
  | true => exact hf t h

theorem ite {c : Prop} [Decidable c] (h : StaysRetired s t) (k : StaysRetired s u) : StaysRetired s (if c then t else u) := by
  split
  · exact h
  · exact k

/-- A choice between two answers of a command. -/
theorem iteP {α : Type} {c : Prop} [Decidable c] {p q : State × α} (h : StaysRetired s p.1) (k : StaysRetired s q.1) :
    StaysRetired s (if c then p else q).1 := by
  split
  · exact h
  · exact k

theorem foldl {β : Type} {l : List β} {f : State → β → State} (h : StaysRetired s t)
    (hf : ∀ v b, StaysRetired s v → StaysRetired s (f v b)) : StaysRetired s (l.foldl f t) := forAll_invariant h hf

theorem forAll {β : Type} {l : List β} {f : State → β → State} (h : StaysRetired s t)
    (hf : ∀ v b, StaysRetired s v → StaysRetired s (f v b)) : StaysRetired s (forAll l f t) := forAll_invariant h hf

section
variable (h : StaysRetired s t)
include h

/-- A change that leaves the life-cycle state and the keys. -/
theorem modSys {g : Sys → Sys} (hg : (g t.sys).sealed = t.sys.sealed) : StaysRetired s (t.modSys g) := h.trans (of_sealed rfl hg)

/-- A change of a module that is not RETIRED. -/
theorem changeOther {g : Sys → Sys} (hn : t.sys.life ≠ .retired) : StaysRetired s (t.modSys g) :=
  h.trans (of_not_retired rfl fun ⟨hlife, _⟩ => hn hlife)

theorem modHdg {g : Hdg → Hdg} : StaysRetired s (t.modHdg g) := h
theorem openReq : StaysRetired s t.openReq := h

/-- Frames that leave as the work of their boundary leaves the module. -/
theorem sent {v u : State} (hu : StaysRetired (t.asSent v) u) : StaysRetired s (u.afterSent t) := h.trans hu

theorem audit {ty : Nat} {w : Who} {subj : Nat} {old new detail : Int} {result : Nat} {more : List Reason} {vals : List (List Int)} :
    StaysRetired s (t.audit ty w subj old new detail result more vals) := .foldl h fun _ _ h => h

theorem enter {m : MState} {w : Who} : StaysRetired s (t.enter m w) := h.audit (ty := 0x20) (w := w) (old := t.sys.st.code) (new := m.code)

/-! ### Records of the state and shared operations -/

theorem modClk {g : Clk → Clk} : StaysRetired s (t.modClk g) := h
theorem modMeas {g : Meas → Meas} : StaysRetired s (t.modMeas g) := h
theorem modEng {g : Eng → Eng} : StaysRetired s (t.modEng g) := h
theorem modKern {g : Kern → Kern} : StaysRetired s (t.modKern g) := h
theorem modArm {g : Arm → Arm} : StaysRetired s (t.modArm g) := h
theorem modLink {g : Link → Link} : StaysRetired s (t.modLink g) := h
theorem modNest {g : Nest → Nest} : StaysRetired s (t.modNest g) := h
theorem modProt {g : Prot → Prot} : StaysRetired s (t.modProt g) := h
theorem modTwin {g : Twin → Twin} : StaysRetired s (t.modTwin g) := h
theorem modAcq {g : Acq → Acq} : StaysRetired s (t.modAcq g) := h
theorem modMbx {g : Mbx → Mbx} : StaysRetired s (t.modMbx g) := h
theorem modPar {g : Par → Par} : StaysRetired s (t.modPar g) := h
theorem modPeat {g : Store → Store} : StaysRetired s (t.modPeat g) := h
theorem modFio {g : Fio → Fio} : StaysRetired s (t.modFio g) := h
theorem modHw {g : Hw → Hw} : StaysRetired s (t.modHw g) := h
theorem modPub {g : Pub → Pub} : StaysRetired s (t.modPub g) := h
theorem modTrk {g : List Trk → List Trk} : StaysRetired s (t.modTrk g) := h
theorem setRaw {id : Pid} {e : Nat} {v : Raw} : StaysRetired s (t.setRaw id e v) := h
theorem updCell {c : Nat} {f : Cell → Cell} : StaysRetired s (t.updCell c f) := h
theorem mapCells {f : Nat → Cell → Cell} : StaysRetired s (t.mapCells f) := h
theorem updArm {a : Nat} {f : ArmS → ArmS} : StaysRetired s (t.updArm a f) := h
theorem updRef {a : Nat} {f : RefA → RefA} : StaysRetired s (t.updRef a f) := h
theorem updPort {p : Nat} {f : Port → Port} : StaysRetired s (t.updPort p f) := h
theorem updKid {i : Nat} {f : Nst → Nst} : StaysRetired s (t.updKid i f) := h
theorem updTrk {k : Nat} {f : Trk → Trk} : StaysRetired s (t.updTrk k f) := h
theorem updChan {c : Nat} {f : Chan → Chan} : StaysRetired s (t.updChan c f) := h
theorem updOut {o : Nat} {f : OutS → OutS} : StaysRetired s (t.updOut o f) := h
theorem rcSet {d e k : Nat} : StaysRetired s (t.rcSet d e k) := h
theorem rcPublish {lo hi : Nat} : StaysRetired s (t.rcPublish lo hi) := h
theorem irqSet {k : Nat} : StaysRetired s (t.irqSet k) := h

/-! ### Inputs and trackers (chapter 02) -/

theorem condSample {k : Nat} {b : Bool} : StaysRetired s (t.condSample k b) := h

theorem ocSample {i : Nat} {odd : Bool} {c : Int} : StaysRetired s (t.ocSample i odd c) :=
  h.foldl fun _ _ h => h.condSample.modProt

theorem rawSample {i : Nat} {c : Int} : StaysRetired s (t.rawSample i c) := h

theorem convert {k : Nat} {smp : Sample} : StaysRetired s (t.convert k smp) :=
  ((h.modMeas.when fun _ h => h.rcSet).when fun _ h => h.rawSample).ocSample

theorem deliver : StaysRetired s t.deliver := h
theorem cmpDisarm {k : Nat} : StaysRetired s (t.cmpDisarm k) := .ite h.updTrk.rcSet.setRaw h
theorem trkCross {k : Nat} {neg : Bool} {tx : Int} : StaysRetired s (t.trkCross k neg tx) := .ite h.updTrk.rcSet.cmpDisarm h.updTrk

theorem trkMark {k j : Nat} {neg : Bool} {beyond : Int} {ok : Bool} {tx : Int} : StaysRetired s (t.trkMark k j neg beyond ok tx) :=
  .ite h (.ite h.updTrk.trkCross h.updTrk)

theorem trkCrossings {k : Nat} {a1 a2 : Angle} {t1 t2 : Int} {ok : Bool} : StaysRetired s (t.trkCrossings k a1 a2 t1 t2 ok) := by
  unfold State.trkCrossings
  refine .foldl ?_ fun _ _ h => h.trkMark
  split
  · exact h.trkMark
  · exact h

theorem cmpFire {k : Nat} {tx ts : Int} : StaysRetired s (t.cmpFire k tx ts) := h.updTrk.modKern.rcSet.setRaw

theorem cmpEval {k : Nat} {a1 : Angle} {prevOk : Bool} {a2 : Angle} {t1 t2 : Int} : StaysRetired s (t.cmpEval k a1 prevOk a2 t1 t2) := by
  have hmark {b : Bool} {g : Trk → Trk} : StaysRetired s ((t.updTrk k g).when b (fun s => s.rcSet 44 k 10)) :=
    h.updTrk.when fun _ h => h.rcSet
  exact .ite (.ite hmark.cmpFire hmark) (.ite hmark.cmpFire hmark)

theorem trkFrame {k : Nat} : StaysRetired s (t.trkFrame k) := by
  unfold State.trkFrame
  refine .ite h ?_
  have hmag {c : Prop} [Decidable c] {g : Trk → Trk} : StaysRetired s (if c then t else t.updTrk k g) := .ite h h.updTrk
  have hcross {c d : Prop} [Decidable c] [Decidable d] {f g : Trk → Trk} {a1 a2 : Angle} {t1 t2 : Int} {ok : Bool} :
      StaysRetired s ((if d then (if c then t else t.updTrk k g).trkCrossings k a1 a2 t1 t2 ok
        else if c then t else t.updTrk k g).updTrk k f) :=
    (StaysRetired.ite hmag.trkCrossings hmag).updTrk
  exact .ite hcross.cmpEval hcross

theorem trkTimeout {k : Nat} : StaysRetired s (t.trkTimeout k) := .ite h.updTrk.rcSet h
theorem cmpWrite {k n : Nat} {v : Raw} : StaysRetired s (t.cmpWrite k n v) := .ite h.updTrk (.ite h.updTrk h)

/-! ### Loop engine and kernel (chapters 03 and 04) -/

theorem startRun {g : Grp} {bank : Bool} {knext : Option (KOut × KMode)} {due : Nat} : StaysRetired s (t.startRun g bank knext due) :=
  h.modEng

theorem numericEv {l : List Nat} {inv : Bool} : StaysRetired s (t.numericEv l inv) := h.modEng.when fun _ h => h.rcSet
theorem numericOf {r : Run} : StaysRetired s (t.numericOf r) := h.numericEv
theorem publishRun {g : Grp} {r : Run} : StaysRetired s (t.publishRun g r) := h.modEng.numericOf
theorem measureSpan {g : Grp} {v : Nat} : StaysRetired s (t.measureSpan g v) := .ite h.modEng.rcSet.audit h.modEng

theorem overrun {g : Grp} : StaysRetired s (t.overrun g) := by
  unfold State.overrun
  split
  · exact h
  · split
    · exact h.numericOf.modEng.modEng.rcSet
    · exact h.numericOf.modEng.numericEv.modEng.modKern.rcSet
    · exact h.numericOf.modEng.modEng.rcSet.audit
    · exact h.numericOf.modEng

theorem publishDue {g : Grp} {spans : List Nat} : StaysRetired s (t.publishDue g spans) := by
  unfold State.publishDue
  split
  · exact .ite h (.ite h.overrun.measureSpan h.publishRun.measureSpan)
  · exact h

theorem bankExchange : StaysRetired s t.bankExchange := .ite h.modEng.modPar.audit h
theorem kernStart : StaysRetired s t.kernStart := .ite h (StaysRetired.ite h.modKern h).modKern

theorem syncDisarm : StaysRetired s t.syncDisarm := by
  unfold State.syncDisarm
  refine .modKern ?_
  split
  · exact h.updTrk.setRaw
  · exact h

theorem kernPublish : StaysRetired s t.kernPublish := by
  unfold State.kernPublish
  split
  · exact h
  · refine modKern (when (rcPublish (numericEv ?_)) fun _ h => h.syncDisarm)
    refine when (when (when (when (when ?_ ?_) ?_) ?_) ?_) fun _ h => h.setRaw
    · split
      · exact h.modKern.audit
      · exact h.modKern
    · exact fun _ h => h.rcSet.audit
    · exact fun _ h => h.rcSet.audit
    · exact fun _ h => h.rcSet
    · exact fun _ h => h.rcSet.audit

theorem syncArm : StaysRetired s (Machine.syncArm t) := by
  unfold Machine.syncArm
  dsimp only
  split
  · exact .ite h.cmpWrite.setRaw.modKern h
  · exact h

theorem kernForce {n : Nat} : StaysRetired s (t.kernForce n) := by
  unfold State.kernForce
  dsimp only
  split
  · exact .ite h.modKern.startRun h.modKern
  · exact h.modKern

theorem syncFailed : StaysRetired s (Machine.syncFailed t) := by
  unfold Machine.syncFailed
  split
  · exact .ite h.rcSet.audit.modKern h
  · exact h

/-! ### Arms and cells (chapter 05) -/

theorem refTake {published : Bool} : StaysRetired s (t.refTake published) := h.forAll fun _ _ h => h.updRef
theorem pwmRestart : StaysRetired s t.pwmRestart := h
theorem direction {a : Nat} : StaysRetired s (t.direction a) := h

theorem pscModulate {a m : Nat} {v : Int} : StaysRetired s (t.pscModulate a m v) := by
  unfold State.pscModulate
  refine forAll (.ite h ?_) fun _ _ h => h.updCell
  exact ((h.when fun _ h => h.rcSet).forAll fun _ _ h => h.updCell).updArm

theorem armLatch {a : Nat} : StaysRetired s (t.armLatch a) := h.direction.updArm

theorem pwmPlan {a m : Nat} {n v : Int} {turn start : Bool} {r : Sel} : StaysRetired s (t.pwmPlan a m n v turn start r) := by
  unfold State.pwmPlan
  refine .ite ?_ (.ite ?_ h)
  · split
    · exact h.updArm.updCell
    · exact h.updArm.rcSet
  · split
    · exact h.updArm.updCell
    · exact h

theorem selectArm {a m : Nat} {grant : Option (Int × Int)} {blk : Bool} : StaysRetired s (t.selectArm a m grant blk) := by
  unfold State.selectArm
  have hgone {b : Bool} :
      StaysRetired s (t.when b (fun s => (s.updArm a (fun x => { x with pwm := none, pwmWait := false })).rcSet 100 a 10)) :=
    h.when fun _ h => h.updArm.rcSet
  cases grant with
  | none => exact hgone.updArm
  | some g => exact .ite hgone.updArm hgone.updArm.pwmPlan

theorem formArm {a m : Nat} : StaysRetired s (t.formArm a m) := (h.forAll fun _ _ h => h.updCell).updArm.when fun _ h => h.rcSet
theorem refreshCount : StaysRetired s t.refreshCount := .ite h h.mapCells

/-! ### Station time (chapter 12) -/

theorem stepTime {off : Int} {frac : Nat} : StaysRetired s (t.stepTime off frac) := h.audit.modClk.rcSet.modMeas.mapCells
theorem takeStep : StaysRetired s t.takeStep := .ite (.ite h.stepTime h.modClk) h

theorem measureTime {code : Nat} {off : Int} {frac : Nat} {anew : Bool} : StaysRetired s (t.measureTime code off frac anew) := by
  have hnew {c : Prop} [Decidable c] {g : Clk → Clk} : StaysRetired s (if c then t.modClk g else t) := .ite h.modClk h
  exact .ite hnew.stepTime.modClk (.ite hnew.modClk.modClk hnew.modClk)

theorem timeFrom {code : Nat} {off : Int} {frac : Nat} {anew : Bool} : StaysRetired s (t.timeFrom code off frac anew) :=
  .ite h (.ite h.modClk.measureTime h.modClk)

theorem timeNest {port : Nat} {off : Int} : StaysRetired s (t.timeNest port off) := h.timeFrom

theorem ppsSet {off : Int} {frac : Nat} : StaysRetired s (t.ppsSet off frac) := by
  unfold State.ppsSet
  split
  next => exact h.modClk.timeFrom
  next => exact h

theorem clockOutputs : StaysRetired s t.clockOutputs := h

/-! ### Fen ledger (chapter 07) -/

theorem ledgerTake : StaysRetired s t.ledgerTake := h.forAll fun _ _ h => (h.when fun _ h => h.rcSet).updArm

theorem bookCell {m : Nat} {pcs : List (Nat × Nat × Int)} {c : Nat} : StaysRetired s (t.bookCell m pcs c) :=
  h.updCell.when fun _ h => h.rcSet

theorem bookFrame : StaysRetired s t.bookFrame := .ite h (h.forAll fun _ _ h => (h.forAll fun _ _ h => h.bookCell).updArm)
theorem driftCompute : StaysRetired s t.driftCompute := h.mapCells.forAll fun _ _ h => h.updArm.forAll fun _ _ h => h.audit
theorem poolReentry : StaysRetired s t.poolReentry := h

/-! ### Crihel (chapter 06) -/

theorem takeStatus {c f : Nat} {sl : Slot} : StaysRetired s (t.takeStatus c f sl) :=
  ((h.updCell.when fun _ h => h.rcSet).when fun _ h => h.updPort).when fun _ h => h.rcSet

theorem latchStatuses : StaysRetired s t.latchStatuses := by
  unfold State.latchStatuses
  refine h.modLink.forAll fun v c h => ?_
  dsimp only
  split
  · exact h.takeStatus
  · exact h.updCell

theorem portLatch : StaysRetired s t.portLatch := h.forAll fun _ _ h => h.updPort
theorem sendPort {p : Nat} : StaysRetired s (t.sendPort p) := h
theorem sendDownlink : StaysRetired s t.sendDownlink := .ite (h.modLink.forAll fun _ _ h => h.sendPort) h.modLink
theorem cutFrames {p k : Nat} : StaysRetired s (t.cutFrames p k) := h
theorem sendBlockAll {k p : Nat} : StaysRetired s (State.sendBlockAll k t p) := .ite h.cutFrames.updPort.rcSet h
theorem startRelease {p : Nat} : StaysRetired s (t.startRelease p) := h
theorem releaseAll : StaysRetired s t.releaseAll := h.forAll fun _ _ h => h.startRelease
theorem creditsReconcile : StaysRetired s t.creditsReconcile := h.forAll fun _ _ h => .ite h h.updPort.rcSet
theorem startRelink : StaysRetired s t.startRelink := h.forAll fun _ _ h => h.updPort
theorem tSend {b : TBody} : StaysRetired s (t.tSend b) := .ite h.modTwin h
theorem setTrav {p k : Nat} : StaysRetired s (t.setTrav p k) := h.updPort.forAll fun _ _ h => .ite h (h.updCell.when fun _ h => h.updPort)

theorem rangingCheck {loops : List (Nat × Nat)} : StaysRetired s (t.rangingCheck loops) :=
  h.forAll fun _ _ h => .ite (.ite (.ite h.setTrav.tSend h) ((h.forAll fun _ _ h => h.updPort).when fun _ h => h.rcSet)) h

theorem crihelFrame {p : Nat} {bytes : List Byte} : StaysRetired s (t.crihelFrame p bytes) := by
  refine .ite h (.ite h.updPort.updPort (modLink ?_))
  exact (((h.updPort.updPort.when fun _ h => h.rcSet).when fun _ h => h.modTwin).when fun _ h => h.tSend).when fun _ h => h.tSend

theorem readBack {p : Nat} {req m : Msg} : StaysRetired s (t.readBack p req m) := by
  unfold State.readBack
  refine .ite h ?_
  split
  · exact .ite h h.updCell
  · exact h

/-! ### Nest links and credits (chapter 07) -/

theorem nestHold : StaysRetired s t.nestHold := by
  unfold State.nestHold
  refine .ite h ?_
  dsimp only
  split
  · exact .ite h.modNest.updArm.updArm h.modNest
  · exact h.modNest

theorem levelIssue : StaysRetired s t.levelIssue := .ite h <| h.forAll fun _ _ h =>
  (((h.when fun _ h => h.pscModulate).when fun _ h => h.rcSet).when fun _ h => h.rcSet).updRef.when fun _ h => h.updArm

theorem armLatches : StaysRetired s t.armLatches := .ite (h.forAll fun _ _ h => h.armLatch) h
theorem selectAll : StaysRetired s t.selectAll := .ite h (h.forAll fun _ _ h => h.selectArm.updArm)
theorem formAll : StaysRetired s t.formAll := .ite h (h.forAll fun _ _ h => h.formArm)

theorem creditCheck : StaysRetired s t.creditCheck := by
  unfold State.creditCheck
  refine .ite h (h.forAll fun v a h => ?_)
  dsimp only
  split
  · refine .ite ?_ h.updRef
    split
    · exact h.updRef.audit.when fun _ h => h.rcSet
    · exact h.updRef.audit
  · exact h

theorem reconcile : StaysRetired s t.reconcile := by
  unfold State.reconcile
  refine .ite h (h.forAll fun v a h => ?_)
  split
  · exact .ite h.audit.updRef h
  · exact h

theorem sendDown : StaysRetired s t.sendDown := by
  unfold State.sendDown
  refine .ite h.modNest (.forAll ?_ fun _ _ h => h.rcSet)
  split
  · exact h.modNest.modNest.updRef
  · exact h.modNest.modNest

theorem sendUp : StaysRetired s t.sendUp := .ite h.modNest h
theorem openBooks : StaysRetired s t.openBooks := h.modNest.modArm
theorem twinDigest {item d : Nat} : StaysRetired s (t.twinDigest item d) := .ite h.tSend h
theorem nestSync {port : Nat} : StaysRetired s (t.nestSync port) := .ite h.updPort h

theorem nestDownTake {port : Nat} {b : List Byte} : StaysRetired s (t.nestDownTake port b).1 := by
  refine .iteP h (.iteP h.nestSync (.iteP h.nestSync.modNest (.iteP h.nestSync.modNest (.iteP h.nestSync ?_))))
  exact h.nestSync.modNest.twinDigest.when fun _ h => h.rcSet

theorem resetAck {i : Nat} {r : UpRep} : StaysRetired s (t.resetAck i r) := by
  unfold State.resetAck
  refine .ite ?_ h
  dsimp only
  split
  · exact .ite (h.updKid.forAll fun _ _ h => h.updRef) h.updKid
  · exact h.updKid

theorem nestUpTake {port : Nat} {b : List Byte} : StaysRetired s (t.nestUpTake port b).1 := by
  unfold State.nestUpTake
  split
  · exact h
  · refine .iteP h (.iteP h.nestSync (.iteP h.nestSync.updKid (.iteP h.nestSync.updKid (.iteP h.nestSync ?_))))
    exact ((h.nestSync.resetAck.updKid.when fun _ h => h.rcSet).when fun _ h => h.rcSet).twinDigest.when fun _ h => h.rcSet

theorem nestDead {ports : List Nat} : StaysRetired s (t.nestDead ports) := h.forAll fun _ _ h => h.updPort

/-! ### Bramble (chapter 08) -/

theorem sampleConds {l : List (Nat × Bool)} : StaysRetired s (t.sampleConds l) := h.forAll fun _ _ h => h.condSample
theorem endTest : StaysRetired s t.endTest := .ite h.modArm.setRaw h
theorem toFaulted {w : Who} : StaysRetired s (t.toFaulted w) := .ite (h.endTest.enter) h
theorem faultCheck : StaysRetired s t.faultCheck := .ite h.toFaulted h
theorem selfFail {src : Nat} : StaysRetired s (t.selfFail src) := .ite h h.tSend.modTwin.toFaulted
theorem excludeProt {g : Nat} : StaysRetired s (t.excludeProt g) := h
theorem blockPorts {g k : Nat} : StaysRetired s (t.blockPorts g k) := h.forAll fun _ _ h => h.sendBlockAll

theorem takeAction {step : Bool} {k g : Nat} {a : Action} {ba : Bool} : StaysRetired s (t.takeAction step k g a ba) := by
  have hnoted : StaysRetired s (((t.audit 0x30 {} k g a.code t.fr).rcSet 164 g 0).modProt (fun p =>
      { p with acted := p.acted.set k true })) := h.audit.rcSet.modProt
  cases a with
  | none => exact h
  | record => exact hnoted
  | block => exact (hnoted.irqSet.modProt.when fun _ h => h.blockPorts).faultCheck
  | bypass => exact hnoted.irqSet.modProt.excludeProt
  | breaker => exact hnoted.irqSet.modProt
  | selfFail => exact .ite hnoted.irqSet.modProt.selfFail (hnoted.irqSet.modProt.modProt.when fun _ h => h.blockPorts).faultCheck

theorem raise {k : Nat} : StaysRetired s (t.raise k) := ((h.modProt.forAll fun _ _ h => h.takeAction).when fun _ h => h.modProt).openReq

theorem convertFast {k : Nat} {smp : Sample} : StaysRetired s (t.convertFast k smp) :=
  h.convert.forAll fun _ _ h => .ite (h.modProt.forAll fun _ _ h => h.sendBlockAll) h.modProt

theorem ocRefresh : StaysRetired s t.ocRefresh := h
theorem startResync : StaysRetired s t.startResync := h

theorem toReady {w : Who} : StaysRetired s (t.toReady w) := by
  unfold State.toReady
  exact (h.openBooks.takeStep.enter).faultCheck

theorem brambleReset {w : Who} : StaysRetired s (t.brambleReset w) := by
  have hrejoin {u : State} {c : Prop} [Decidable c] {g : Twin → Twin} (hu : StaysRetired s u) :
      StaysRetired s (if c then (u.modTwin g).startResync else u) := .ite hu.modTwin.startResync hu
  exact .ite (hrejoin h.audit.modProt.mapCells).toReady
    ((hrejoin h.audit.modProt.mapCells).when fun _ h => h.forAll fun _ _ h => h.startRelease)

end
end StaysRetired

end Sys2Proof.Machine
end


section
/-!
SUPPORT. What leaves the queue and a RETIRED module, continued: recorder, twin operation, field terminals, Peat store, publication and
mailbox (chapters 09, 11, 13, 15 to 17).
-/
namespace Sys2Proof.Machine
open Sys2Proof

namespace StaysRetired
variable {s t : State}

section
variable (h : StaysRetired s t)
include h

/-! ### Recorder (chapter 11) -/

theorem acqTrigger {mets : List (Nat × Nat × Nat)} {f0 origin originF : Nat} : StaysRetired s (t.acqTrigger mets f0 origin originF) := by
  unfold State.acqTrigger
  cases mets with
  | nil => exact h
  | cons m mets =>
    have hrec {g : Acq → Acq} {b : Bool} : StaysRetired s ((t.modAcq g).when b (fun s => s.rcSet 190 0 7)) :=
      h.modAcq.when fun _ h => h.rcSet
    dsimp only
    split
    case h_1 | h_2 => exact .ite hrec.modNest hrec
    · exact h.modAcq
    · exact h.modAcq.rcSet
    · exact h.modAcq.rcSet
    · exact h

theorem reedbed : StaysRetired s t.reedbed := .ite h.modAcq (.ite h h.modAcq.acqTrigger)
theorem reserve : StaysRetired s t.reserve := h
theorem acqArm : StaysRetired s t.acqArm := .ite h.modAcq.reserve h.modAcq

theorem acqDisarm : StaysRetired s t.acqDisarm := by
  unfold State.acqDisarm
  split
  · exact h.modAcq
  · exact h.modAcq

theorem condRestart {i : Nat} : StaysRetired s (t.condRestart i) := h

theorem xtrigTake {link x : Nat} : StaysRetired s (t.xtrigTake link x) := by
  have harm {b c d : Prop} [Decidable b] [Decidable c] [Decidable d] {g : Acq → Acq} :
      StaysRetired s (if b then (if c then (if d then (t.modAcq g).acqArm else (t.modAcq g).acqDisarm) else t.modAcq g) else t) :=
    .ite (.ite (.ite h.modAcq.acqArm h.modAcq.acqDisarm) h.modAcq) h
  exact .ite harm (.ite harm (.ite harm.modNest (harm.modNest.when fun _ h => h.rcSet).acqTrigger))

theorem afterHoldoff : StaysRetired s t.afterHoldoff := .ite h.modAcq h.reserve

/-! ### Twin operation (chapter 09) -/

theorem tTake {b : TBlk} : StaysRetired s (t.tTake b).1 := by
  cases hon : t.twinOn with
  | false => simpa only [State.tTake, hon, Bool.not_false, if_true] using h
  | true => cases hcrc : b.crcOk with
    | false => exact tTake_badCrc hon hcrc ▸ h.modTwin
    | true => cases hmis : misaligned t.fr (extendF t.fr b.fnum) with
      | true => exact tTake_misaligned hon hcrc hmis ▸ h.modTwin
      | false => exact tTake_good hon hcrc hmis ▸ h

theorem leadChange {w : Who} {forced : Bool} {cause : Nat} : StaysRetired s (t.leadChange w forced cause) := h.audit.modTwin

theorem twinFrame : StaysRetired s t.twinFrame := by
  unfold State.twinFrame
  refine .ite h ?_
  dsimp only
  split
  · exact .ite h.modTwin h.modTwin.modTwin.audit.startResync
  · exact h.modTwin.when fun _ h => h.startResync

theorem heartbeatT {f : Nat} : StaysRetired s (t.heartbeatT f) := h

theorem holdGap {n : Nat} : StaysRetired s (t.holdGap n) := by
  unfold State.holdGap
  refine h.mapCells.forAll fun v a h => ?_
  dsimp only
  split
  · exact h.updArm
  · exact h

theorem declareFailed {cause : Nat} : StaysRetired s (t.declareFailed cause) := by
  have hnoted {b : Bool} {g : Twin → Twin} :
      StaysRetired s ((t.modTwin g).when b (fun s => s.audit 0x40 {} 5 t.twin.epoch t.twin.epoch s.fr)) := h.modTwin.when fun _ h => h.audit
  exact .ite (.ite (hnoted.modTwin.leadChange.when fun _ h => h.holdGap) hnoted.modTwin.leadChange.toFaulted) hnoted

theorem vecSamples {v : Vec} : StaysRetired s (t.vecSamples v) := h.forAll fun _ _ h => h.modMeas
theorem vecDeliver {v : Vec} : StaysRetired s (t.vecDeliver v) := h
theorem digestTake : StaysRetired s t.digestTake := .ite h h.modTwin
theorem digestForm : StaysRetired s t.digestForm := .ite h h.modTwin.tSend
theorem resyncControl : StaysRetired s t.resyncControl := .ite h (.ite (.ite h.modTwin (.ite h.modTwin h)) (.ite h.modTwin.tSend h))
theorem planSwap : StaysRetired s t.planSwap := .ite h.modTwin.tSend h

theorem plannedSwap : StaysRetired s t.plannedSwap := by
  unfold State.plannedSwap
  split
  · exact .ite h (.ite h.modTwin.leadChange (.ite h.modTwin.audit.rcSet h.modTwin.audit.rcSet.tSend))
  · exact h

theorem sendException {i : Nat} : StaysRetired s (t.sendException i) := h.tSend
theorem itemCame {i : Nat} : StaysRetired s (t.itemCame i) := .ite h.updPort (.ite h.modNest h.updKid)
theorem itemsClear : StaysRetired s t.itemsClear := h

/-! ### Field terminals and sessions (chapters 13, 16 and 17) -/

theorem fieldLatch : StaysRetired s t.fieldLatch := h

theorem comparePulses : StaysRetired s t.comparePulses := by
  unfold State.comparePulses
  refine h.forAll fun _ _ h => ?_
  split
  · exact .ite h.updTrk h
  · exact h

theorem fieldOutputs : StaysRetired s t.fieldOutputs := h.comparePulses.modFio
theorem outFault {o bit : Nat} {on : Bool} {f : OutS → OutS} : StaysRetired s (t.outFault o bit on f) := h.audit.updOut
theorem crossShort {k j : Nat} : StaysRetired s (t.crossShort k j) := h.forAll fun _ _ h => h.outFault

theorem faultRelease {mask : Nat} : StaysRetired s (t.faultRelease mask) :=
  h.forAll fun _ _ h => (StaysRetired.ite (StaysRetired.ite h.outFault h).outFault (.ite h.outFault h)).updOut

theorem sessionClose {ch why : Nat} : StaysRetired s (t.sessionClose ch why) := by
  unfold State.sessionClose
  split
  · dsimp only
    split
    · exact .ite (h.audit.updChan.modSys rfl) h.audit.updChan
    · exact h.audit.updChan
  · exact h

theorem e1Drop {ch : Nat} : StaysRetired s (t.e1Drop ch) := .ite h.sessionClose.updChan h
theorem e1DropAll : StaysRetired s t.e1DropAll := h.forAll fun _ _ h => h.e1Drop

/-! ### Peat store (chapter 15) -/

theorem peatHealth : StaysRetired s t.peatHealth := (StaysRetired.ite (.ite h h.audit) (StaysRetired.ite h h.audit).audit).modPeat
theorem journalCommit : StaysRetired s t.journalCommit := h
theorem auditPage : StaysRetired s t.auditPage := h

theorem recFree : StaysRetired s t.recFree := by
  unfold State.recFree
  split
  · exact h.modPeat.rcSet
  · exact h

theorem recRoom {size n : Nat} : StaysRetired s (State.recRoom size n t) := by
  induction n generalizing t with
  | zero => exact h
  | succ n ih => exact .ite h (ih h.recFree)

theorem recWrite : StaysRetired s t.recWrite := by
  unfold State.recWrite
  split
  · exact h
  · exact .ite (StaysRetired.ite h h.recRoom).modPeat (StaysRetired.ite h h.recRoom).modPeat.modAcq

theorem recFlush : StaysRetired s t.recFlush := h.foldl fun _ _ h => h.recWrite
theorem peatRefresh {b : Nat} : StaysRetired s (t.peatRefresh b) := .ite h.modPeat.rcSet h
theorem scrubAtWake : StaysRetired s t.scrubAtWake := .ite h.modPeat h
theorem gapRecord {f l why : Nat} : StaysRetired s (t.gapRecord f l why) := ((h.modSys rfl).modSys rfl).audit.rcSet

/-! ### Publication (chapter 14) -/

theorem publishFrame : StaysRetired s t.publishFrame := h.modPub.modProt.rcPublish.rcPublish.rcPublish.rcPublish
theorem publishTrk : StaysRetired s t.publishTrk := h
theorem publishSup : StaysRetired s t.publishSup := h.modPub.rcPublish.rcPublish.rcPublish.rcPublish.rcPublish
theorem publishSys {tests : Bool} : StaysRetired s (t.publishSys tests) := .ite h.modPub h.modPub.rcPublish

theorem diaClear {n e : Nat} : StaysRetired s (t.diaClear n e) :=
  .ite h.modPub.modEng (.ite h.modPub.modEng (.ite h.modPub.modKern (.ite h.modPub.modPub (.ite h.modPub.modMbx h.modPub))))

/-! ### Parameter writes (chapter 13) -/

theorem store {id : Pid} {e : Nat} {v : Raw} : StaysRetired s (t.store id e v) := by
  unfold State.store
  split
  · exact h
  · refine .ite h (.ite h.updCell (.ite h.updCell (.ite h.updCell (.ite ?_ h.setRaw))))
    dsimp only
    split
    · exact h.modPar.modEng
    · exact h.modPar

theorem commit {mask : Nat} : StaysRetired s (t.commit mask) := h.forAll fun _ _ h => h.updCell

theorem hook {w : Write} : StaysRetired s (t.hook w) := by
  refine .ite h.modKern (.ite h.cmpWrite (.ite h.updCell (.ite h (.ite h.commit (.ite h.modArm (.ite h.updPort (.ite h.ocRefresh ?_)))))))
  refine .ite (.ite h.modTwin.startResync h) (.ite (.ite h.planSwap h) (.ite h.modEng (.ite h.modEng (.ite (h.modHdg) ?_))))
  refine .ite (.ite h.acqArm h.acqDisarm) (.ite h.modAcq (.ite h.condRestart (.ite (.ite h.modPeat h) (.ite (.ite h.modFio h) ?_))))
  exact .ite h.faultRelease (.ite (.ite h.modClk h) (.ite h.modClk (.ite h.modClk h)))

theorem applyWrite {w : Write} : StaysRetired s (t.applyWrite w) :=
  .ite (h.when fun _ h => h.modMeas).store.hook.audit.audit (h.when fun _ h => h.modMeas).store.hook.audit

theorem lateRefuse {ch sess cred subj ty : Nat} {why : Reason} : StaysRetired s (t.lateRefuse ch sess cred subj ty why) :=
  .ite h.audit h.audit.updChan.irqSet

theorem matrixActs {old : State} : StaysRetired s (State.matrixActs old t) := h.forAll fun _ _ h => h.takeAction

theorem paramsDue : StaysRetired s t.paramsDue :=
  .ite h (.ite (h.modPar.forAll fun _ _ h => h.applyWrite).matrixActs.faultCheck.openReq (h.modPar.forAll fun _ _ h => h.applyWrite))

theorem applyRestart : StaysRetired s t.applyRestart := h.modPar.forAll fun _ _ h => h.applyWrite
theorem carry {op : Nat} {w : Write} : StaysRetired s (t.carry op w) := .ite h.modTwin h

theorem acceptWrite {w : Write} : StaysRetired s (t.acceptWrite w) := by
  unfold State.acceptWrite
  split
  · exact h.carry.applyWrite
  · exact h.carry.applyWrite
  · exact h.carry.modPar

theorem writeReq {a : Author} {ents : List Ent} : StaysRetired s (t.writeReq a ents).1 := by
  unfold State.writeReq
  refine .iteP h (.iteP h ?_)
  dsimp only
  split
  · exact h
  · have hall : StaysRetired s (Machine.forAll (ents.flatMap (t.writesOf a)) State.acceptWrite t) := h.forAll fun _ _ h => h.acceptWrite
    exact .iteP hall hall

theorem writeLog {a : Author} {ents : List Ent} {st : Nat} {r : Reply} : StaysRetired s (t.writeLog a ents st r) := h.audit

/-! ### Mailbox (chapter 13) -/

theorem deliverResp {ch : Nat} {resp : List Byte} : StaysRetired s (t.deliverResp ch resp) := .ite h.updChan.modMbx h.updChan

theorem finish {ch : Nat} {q : Req} {st : Status} {pay : List Byte} {count : Bool} : StaysRetired s (t.finish ch q st pay count) :=
  h.updChan.modMbx.deliverResp

theorem finishWith {ch : Nat} {q : Req} {r : Reply} : StaysRetired s (t.finishWith ch q r) := h.finish
theorem doorbell {ch : Nat} {v : Word} : StaysRetired s (t.doorbell ch v) := .ite h (.ite h.modMbx h.updChan)

theorem abortReq {ch : Nat} : StaysRetired s (t.abortReq ch) := by
  unfold State.abortReq
  split
  · exact .ite h.finish h
  · exact h

theorem statusClear {ch : Nat} {v : Word} : StaysRetired s (t.statusClear ch v) := .ite h.updChan h
theorem refusedLog {ch : Nat} {q : Req} {r : Reply} : StaysRetired s (t.refusedLog ch q r) := .ite h.audit (.ite h h.audit)

theorem startReq {ch : Nat} {q : Req} : StaysRetired s (t.startReq ch q) := by
  unfold State.startReq
  refine .ite h.finish (.ite h.finish ?_)
  split
  · refine .ite h.refusedLog.finish (.ite h.updChan.updChan.deliverResp (.ite h.updChan.finish ?_))
    split
    · exact h.updChan.refusedLog.finishWith
    · exact h.updChan.updChan
  · split
    · exact h.refusedLog.finishWith
    · exact h.updChan

theorem resume : StaysRetired s t.resume := .ite h h.modMbx

theorem command {ch op : Nat} {f : State → Req → Author → State × Reply} (hf : ∀ q a, StaysRetired s (f t q a).1) :
    StaysRetired s (t.command ch op f) := by
  unfold State.command
  split
  · exact .ite (StaysRetired.iteP h (hf _ _)).finishWith.resume h
  · exact h

omit h in
theorem logged {f : State → Req → Author → State × Reply} {q : Req} {a : Author} (hf : StaysRetired s (f t q a).1) :
    StaysRetired s (State.logged f t q a).1 := hf.audit

theorem carryCmd {op : Nat} {a : Author} {at_ addr : Nat} {ws : List Word} {e : Nat} : StaysRetired s (t.carryCmd op a at_ addr ws e) :=
  .ite h.modTwin h

theorem authenticate {ch : Nat} {q : Req} : StaysRetired s (t.authenticate ch q).1 := by
  unfold State.authenticate
  refine .iteP h (.iteP h ?_)
  split
  · exact .iteP h.updChan.modMbx.updChan.audit h.updChan.audit
  · exact h.updChan.audit

theorem snpCtrl {v : Word} : StaysRetired s (t.snpCtrl v) := h
theorem snpBase {hi : Bool} {v : Word} : StaysRetired s (t.snpBase hi v) := .ite h.modMbx h.modMbx
theorem protoErr : StaysRetired s t.protoErr := h

theorem regWrite {ofs : Nat} {v : Word} : StaysRetired s (t.regWrite ofs v) := by
  unfold State.regWrite
  refine .ite h.protoErr ?_
  split
  · exact h.modMbx
  · exact h.modMbx
  · exact h.modMbx
  · exact h.modMbx
  · exact h.modMbx
  · exact h.snpBase
  · exact h.snpBase
  · exact h.snpCtrl
  · exact h.modMbx
  · exact h.modMbx
  · refine .ite ?_ (.ite h.updChan h)
    split
    · exact h.doorbell
    · exact h.statusClear
    · exact .ite h.abortReq h
    · exact h

/-! ### Snapshot rings (chapter 13) -/

theorem snapWrite {p : SnapPend} : StaysRetired s (t.snapWrite p) := by
  unfold State.snapWrite
  split
  · exact .ite h.modMbx h.modMbx.irqSet
  · exact h

theorem snapBoundary : StaysRetired s t.snapBoundary := .ite h.modMbx.modMbx (.ite h.modMbx.modMbx.modMbx h.modMbx.modMbx.modMbx)

theorem fastWrite {p : FastPend} : StaysRetired s (t.fastWrite p) := by
  unfold State.fastWrite
  split
  · exact .ite h.modMbx h.modMbx.irqSet
  · exact h

theorem fastEntry : StaysRetired s t.fastEntry :=
  .ite h.modMbx (.ite h.modMbx.modMbx.modMbx (.ite h.modMbx.modMbx.modMbx h.modMbx.modMbx.fastWrite))

theorem ringsControl : StaysRetired s t.ringsControl := h.modMbx.fastEntry

theorem ringsArrive : StaysRetired s t.ringsArrive := by
  unfold State.ringsArrive
  dsimp only
  split
  · exact .ite h.modMbx.modMbx.fastWrite h.modMbx
  · exact h.modMbx

/-! ### Commands of the mailbox (chapter 13) -/

theorem readEnts {clear : Bool} {l : List Ent} : StaysRetired s (State.readEnts clear t l).1 := by
  induction l generalizing t with
  | nil => exact h
  | cons e l ih =>
    exact ih (List.foldlRecOn (motive := fun p : State × List (List Byte) => StaysRetired s p.1) _ _ h fun p hp _ _ => .ite (diaClear hp) hp)

theorem readReq {q : Req} {a : Author} : StaysRetired s (t.readReq q a).1 := by
  unfold State.readReq
  split
  · exact h
  · split
    · exact h
    · exact .iteP h (.iteP h (h.readEnts.when fun _ h => h.forAll fun _ _ h => h.audit))

theorem writeLogged {a : Author} {l : List Ent} : StaysRetired s (t.writeLogged a l).1 :=
  .iteP h.writeReq (h.writeReq.writeLog.when fun _ h => h.protoErr)

theorem hostWrite {ch : Nat} {e : Ent} : StaysRetired s (t.hostWrite ch e) := by
  unfold State.hostWrite
  split
  · refine .ite h ?_
    split
    · exact .ite h.writeLogged.finishWith.resume h.writeLogged
    · exact h.writeLogged
  · exact h

theorem bankLog {op : Nat} {a : Author} {old new : Int} {r : Reply} : StaysRetired s (t.bankLog op a old new r) := h.audit

theorem bankWords {a : Author} {bank addr : Nat} {ws : List Word} : StaysRetired s (t.bankWords a bank addr ws).1 :=
  .iteP h.bankLog (.iteP h.bankLog (.iteP h.bankLog h.modEng.carryCmd.bankLog))

theorem bankSwap {a : Author} {crc : Word} {target : Option Nat} : StaysRetired s (t.bankSwap a crc target).1 :=
  .iteP h.bankLog (.iteP h.bankLog (.iteP h.bankLog (.iteP h.bankLog (.iteP h.bankLog h.modEng.carryCmd.bankLog))))

theorem bankCancel {a : Author} : StaysRetired s (t.bankCancel a).1 := by
  unfold State.bankCancel
  split
  · exact .iteP h.bankLog h.modEng.carryCmd.bankLog
  · exact h.bankLog

theorem acceptCmd {op : Nat} {a : Author} : StaysRetired s (t.acceptCmd op a).1 := h.modPar.carryCmd
theorem recDelete {r : Rec} : StaysRetired s (t.recDelete r) := h
theorem guStage {ofs : Nat} {bytes : List Byte} : StaysRetired s (t.guStage ofs bytes) := h
theorem guStart {cells : List Nat} : StaysRetired s (t.guStart cells) := h.forAll fun _ _ h => h.updPort

end
end StaysRetired

end Sys2Proof.Machine
end


section
/-!
SUPPORT. What leaves the queue and a RETIRED module, continued: images, wake, shut-down and power, and the work of the boundaries (chapters
01, 03, 12 and 14).
-/
namespace Sys2Proof.Machine
open Sys2Proof

/-- A RETIRED module takes no image but a CONFIG one (R506). -/
theorem not_retired_of_otherBad {t : State} {a : Author} {kind : Nat} {b : List Byte} (hgood : t.otherBad a kind b = none) : ¬ t.retiredInv := by
  intro hr
  simp [State.otherBad, mute_of_retiredInv hr] at hgood

namespace StaysRetired
variable {s t : State}

section
variable (h : StaysRetired s t)
include h

/-! ### Images (chapter 14) -/

theorem imgLog {op : Nat} {a : Author} {old new : Int} {r : Reply} : StaysRetired s (t.imgLog op a old new r).1 := h.audit

theorem imgBegin {a : Author} {kind len : Nat} : StaysRetired s (t.imgBegin a kind len).1 := by
  refine .iteP h.imgLog (.iteP h.imgLog (.iteP h.imgLog (.iteP h.imgLog (carryCmd ?_).imgLog)))
  exact .ite ((h.modSys rfl).modSys rfl).modPeat (.ite ((h.modSys rfl).modSys rfl).modPeat (h.modSys rfl))

theorem imgBlock {a : Author} {ofs : Nat} {bytes : List Byte} : StaysRetired s (t.imgBlock a ofs bytes).1 := by
  unfold State.imgBlock
  split
  · exact h.imgLog
  · exact .iteP h.imgLog (.iteP h.imgLog (.iteP h.imgLog (h.modSys rfl).carryCmd.imgLog))

theorem storeConfig {b : List Byte} : StaysRetired s (t.storeConfig b) := h

/-- A KEYS image takes effect in a module that is not RETIRED. -/
theorem storeKeys {a : Author} {b : List Byte} (hn : ¬ t.retiredInv) : StaysRetired s (t.storeKeys a b) := by
  have hclosed {l : List Nat} : StaysRetired t (Machine.forAll l (fun s c => s.sessionClose c 3) t) :=
    (refl t).forAll fun _ _ h => h.sessionClose
  unfold State.storeKeys
  refine audit (h.trans ?_)
  exact of_not_retired hclosed.1 hn

theorem imgCommit {a : Author} {sha : List Byte} : StaysRetired s (t.imgCommit a sha).1 := by
  unfold State.imgCommit
  split
  · exact h.imgLog
  · refine .iteP h.imgLog (.iteP h.imgLog (.iteP h.imgLog (.iteP (h.modSys rfl).carryCmd.imgLog (.iteP ?_ ?_))))
    · split
      · exact (h.modSys rfl).carryCmd.storeConfig.journalCommit.imgLog
      · exact (h.modSys rfl).carryCmd.imgLog
    · split
      · exact (h.modSys rfl).carryCmd.imgLog
      next hgood =>
        exact (StaysRetired.ite ((h.modSys rfl).carryCmd.storeKeys (not_retired_of_otherBad hgood))
          (.ite ((h.modSys rfl).carryCmd.modSys rfl) ((h.modSys rfl).carryCmd.modSys rfl).modPeat)).journalCommit.imgLog

theorem selSet {fw slotB : Bool} : StaysRetired s (t.selSet fw slotB) := by
  refine h.modSys ?_
  split <;> rfl

theorem imgSelect {a : Author} {fw slotB activate : Bool} : StaysRetired s (t.imgSelect a fw slotB activate).1 :=
  .iteP h.imgLog (.iteP h.imgLog (.iteP h.imgLog (.iteP h.carryCmd.modPar.imgLog h.carryCmd.selSet.imgLog)))

/-! ### Loading an image and the identity match (chapter 14) -/

theorem setReach : StaysRetired s t.setReach := h
theorem hdgValid : StaysRetired s t.hdgValid := h
theorem trkLoad : StaysRetired s t.trkLoad := (h.forAll fun _ _ h => h.when fun _ h => h.rcSet).modTrk

theorem loadImage {c : Content} {b : List Byte} {keep : Bool} : StaysRetired s (t.loadImage c b keep) := by
  unfold State.loadImage
  refine setReach (ocRefresh (modArm (trkLoad (modKern (modEng (hdgValid ?_))))))
  exact .ite (h.modSys rfl).modPar.modArm ((h.modSys rfl).modPar.modArm.modHdg)

theorem noImage : StaysRetired s t.noImage := (h.modSys rfl).modPar.modArm.modEng.trkLoad

theorem takeIdent {l : List SeenPort} {c : Nat} : StaysRetired s (t.takeIdent l c) := by
  unfold State.takeIdent
  split
  · exact h.updCell
  · exact h.updCell

theorem enumerate {now : List Nat} {l : List SeenPort} {leads : Bool} : StaysRetired s (t.enumerate now l leads) := by
  unfold State.enumerate
  exact ((h.modSys rfl).modLink.forAll fun _ _ h => h.takeIdent).modLink

theorem countIdent : StaysRetired s t.countIdent := h

theorem identity {obs : WakeObs} {again : Bool} : StaysRetired s (t.identity obs again).1 := by
  unfold State.identity
  dsimp only
  exact h.enumerate.countIdent.modTwin

/-! ### Wake, shut-down and power (chapters 12, 14) -/

theorem softRepair : StaysRetired s t.softRepair := h
theorem freshUnits : StaysRetired s t.freshUnits := h
theorem groupsApply : StaysRetired s t.groupsApply := h
theorem record {finds : List Find} {retry : Bool} : StaysRetired s (t.record finds retry) := (h.modSys rfl).when fun _ h => h.audit

theorem toPending {finds : List Find} {retry : Bool} : StaysRetired s (t.toPending finds retry) := by
  have hnoted {g : Link → Link} : StaysRetired s ((t.record finds retry).modLink g) := h.record.modLink
  exact (StaysRetired.ite hnoted hnoted.enter).openReq.publishSys

theorem passReady : StaysRetired s t.passReady := by
  unfold State.passReady
  refine publishSys (toReady ?_)
  exact .ite h.record.applyRestart.modLink.modEng.modTwin.mapCells.acqArm h.record.applyRestart.modLink.modEng.modTwin.mapCells

theorem validate {obs : WakeObs} : StaysRetired s (t.validate obs) := by
  have hid {u v : State} {l : List Find} (hv : StaysRetired s v) (heq : v.identity obs false = (u, l)) : StaysRetired s u := by
    simpa only [heq] using hv.identity (obs := obs) (again := false)
  unfold State.validate
  dsimp only
  split
  · split
    · split
      next heq => exact (hid (h.modSys rfl).loadImage.groupsApply.pwmRestart heq).passReady
      next heq => exact (hid (h.modSys rfl).loadImage.groupsApply.pwmRestart heq).toPending
    · refine toPending ?_
      exact .ite (h.modSys rfl).loadImage.groupsApply.pwmRestart (.ite (h.modSys rfl).noImage (h.modSys rfl).loadImage.groupsApply)
  · exact (h.modSys rfl).noImage.toPending

theorem wakeSeq {obs : WakeObs} : StaysRetired s (t.wakeSeq obs) := (h.modClk.modSys rfl).freshUnits.softRepair.scrubAtWake.validate.modClk
theorem wakeUp {obs : WakeObs} : StaysRetired s (t.wakeUp obs) := .ite (.ite (h.modSys rfl) h.wakeSeq) (.ite (h.modSys rfl) h)

theorem lifeApply : StaysRetired s t.lifeApply := by
  unfold State.lifeApply
  dsimp only
  split
  next hlife => exact ((h.modSys rfl).changeOther (by simp [hlife])).audit
  next hlife => exact ((h.modSys rfl).changeOther (by simp [hlife])).modPeat.audit
  next hlife => exact ((h.modSys rfl).changeOther (by simp [hlife])).modPeat.audit
  next => exact h.modSys rfl

theorem toStandby : StaysRetired s t.toStandby := 
  (h.endTest.modClk.modLink.modNest.modTwin.mapCells.modSys rfl).enter.lifeApply.openReq.publishSys
theorem sliceSkip : StaysRetired s t.sliceSkip := h
theorem shutEnd : StaysRetired s t.shutEnd := h.journalCommit.toStandby

theorem sliceStart : StaysRetired s t.sliceStart := by
  unfold State.sliceStart
  split
  · exact .ite (h.modSys rfl) h.sliceSkip.shutEnd
  · exact h.shutEnd

theorem shutFrame : StaysRetired s t.shutFrame :=
  .ite h (.ite (h.modSys rfl) (.ite (h.modLink.modSys rfl).shutEnd ((h.modLink.modSys rfl).modSys rfl).sliceStart))

theorem shutStart : StaysRetired s t.shutStart := h.recFlush.endTest.modSys rfl
theorem sleepReq : StaysRetired s t.sleepReq.1 := .iteP h (.iteP h h)

theorem sliceClear {k : Nat} : StaysRetired s (t.sliceClear k) := by
  unfold State.sliceClear
  split
  · exact h.modEng
  · exact h.modEng
  · exact h.pwmRestart
  · exact h

theorem sliceDone {r : SliceRes} : StaysRetired s (t.sliceDone r) := (h.modSys rfl).modPeat.audit.sliceClear.sliceStart

theorem activate {fw slotB : Bool} : StaysRetired s (t.activate fw slotB) :=
  .ite (h.selSet.modSys rfl) (.ite (h.selSet.shutStart.modSys rfl) h.selSet)

theorem flushAudit : StaysRetired s t.flushAudit := h.foldl fun _ _ h => .ite h h.auditPage
theorem loseRecords : StaysRetired s t.loseRecords := h

theorem failOutputs : StaysRetired s t.failOutputs := by
  unfold State.failOutputs
  exact modHdg (.ite h.selfFail.modLink.modNest (h.forAll fun _ _ h => h.sendBlockAll).sendDown)

theorem powerDown : StaysRetired s t.powerDown := h.trans (of_sealed rfl rfl)

theorem booted {slot : Nat} {strapped vbatOk : Bool} {secs : Nat} : StaysRetired s (t.booted slot strapped vbatOk secs) :=
  h.trans (of_sealed rfl rfl)

theorem bootParams : StaysRetired s t.bootParams := by
  unfold State.bootParams
  dsimp only
  split
  · exact .ite h.modPar.hdgValid h
  · exact h

/-! ### Boundaries (chapters 01 and 03) -/

theorem lateWrite {w : Write} : StaysRetired s (t.lateWrite w) := by
  refine .ite (.ite h.applyWrite (.ite h.lateRefuse h.applyWrite.brambleReset)) (.ite h.applyWrite.modArm ?_)
  exact .ite h.lateRefuse (.ite h.applyWrite h.applyWrite.modArm.releaseAll)

theorem cmdDo {c : Nat × SRole × Nat × Nat} : StaysRetired s (t.cmdDo c) := by
  refine .ite ?_ (.ite (.ite h.toReady h.lateRefuse) (.ite h.lateRefuse h.activate))
  split
  · exact h.lateRefuse
  · exact (h.enter).releaseAll

theorem hostDue : StaysRetired s t.hostDue := (h.modPar.forAll fun _ _ h => h.lateWrite).forAll fun _ _ h => .ite h.lateRefuse h.cmdDo
theorem supMain : StaysRetired s t.supMain := (h.when fun _ h => h.driftCompute).sampleConds.plannedSwap.hostDue.startRelink
theorem tick : StaysRetired s t.tick := h

theorem publications {spans : List Nat} : StaysRetired s (t.publications spans) := by
  unfold State.publications
  refine when (when (publishDue (when ?_ fun _ h => h.kernPublish)) fun _ h => h.publishDue.modEng) fun _ h => h.refTake
  exact h.modEng.publishDue.publishDue

theorem frameTake : StaysRetired s t.frameTake := by
  unfold State.frameTake
  have htaken := h.latchStatuses.portLatch.nestHold
  exact htaken.when fun _ h => h.creditCheck.levelIssue

theorem frameLatch {v : Option Vec} : StaysRetired s (t.frameLatch v) := by
  unfold State.frameLatch
  refine .bookFrame (.refreshCount (.sampleConds (.publishTrk (.forAll ?_ fun _ _ h => h.trkFrame))))
  split
  · exact h.vecSamples.ledgerTake.vecDeliver.modMeas
  · exact h.ledgerTake.deliver.fieldLatch

theorem ownLatch {arms : List (List (Nat × Bool × Int))} : StaysRetired s (t.ownLatch arms) := h
theorem frameUp : StaysRetired s t.frameUp := (h.sendUp.when fun _ h => h.rcSet).modNest.digestTake
theorem frameSend : StaysRetired s t.frameSend := (h.formAll.sendDownlink.when fun _ h => h.creditCheck).sendDown

theorem frameOut : StaysRetired s t.frameOut := by
  unfold State.frameOut
  refine when (reedbed (selectAll (when ?_ fun _ h => h.levelIssue))) fun _ h => h.startRun
  exact h.armLatches

theorem twinSend {arms : List (List (Nat × Bool × Int))} : StaysRetired s (t.twinSend arms) :=
  .ite h.itemsClear (.ite h.tSend.itemsClear (h.when fun _ h => h.forAll fun _ _ h => h.sendException).modTwin.tSend.tSend.itemsClear)

theorem controlWork : StaysRetired s t.controlWork :=
  (StaysRetired.ite h.bankExchange.kernStart.startRun h.bankExchange).sampleConds.digestForm.resyncControl.ringsControl

theorem supWork : StaysRetired s t.supWork := (h.when fun _ h => h.startRun).supMain

theorem latchLate {apply : State → HostAct → State} {v : Option Vec} (ha : ∀ u x, StaysRetired s u → StaysRetired s (apply u x)) :
    StaysRetired s (t.latchLate apply v) := by
  have hacts {l : List HostAct} {b : Bool} {g : Twin → Twin} :
      StaysRetired s (Machine.forAll l apply ((t.modTwin g).when b (fun s => s.rcSet 170 0 8))) :=
    (h.modTwin.when fun _ h => h.rcSet).forAll ha
  exact .ite h ((hacts.paramsDue.frameLatch.frameUp.frameOut.when fun _ h => h.controlWork).when fun _ h => h.supWork)

theorem takeSensors {x : Sensors} : StaysRetired s (t.takeSensors x) := h
theorem supPublish : StaysRetired s t.supPublish := h.clockOutputs.peatHealth.publishSup.snapBoundary
theorem supCounts : StaysRetired s t.supCounts := h

theorem frameWork {obs : EngObs} : StaysRetired s (t.frameWork obs) := by
  have hlatched {u : State} {arms : List (List (Nat × Bool × Int))} {c : Prop} [Decidable c] (hu : StaysRetired s u) :
      StaysRetired s (if c then u.ownLatch arms else u.frameLatch none) := .ite hu.ownLatch hu.frameLatch
  have hsent {u v : State} {arms : List (List (Nat × Bool × Int))} (hu : StaysRetired s u) :
      StaysRetired s ((((u.asSent v).frameSend).afterSent u).twinSend arms) := (hu.sent (refl _).frameSend).twinSend
  have hout {u v : State} {c : Prop} [Decidable c] (hu : StaysRetired s u) :
      StaysRetired s (if c then u else (((u.asSent v).frameUp).afterSent u).frameOut) := .ite hu (hu.sent (refl _).frameUp).frameOut
  unfold State.frameWork
  refine publishFrame (fieldOutputs (hout (hsent (hlatched (frameTake (when ?_ fun _ h => h.publications.ringsArrive))))))
  exact h.modEng

theorem sampleStarts : StaysRetired s t.sampleStarts := h

/-! ### The pair's blocks (chapter 09) -/

theorem applyAct {x : HostAct} : StaysRetired s (t.applyAct x) := by
  unfold State.applyAct
  split
  · exact h.acceptWrite
  · exact h.bankWords
  · exact h.modEng.bankLog
  · exact h.modEng.bankLog
  · exact h.modPar.audit
  · exact h.modPar.audit
  · exact h.audit.shutStart
  · exact h.imgBegin
  · exact h.imgBlock
  · exact h.imgCommit
  · exact .ite h.modPar.audit h.imgSelect
  · exact h.modMbx.audit
  · exact h.modMbx.audit
  · refine .audit ?_
    split
    · exact h.recDelete
    · exact h
  · exact h.guStage.audit
  · exact h.audit
  · exact h

theorem latchNowWith {v : Option Vec} : StaysRetired s (t.latchNowWith v) := by
  have hlate : StaysRetired s (t.latchLate State.applyAct v) := h.latchLate fun _ _ h => h.applyAct
  exact .ite hlate hlate.modTwin

theorem exceptSlot {c f : Nat} {sl : Slot} : StaysRetired s (t.exceptSlot c f sl) := .ite h.updCell (.ite h.takeStatus.updCell h.takeStatus)

theorem exceptNest {port : Nat} {bytes : List Byte} : StaysRetired s (t.exceptNest port bytes) :=
  .ite (.ite h.modNest.updArm.updArm h.modNest) h.updKid

theorem replayAct {x : HostAct} : StaysRetired s (t.replayAct x) := by
  unfold State.replayAct
  split
  · exact h.modEng
  · exact h.modEng
  · exact h.modEng
  · exact h

theorem loadImg {g : StateImg} : StaysRetired s (t.loadImg g) := h

theorem replayFrame {first : Nat} {x : Nat × Vec} : StaysRetired s (State.replayFrame first t x) := by
  have hacts {g : Clk → Clk} : StaysRetired s (Machine.forAll x.2.acts State.replayAct (t.modClk g)) :=
    h.modClk.forAll fun _ _ h => h.replayAct
  have hlatch {u : State} {b c : Bool} (hu : StaysRetired s u) :
      StaysRetired s (((u.when b State.levelIssue).frameLatch (some x.2)).formAll.armLatches.when c State.levelIssue) :=
    (hu.when fun _ h => h.levelIssue).frameLatch.formAll.armLatches.when fun _ h => h.levelIssue
  unfold State.replayFrame
  refine when (when (hlatch (hacts.when fun _ h => h.publications)).selectAll.startRun ?_) ?_
  · exact fun _ h => h.bankExchange.kernStart.startRun.sampleConds
  · exact fun _ h => (h.startRun.when fun _ h => h.driftCompute).sampleConds.poolReentry

theorem replay {first : Nat} : StaysRetired s (t.replay first) := (h.forAll fun _ _ h => h.replayFrame).modClk

end
end StaysRetired

end Sys2Proof.Machine
end


section
/-!
SUPPORT. Each command leaves the rest of the queue, and a RETIRED module as one.
-/
namespace Sys2Proof.Machine
open Sys2Proof

/-- The command goes on to a state, by work that leaves the queue and keeps a RETIRED module one. -/
def NextRetired (s : State) (o : Host.Outcome State Fault Refusal) : Prop := ∃ t, o = .next t ∧ StaysRetired s t

namespace NextRetired
open StaysRetired
variable {s t : State}

theorem next (h : StaysRetired s t) : NextRetired s (.next t) := ⟨t, rfl, h⟩

section
variable (h : StaysRetired s t)
include h

/-! ### Kernel, arms and cells (chapters 04, 05) -/

theorem syncCompareArmed : NextRetired s (execSyncCompareArmed t) := next h.syncArm
theorem syncAbort : NextRetired s (execSyncAbort t) := next (.ite h.kernForce h)
theorem syncFail : NextRetired s (execSyncFail t) := next h.syncFailed
theorem limitedReturn : NextRetired s (execLimitedReturn t) := next (.ite h.kernForce h)
theorem refreshDue {c : Nat} : NextRetired s (execRefreshDue c t) := next (.ite h.updCell h)
theorem refreshOverdue {c : Nat} : NextRetired s (execRefreshOverdue c t) := next (.ite h.updCell.rcSet h)

theorem gateSupplyLow {c : Nat} : NextRetired s (execGateSupplyLow c t) := by
  unfold execGateSupplyLow
  refine next ?_
  split
  · exact .ite h.updCell h
  · exact h

theorem statusStale {c : Nat} : NextRetired s (execStatusStale c t) := next (.ite h.updCell h)

/-! ### Clocks and station time (chapter 12) -/

theorem ptpMessage {m : PtpMsg} : NextRetired s (execPtpMessage m t) := by
  have hmine {b : Bool} {f g : Clk → Clk} : StaysRetired s ((t.modClk f).when b (fun s => s.modClk g)) := h.modClk.when fun _ h => h.modClk
  refine next (.ite h ?_)
  dsimp only
  split
  · exact .ite hmine.timeFrom.modClk hmine.timeFrom
  · exact hmine.timeFrom

theorem irigbFrame {m : IrigCode} {withPps : Bool} : NextRetired s (execIrigbFrame m withPps t) :=
  next (.ite h (StaysRetired.ite h.modClk h.timeFrom).modClk)

theorem ppsInEdge {m : TimeMeas} : NextRetired s (execPpsInEdge m t) := next (.ite h (.ite h.ppsSet.measureTime h.ppsSet))

theorem timeSourceLost {src : Nat} : NextRetired s (execTimeSourceLost src t) :=
  next (.ite (.ite h.modClk (.ite h.modClk.modClk (.ite h.modClk.modClk h.modClk.modClk))) h)

theorem timeLocked : NextRetired s (execTimeLocked t) := next (.ite h.modClk h)
theorem holdoverExpired : NextRetired s (execHoldoverExpired t) := next (.ite h.modClk.rcSet h)
theorem leapSecond : NextRetired s (execLeapSecond t) := next (.ite h.audit.modClk h)
theorem ppsOut {rise : Bool} : NextRetired s (execPpsOut rise t) := next (.ite h (.ite (.ite h.modClk h) (.ite h.modClk h)))
theorem pllLock {p : Pll} : NextRetired s (execPllLock p t) := next (.ite h.modClk h)
theorem pllRelock {p : Pll} : NextRetired s (execPllRelock p t) := next (.ite h.modClk h)
theorem refFallback {count : Nat} : NextRetired s (execRefFallback count t) := next (.ite h.modClk h)
theorem refinLost : NextRetired s (execRefinLost t) := next (.ite h.modClk.rcSet h)
theorem refinResume : NextRetired s (execRefinResume t) := next (.ite h.modClk h)

/-! ### Ledger, Crihel and nest links (chapters 06, 07) -/

theorem driftWindowEnd : NextRetired s (execDriftWindowEnd t) := next (.ite h.mapCells.modNest h)
theorem crihelReturnFrame {p : Nat} {bytes : List Byte} : NextRetired s (execCrihelReturnFrame p bytes t) := next h.crihelFrame
theorem returnFrameMissing {p : Nat} : NextRetired s (execReturnFrameMissing p t) := next (.ite h.updPort h)
theorem linkLoss {p : Nat} : NextRetired s (execLinkLoss p t) := next (.ite h.updPort h)

theorem messageReply {p : Nat} {m : Msg} : NextRetired s (execMessageReply p m t) := by
  unfold execMessageReply
  refine next ?_
  split
  · exact h.updPort.readBack
  · exact h

theorem msgTimeout {p seq : Nat} : NextRetired s (execMsgTimeout p seq t) := next (.ite h.updPort.rcSet h)

theorem nestLoss {link : Nat} : NextRetired s (execNestLoss link t) :=
  next (.ite (.ite h.modNest.nestDead h) (.ite h.updKid.nestDead h))

/-! ### Bramble (chapter 08) -/

theorem sourceRaised {k : Nat} : NextRetired s (execSourceRaised k t) := next (.ite h.raise h)
theorem sourceCleared {k : Nat} : NextRetired s (execSourceCleared k t) := next (.ite h.modProt h)

theorem analogConversionComplete {k : Nat} {smp : Sample} : NextRetired s (execAnalogConversionComplete k smp t) :=
  next (.ite h.convertFast h)

/-! ### Recorder and frames of nest links (chapters 07, 11) -/

theorem nestDown {port : Nat} {bytes : List Byte} {off : Int} : NextRetired s (execNestDown port bytes off t) := by
  refine next (.ite ?_ h.nestDownTake)
  dsimp only
  split
  · exact h.nestDownTake.timeNest.xtrigTake
  · exact h.nestDownTake.timeNest

theorem nestUp {port : Nat} {bytes : List Byte} : NextRetired s (execNestUp port bytes t) := by
  unfold execNestUp
  refine next ?_
  dsimp only
  split
  · split
    · exact h.nestUpTake.xtrigTake
    · exact h.nestUpTake
  · exact h.nestUpTake

theorem preTriggerFilled : NextRetired s (execPreTriggerFilled t) := next (.ite h.modAcq h)

theorem recordComplete : NextRetired s (execRecordComplete t) := by
  unfold execRecordComplete
  refine next ?_
  split
  · exact .ite (.ite h.modAcq.rcSet.afterHoldoff h.modAcq.rcSet) h
  · exact h

theorem holdoffEnd : NextRetired s (execHoldoffEnd t) := next (.ite h.afterHoldoff h)
theorem memoryReserved : NextRetired s (execMemoryReserved t) := next (.ite h.reserve h)

/-! ### Twin operation (chapter 09) -/

theorem pairFormation {partner : Option PairInfo} : NextRetired s (execPairFormation partner t) := by
  unfold execPairFormation
  refine next (.ite h ?_)
  split
  · exact .ite h (.ite h.modTwin.modTwin.startResync h.modTwin.modTwin.audit.modTwin)
  · exact .ite h.modTwin.audit.modTwin h

theorem heartbeatPathLost {chain : Bool} : NextRetired s (execHeartbeatPathLost chain t) :=
  next (.ite h (.ite h.modTwin (.ite h.modTwin h)))

theorem outDigest {b : TBlk} {dig : Nat} : NextRetired s (execOutDigest b dig t) := by
  unfold execOutDigest
  refine next ?_
  dsimp only
  split
  · refine .ite h.tTake (.ite h.tTake.modTwin (.ite h.tTake ?_))
    exact .ite h.tTake.modTwin.rcSet.audit.startResync h.tTake.modTwin.rcSet.audit.modTwin
  · exact h.tTake

theorem resyncGiveup : NextRetired s (execResyncGiveup t) := next (.ite h.audit.modTwin h)
theorem resyncComplete {dig : Nat} : NextRetired s (execResyncComplete dig t) := next (.ite h.audit.modTwin h)
theorem swapPeriodElapsed : NextRetired s (execSwapPeriodElapsed t) := next (.ite h.planSwap h)

theorem swap {b : TBlk} {atF : Nat} : NextRetired s (execSwap b atF t) := by
  unfold execSwap
  refine next ?_
  dsimp only
  split
  · exact .ite h.tTake.modTwin.tSend (.ite h.tTake.modTwin h.tTake)
  · exact h.tTake

theorem vector {b : TBlk} {v : Vec} : NextRetired s (execVector b v t) := by
  unfold execVector
  refine next ?_
  dsimp only
  split
  · exact .ite h.tTake.modTwin h.tTake
  · exact h.tTake

theorem digests {b : TBlk} {ports : List (Nat × Nat)} : NextRetired s (execDigests b ports t) := by
  unfold execDigests
  refine next ?_
  dsimp only
  split
  · exact .ite h.tTake (h.tTake.forAll fun _ _ h => (h.when fun _ h => h.sendException).itemCame)
  · exact h.tTake

theorem hb {b : TBlk} {lepoch : Nat} {ready own : Bool} : NextRetired s (execHb b lepoch ready own t) := by
  unfold execHb
  refine next ?_
  dsimp only
  split
  · exact .ite h.tTake.heartbeatT.modTwin h.tTake.heartbeatT.modTwin.modTwin
  · exact h.tTake

theorem relay {b : TBlk} {port : Nat} {ttrav : Option Nat} {slots : List (Nat × Slot)} :
    NextRetired s (execRelay b port ttrav slots t) := by
  unfold execRelay
  refine next ?_
  dsimp only
  split
  · refine .ite ?_ (modLink (updPort ?_))
    all_goals
      split
      · exact .ite h.tTake.setTrav h.tTake
      · exact h.tTake
  · exact h.tTake

/-! ### Field terminals and housing (chapters 16, 17) -/

theorem fieldFrame {f : FieldObs} : NextRetired s (execFieldFrame f t) := next (.ite h (.ite h.rcSet h.modFio))

theorem inputLevelChange {i : Nat} {high : Bool} : NextRetired s (execInputLevelChange i high t) :=
  next (.ite (h.modFio.when fun _ h => h.modKern) h)

theorem wireBreak {i : Nat} : NextRetired s (execWireBreak i t) := next (.ite h.modFio h)
theorem wireBreakCleared {i : Nat} : NextRetired s (execWireBreakCleared i t) := next (.ite h.modFio h)

theorem compareOutputPulseEnd {k : Nat} : NextRetired s (execCompareOutputPulseEnd k t) := by
  unfold execCompareOutputPulseEnd
  refine next ?_
  split
  · refine .ite ?_ h
    dsimp only
    split
    · exact h.updTrk.updOut
    · exact h.updTrk
  · exact h

theorem thermalShutdown {o : Nat} : NextRetired s (execThermalShutdown o t) := next (.ite (.ite h.updOut.outFault h.updOut) h)
theorem outputThermalRestart {o : Nat} : NextRetired s (execOutputThermalRestart o t) := next (.ite h.updOut h)

theorem outputFault {o : Nat} {f : OutFault} {present : Bool} : NextRetired s (execOutputFault o f present t) := by
  unfold execOutputFault
  refine next (.ite h ?_)
  split
  · exact .ite h.outFault (.ite h.outFault h)
  · exact .ite h.outFault (.ite h.outFault h)
  · exact h
  · exact h

theorem fieldTestPulse {o : Nat} {obs : PulseObs} : NextRetired s (execFieldTestPulse o obs t) := by
  unfold execFieldTestPulse
  have hcounted {f : Fio → Fio} {g : OutS → OutS} : StaysRetired s ((t.modFio f).updOut o g) := h.modFio.updOut
  refine next (.ite h (.ite hcounted (.ite hcounted.updOut.rcSet (.ite (hcounted.forAll fun _ _ h => h.crossShort) ?_))))
  split
  · exact hcounted.crossShort
  · exact .ite hcounted hcounted.outFault

theorem logicSilence : NextRetired s (execLogicSilence t) := next (.ite h.modFio.rcSet.modFio h)
theorem fieldFramesReturn : NextRetired s (execFieldFramesReturn t) := next (.ite h.audit.modFio h)
theorem lplusMonitor : NextRetired s (execLplusMonitor t) := next (.ite h.modFio h)

theorem sfpInsertRemove {e2 present fault : Bool} : NextRetired s (execSfpInsertRemove e2 present fault t) :=
  next (.ite h (.ite (h.modHw.when fun _ h => h.rcSet).e1DropAll (h.modHw.when fun _ h => h.rcSet)))

theorem temperatureThreshold {k : F32} : NextRetired s (execTemperatureThreshold k t) :=
  next (.ite h (h.modHw.when fun _ h => h.rcSet))

/-! ### Peat store (chapter 15) -/

theorem journalCommit : NextRetired s (execJournalCommit t) := next (.ite h.journalCommit h)
theorem auditPageWrite : NextRetired s (execAuditPageWrite t) := next (.ite h.auditPage h)
theorem recordWritten : NextRetired s (execRecordWritten t) := next (.ite h.recWrite h)

theorem scrubRead {pg : PageObs} : NextRetired s (execScrubRead pg t) := by
  have hread {c : Prop} [Decidable c] {f g : Store → Store} {n : Nat} :
      StaysRetired s ((if c then (t.modPeat f).peatRefresh n else t.modPeat f).modPeat g) :=
    (StaysRetired.ite h.modPeat.peatRefresh h.modPeat).modPeat
  exact next (.ite h (.ite hread.modPeat hread.modPeat))

theorem programEraseFailure {block : Nat} {isErase : Bool} : NextRetired s (execProgramEraseFailure block isErase t) :=
  next (.ite h h.modPeat.peatHealth)

theorem uncorrectable {part : Nat} {bothCopies : Bool} {item last : Nat} : NextRetired s (execUncorrectable part bothCopies item last t) := by
  unfold execUncorrectable
  refine next (.ite h (.ite h.modPeat.rcSet ?_))
  split
  · exact h.audit.rcSet.modSys rfl
  · exact h.audit.rcSet.modSys rfl
  · exact h.audit.rcSet.audit.modPeat
  · exact (h.audit.rcSet.modSys rfl).modPeat
  · exact h.audit.rcSet.gapRecord
  · exact h.audit.rcSet.modSys rfl
  · exact h.audit.rcSet.modSys rfl
  · exact h.audit.rcSet.audit.rcSet
  · exact h.audit.rcSet.modPeat.rcSet

/-! ### Inputs and groups (chapters 02, 03) -/

theorem sigmaDeltaOutput {k : Nat} {bits : List Bool} {age : Nat} : NextRetired s (execSigmaDeltaOutput k bits age t) :=
  next (.ite h.modMeas h)

theorem sdFault {k : Nat} : NextRetired s (execSdFault k t) := next (.ite h.modMeas h)
theorem sdValidityReturn {k : Nat} : NextRetired s (execSdValidityReturn k t) := next (.ite h.modMeas h)
theorem sampledValueMessage {m : SvMessage} : NextRetired s (execSampledValueMessage m t) := next (.ite h.modMeas h)
theorem crossingTimeout {k : Nat} : NextRetired s (execCrossingTimeout k t) := next (.ite h.trkTimeout h)

theorem groupOverrun {g : Grp} : NextRetired s (execGroupOverrun g t) := by
  unfold execGroupOverrun
  refine next ?_
  split
  · exact .ite h.overrun.measureSpan h
  · exact h

theorem loopOverrunRaised {g : Grp} : NextRetired s (execLoopOverrunRaised g t) := next (.ite h.modEng h)
theorem backgroundRunStart : NextRetired s (execBackgroundRunStart t) := next (.ite h.modEng.startRun h)
theorem backgroundRunEnd : NextRetired s (execBackgroundRunEnd t) := next (.ite h.modEng h)

theorem backgroundWatchdog : NextRetired s (execBackgroundWatchdog t) := by
  unfold execBackgroundWatchdog
  refine next ?_
  split
  · exact .ite h.modEng.rcSet h
  · exact h

theorem engineSramUncorrectable {g : Grp} : NextRetired s (execEngineSramUncorrectable g t) := by
  unfold execEngineSramUncorrectable
  refine next ?_
  split
  · exact h.modEng
  · exact h

theorem snapshotDmaError : NextRetired s (execSnapshotDmaError t) := next (.ite h.modMbx.irqSet h)

/-! ### Mailbox and sessions (chapter 13) -/

theorem mbDoorbell {ch : Nat} {v : Word} : NextRetired s (execMbDoorbell ch v t) := next h.doorbell
theorem abort {ch : Nat} : NextRetired s (execAbort ch t) := next h.abortReq
theorem doneClear {ch : Nat} : NextRetired s (execDoneClear ch t) := next h.statusClear
theorem e1ConnectionOpen {ch : Nat} : NextRetired s (execE1ConnectionOpen ch t) := next (.ite h.updChan h)
theorem e1ConnectionClose {ch : Nat} : NextRetired s (execE1ConnectionClose ch t) := next h.e1Drop
theorem e1Request {ch : Nat} {bytes : List Byte} : NextRetired s (execE1Request ch bytes t) := next (.ite h.updChan h)

theorem requestStart : NextRetired s (execRequestStart t) := by
  unfold execRequestStart
  refine next (.ite h ?_)
  split
  · split
    · exact h.modMbx.startReq
    · exact h
  · exact h

theorem openSession {ch : Nat} : NextRetired s (execOpenSession ch t) :=
  next (h.command fun _ _ => .iteP h (.iteP h h.updChan.modMbx))

theorem authSession {ch : Nat} : NextRetired s (execAuthSession ch t) := next (h.command fun _ _ => h.authenticate)

theorem closeSession {ch : Nat} : NextRetired s (execCloseSession ch t) := by
  have hanswer {r : Reply} : StaysRetired s (t.command ch 0x04 (fun s _ _ => (s, r))) := h.command fun _ _ => h
  unfold execCloseSession
  refine next ?_
  split
  · exact .ite hanswer (.ite hanswer.sessionClose hanswer)
  · exact h

theorem sessionIdleTimeout {ch : Nat} : NextRetired s (execSessionIdleTimeout ch t) := by
  unfold execSessionIdleTimeout
  refine next ?_
  split
  · exact .ite h.sessionClose h
  · exact h

theorem authLockoutEnd {ch : Nat} : NextRetired s (execAuthLockoutEnd ch t) := by
  unfold execAuthLockoutEnd
  refine next ?_
  split
  · exact .ite h.updChan h
  · exact h

theorem loadLevelChange {util : Nat} : NextRetired s (execLoadLevelChange util t) := next (.ite h (h.modMbx.when fun _ h => h.irqSet))
theorem sysFrameLoRead : NextRetired s (execSysFrameLoRead t) := next (.ite h.modMbx h)
theorem sysTaiLoRead : NextRetired s (execSysTaiLoRead t) := next (.ite h.modMbx h)
theorem rcRegisterRead {ofs : Nat} : NextRetired s (execRcRegisterRead ofs t) := next (.ite h.modMbx h)
theorem snpCtrlEnable {v : Word} : NextRetired s (execSnpCtrlEnable v t) := next (.ite h.snpCtrl h)
theorem registerWrite {ofs : Nat} {v : Word} : NextRetired s (execRegisterWrite ofs v t) := next (.ite h.regWrite h)
theorem perstN : NextRetired s (execPerstN t) := next (.ite h.modMbx h)

/-! ### Snapshots (chapter 13) -/

theorem snapshotEmission : NextRetired s (execSnapshotEmission t) := by
  unfold execSnapshotEmission
  refine next ?_
  split
  · exact h
  · exact .ite h.snapWrite.modMbx h

theorem snapshotNow {ch : Nat} : NextRetired s (execSnapshotNow ch t) :=
  next (h.command fun _ _ => logged (.iteP h h.modMbx.carryCmd))

theorem snapshotFast {ch : Nat} {ids : List (Pid × Nat)} : NextRetired s (execSnapshotFast ch ids t) :=
  next (h.command fun _ _ => logged (.iteP h (.iteP h (.iteP h h.modMbx.carryCmd))))

/-! ### Commands of the mailbox (chapter 13) -/

theorem getInfo {ch : Nat} : NextRetired s (execGetInfo ch t) := next (h.command fun _ _ => .iteP h h)
theorem readParam {ch : Nat} : NextRetired s (execReadParam ch t) := next (h.command fun _ _ => h.readReq)

theorem writeParam {ch : Nat} : NextRetired s (execWriteParam ch t) := by
  refine next (h.command fun q a => ?_)
  split
  · exact h
  · exact h.writeLogged

theorem brambleReset {ch : Nat} : NextRetired s (execBrambleReset ch t) := next h.hostWrite
theorem reAdmitCell {ch c : Nat} : NextRetired s (execReAdmitCell ch c t) := next h.hostWrite
theorem commit {ch mask : Nat} : NextRetired s (execCommit ch mask t) := next h.hostWrite
theorem testMode {ch : Nat} {on : Bool} : NextRetired s (execTestMode ch on t) := next h.hostWrite
theorem modeRequest {ch m : Nat} : NextRetired s (execModeRequest ch m t) := next h.hostWrite
theorem compareArm {ch k : Nat} {on : Bool} : NextRetired s (execCompareArm ch k on t) := next h.hostWrite
theorem rejoin {ch port : Nat} : NextRetired s (execRejoin ch port t) := next h.hostWrite
theorem resynchronise {ch : Nat} : NextRetired s (execResynchronise ch t) := next h.hostWrite
theorem swapNow {ch : Nat} : NextRetired s (execSwapNow ch t) := next h.hostWrite
theorem recorderArm {ch : Nat} {on : Bool} : NextRetired s (execRecorderArm ch on t) := next h.hostWrite
theorem manualTrigger {ch : Nat} : NextRetired s (execManualTrigger ch t) := next h.hostWrite
theorem scrubNow {ch : Nat} : NextRetired s (execScrubNow ch t) := next h.hostWrite
theorem outputFaultReset {ch mask : Nat} : NextRetired s (execOutputFaultReset ch mask t) := next h.hostWrite
theorem hostReset {ch : Nat} : NextRetired s (execHostReset ch t) := next h.hostWrite
theorem setTime {ch : Nat} {tai : Int} : NextRetired s (execSetTime ch tai t) := next h.hostWrite

theorem bankWrite {ch bank addr : Nat} {ws : List Word} : NextRetired s (execBankWrite ch bank addr ws t) :=
  next (h.command fun _ _ => h.bankWords)

theorem bankRead {ch bank addr n : Nat} : NextRetired s (execBankRead ch bank addr n t) := next (h.command fun _ _ => .iteP h h)

theorem bankSwap {ch : Nat} {crc : Word} {target : Option Nat} : NextRetired s (execBankSwap ch crc target t) :=
  next (h.command fun _ _ => h.bankSwap)

theorem bankCancel {ch : Nat} : NextRetired s (execBankCancel ch t) := next (h.command fun _ _ => h.bankCancel)

theorem deblock {ch : Nat} : NextRetired s (execDeblock ch t) := by
  refine next (h.command fun q a => logged (.iteP h ?_))
  split
  · exact h
  · exact h.acceptCmd

theorem halt {ch : Nat} : NextRetired s (execHalt ch t) := next (h.command fun _ _ => logged (.iteP h (.iteP h.acceptCmd h)))
theorem recordList {ch : Nat} : NextRetired s (execRecordList ch t) := next (h.command fun _ _ => logged h)

theorem recordExport {ch num file ofs n : Nat} : NextRetired s (execRecordExport ch num file ofs n t) := by
  refine next (.ite h (h.command fun q a => logged ?_))
  split
  · exact .iteP h h
  · exact h

theorem recordDelete {ch num : Nat} : NextRetired s (execRecordDelete ch num t) := by
  refine next (h.command fun q a => logged ?_)
  split
  · exact h.recDelete.carryCmd
  · exact h

theorem logRead {ch fromSeq n : Nat} : NextRetired s (execLogRead ch fromSeq n t) := next (h.command fun _ _ => logged h)

theorem guFwLoad {ch ofs : Nat} {bytes : List Byte} : NextRetired s (execGuFwLoad ch ofs bytes t) :=
  next (h.command fun _ _ => logged (.iteP h.guStage.carryCmd h))

theorem guFwStart {ch : Nat} {cells : List Nat} : NextRetired s (execGuFwStart ch cells t) :=
  next (h.command fun _ _ => logged (.iteP h h.guStart.carryCmd))

/-! ### Images (chapter 14) -/

theorem imageBegin {ch kind len : Nat} : NextRetired s (execImageBegin ch kind len t) := next (h.command fun _ _ => h.imgBegin)

theorem imageBlock {ch ofs : Nat} {bytes : List Byte} : NextRetired s (execImageBlock ch ofs bytes t) :=
  next (h.command fun _ _ => h.imgBlock)

theorem imageCommit {ch : Nat} {sha : List Byte} : NextRetired s (execImageCommit ch sha t) := next (h.command fun _ _ => h.imgCommit)

theorem imageSelect {ch : Nat} {fw slotB activate : Bool} : NextRetired s (execImageSelect ch fw slotB activate t) :=
  next (h.command fun _ _ => h.imgSelect)

/-! ### Power, wake and shut-down (chapters 12, 14) -/

theorem pllLoss {p : Pll} : NextRetired s (execPllLoss p t) := by
  have hheld {u : State} {c d : Prop} [Decidable c] [Decidable d] {g : Clk → Clk} (hu : StaysRetired s u) :
      StaysRetired s (if c then (if d then u.e1DropAll.modClk g else u.e1DropAll) else u) := .ite (.ite hu.e1DropAll.modClk hu.e1DropAll) hu
  have hlost {b : Bool} {f : Clk → Clk} {g : Link → Link} {k : Nat} :
      StaysRetired s ((((t.modClk f).rcSet 200 0 k).openReq).when b (fun s => s.modLink g)) := h.modClk.rcSet.openReq.when fun _ h => h.modLink
  exact next (.ite h (.ite (hheld hlost).selfFail (hheld hlost)))

theorem wake {ch : Nat} {obs : WakeObs} : NextRetired s (execWake ch obs t) :=
  next (h.command fun _ _ => .iteP h.audit.wakeUp (logged h))

theorem wakeInputEdge {obs : WakeObs} : NextRetired s (execWakeInputEdge obs t) := next (.ite h.wakeUp h)

theorem blackStartRequestEdge {obs : WakeObs} : NextRetired s (execBlackStartRequestEdge obs t) :=
  next (.ite h (.ite h.modKern.wakeUp h.modKern))

theorem coldWakeRelease {obs : WakeObs} : NextRetired s (execColdWakeRelease obs t) := next (.ite h.wakeSeq h)

theorem identityRetry {obs : WakeObs} : NextRetired s (execIdentityRetry obs t) := by
  have hid {u : State} {l : List Find} (heq : t.identity obs true = (u, l)) : StaysRetired s u := by
    simpa only [heq] using h.identity (obs := obs) (again := true)
  refine next (.ite h ?_)
  split
  next heq => exact (hid heq).passReady
  next heq => exact (hid heq).toPending

theorem sustoWorksProcedure {key0 cred0 : Nat} : NextRetired s (execSustoWorksProcedure key0 cred0 t) := by
  unfold execSustoWorksProcedure
  refine next ?_
  split
  next hlife =>
    have hother : t.sys.life ≠ .retired := by
      intro hr
      simp [hr] at hlife
    exact (h.changeOther hother).audit
  next => exact h

theorem sleep {ch : Nat} : NextRetired s (execSleep ch t) := by
  refine next (h.command fun q a => ?_)
  have hreq : StaysRetired s (State.logged (fun s _ _ => s.sleepReq) t q a).1 := logged h.sleepReq
  exact .iteP hreq.carryCmd.shutStart hreq

theorem selfTestSliceEnd {r : SliceRes} : NextRetired s (execSelfTestSliceEnd r t) := next (.ite h.sliceDone h)
theorem sliceTimeout : NextRetired s (execSliceTimeout t) := next (.ite h.sliceDone h)

theorem powerFail : NextRetired s (execPowerFail t) := by
  have hfailed {u : State} {g : Sys → Sys} {p : Store → Store} (hu : StaysRetired s u)
      (hg : (g (u.failOutputs.audit 0x52).sys).sealed = (u.failOutputs.audit 0x52).sys.sealed) :
      StaysRetired s (((((u.failOutputs.audit 0x52).modSys g).loseRecords.flushAudit).journalCommit.modPeat p).powerDown) :=
    (hu.failOutputs.audit.modSys hg).loseRecords.flushAudit.journalCommit.modPeat.powerDown
  exact next (.ite h (hfailed (.ite h.endTest.enter h) rfl))

theorem powerUp {slot : Nat} {strapped vbatOk : Bool} {secs : Nat} {boots : List Bool} :
    NextRetired s (execPowerUp slot strapped vbatOk secs boots t) := by
  refine next (.ite h (.ite (h.modSys rfl) (publishSys (lifeApply (enter ?_)))))
  refine when (when (when ?_ fun _ h => h.rcSet) fun _ h => h.rcSet) fun _ h => h.gapRecord
  exact (h.booted.modSys rfl).modClk.bootParams.modClk

theorem firmwareWatchdog : NextRetired s (execFirmwareWatchdog t) := next (.ite h ((h.modMbx.modSys rfl).when fun _ h => h.rcSet))

/-! ### Boundaries (chapters 01, 03) -/

theorem supervisorySampleBoundary {sens : Sensors} : NextRetired s (execSupervisorySampleBoundary sens t) := by
  have hidle : StaysRetired s (t.takeSensors sens).hostDue.supPublish := h.takeSensors.hostDue.supPublish
  refine next (.ite h (.ite (.ite hidle.wakeUp hidle) ?_))
  have hwork {c : Prop} [Decidable c] {g : Twin → Twin} :
      StaysRetired s (if c then (t.takeSensors sens).modTwin g else (t.takeSensors sens).supWork) :=
    .ite h.takeSensors.modTwin h.takeSensors.supWork
  exact hwork.reconcile.creditsReconcile.rangingCheck.poolReentry.supCounts.supPublish

theorem controlSampleBoundary : NextRetired s (execControlSampleBoundary t) := next (.ite h (.ite h.modTwin h.controlWork))

theorem frameBoundary {obs : EngObs} : NextRetired s (execFrameBoundary obs t) := by
  have hlate : StaysRetired s (t.latchLate (fun s _ => s) none) := h.latchLate fun _ _ h => h
  have hdue {b : Bool} : StaysRetired s ((((t.latchLate (fun s _ => s) none).tick.twinFrame.shutFrame).when b State.sampleStarts).paramsDue) :=
    (hlate.tick.twinFrame.shutFrame.when fun _ h => h.sampleStarts).paramsDue
  exact next (.ite h (.ite hdue.frameWork hdue.fieldLatch.fieldOutputs.publishFrame))

/-! ### The pair's blocks that latch (chapter 09) -/

theorem sealBlock {b : TBlk} {lepoch : Nat} : NextRetired s (execSeal b lepoch t) := by
  unfold execSeal
  refine next ?_
  dsimp only
  split
  · exact .ite (.ite h.tTake.heartbeatT.modTwin.latchNowWith h.tTake.heartbeatT.modTwin) h.tTake.heartbeatT.modTwin
  · exact h.tTake

theorem sealMissing {chainSeen : Bool} : NextRetired s (execSealMissing chainSeen t) :=
  next (.ite h (.ite h.latchNowWith.startResync h.latchNowWith))

theorem exception {b : TBlk} {port : Nat} {slots : List Slot} {nestBytes : List Byte} :
    NextRetired s (execException b port slots nestBytes t) := by
  unfold execException
  refine next ?_
  dsimp only
  split
  · refine .ite h.tTake (.ite (startResync (modTwin (.ite (h.tTake.modTwin.forAll ?_) h.tTake.modTwin.exceptNest)))
      (.ite (h.tTake.modTwin.forAll ?_) h.tTake.modTwin.exceptNest))
    all_goals
      intro u x hu
      split
      · exact hu.exceptSlot
      · exact hu
  · exact h.tTake

theorem fail {b : TBlk} {src : Nat} : NextRetired s (execFail b src t) := by
  unfold execFail
  refine next ?_
  dsimp only
  split
  · exact .ite h.tTake h.tTake.latchNowWith.declareFailed
  · exact h.tTake

theorem partnerFailed : NextRetired s (execPartnerFailed t) := next (.ite h.latchNowWith.declareFailed h)

theorem state {b : TBlk} {slice : List Byte} {last : Bool} : NextRetired s (execState b slice last t) := by
  unfold execState
  refine next ?_
  dsimp only
  split
  · refine .ite h.tTake (.ite h.tTake.modTwin ?_)
    split
    · exact h.tTake.modTwin.loadImg.replay.modTwin
    · exact h.tTake.modTwin.modTwin
  · exact h.tTake

end
end NextRetired

end Sys2Proof.Machine
end


section
/-!
SUPPORT. The queue, and a RETIRED module (R506, R507): Hedgerow's channels, then every command.
-/
namespace Sys2Proof.Machine
open Sys2Proof

namespace StaysRetired
variable {s t : State}

/-- A safety cycle leaves all beside Hedgerow, the sticky bits and the log. -/
theorem of_inCycle {b : Bool} {obs : HdgObs} (h : InCycle (s.sampledView b obs) t) : StaysRetired s t :=
  of_sealed (congrArg (fun v => v.1.pending) h) (congrArg (fun v => v.1.sys.sealed) h)

section
variable (h : StaysRetired s t)
include h

theorem updCh {b : Bool} {f : HCh → HCh} : StaysRetired s (t.updCh b f) := by
  cases b
  · exact h.modHdg
  · exact h.modHdg

theorem updSo {k : Nat} {f : HOut → HOut} : StaysRetired s (t.updSo k f) := h.modHdg
theorem startStop : StaysRetired s t.startStop := h.modHdg
theorem drive {b : Bool} : StaysRetired s (t.drive b) := drive_eq t b ▸ h.modHdg

theorem latchFn {b : Bool} {f : Nat} : StaysRetired s (t.latchFn b f) :=
  .ite h (when (when h.updCh fun _ h => h.modHdg) fun _ h => h.startStop)

theorem safetyCycle {b : Bool} {obs : HdgObs} : StaysRetired s (t.safetyCycle b obs) := by
  obtain ⟨u, hu, heq⟩ := safetyCycle_spec t b obs
  rw [heq]
  exact (h.trans (of_inCycle hu)).updCh.drive

end
end StaysRetired

namespace NextRetired
open StaysRetired
variable {s t : State}

section
variable (h : StaysRetired s t)
include h

theorem crossLinkMessage {b : Bool} {m : Option XMsg} : NextRetired s (execCrossLinkMessage b m t) := by
  refine next (.ite h ?_)
  split
  · exact h.updCh
  · exact h.updCh

theorem safetyCycle {b : Bool} {obs : HdgObs} : NextRetired s (execSafetyCycle b obs t) := next (.ite h.safetyCycle h)
theorem xcmpFault {b : Bool} : NextRetired s (execXcmpFault b t) := next (.ite h.updCh.drive.drive h)
theorem clockFault {b : Bool} {dev : Int} : NextRetired s (execClockFault b dev t) := next (.ite h.updCh.drive.drive h)
theorem functionRaised {b : Bool} {f : Nat} : NextRetired s (execFunctionRaised b f t) := next (.ite h.latchFn.drive h)
theorem safeStopDelayEnd : NextRetired s (execSafeStopDelayEnd t) := next (.ite h.modHdg.drive.drive h)

theorem discFault {k : Nat} : NextRetired s (execDiscFault k t) :=
  next (.ite (h.modHdg.when fun _ h => h.startStop).drive.drive h)

theorem outputPairTest {so : Nat} {obs : PairObs} : NextRetired s (execOutputPairTest so obs t) :=
  next (.ite h (.ite (.ite h.updSo.rcSet.drive.drive h.updSo) h.updSo.drive.drive))

end
end NextRetired

/-! ### Every command -/

open NextRetired in
/-- Every command answers a next state, leaves the queue, and keeps a RETIRED module one. -/
theorem exec_nextRetired (s : State) (c : Instr) : NextRetired s (exec c s) := by
  have h := StaysRetired.refl s
  exact match c with
  | .frameBoundary .. => frameBoundary h
  | .controlSampleBoundary => controlSampleBoundary h
  | .supervisorySampleBoundary .. => supervisorySampleBoundary h
  | .driftWindowEnd => driftWindowEnd h
  | .snapshotEmission => snapshotEmission h
  | .snapshotDmaError => snapshotDmaError h
  | .groupOverrun .. => groupOverrun h
  | .loopOverrunRaised .. => loopOverrunRaised h
  | .backgroundRunStart => backgroundRunStart h
  | .backgroundRunEnd => backgroundRunEnd h
  | .backgroundWatchdog => backgroundWatchdog h
  | .engineSramUncorrectable .. => engineSramUncorrectable h
  | .analogConversionComplete .. => analogConversionComplete h
  | .sigmaDeltaOutput .. => sigmaDeltaOutput h
  | .sdFault .. => sdFault h
  | .sdValidityReturn .. => sdValidityReturn h
  | .sampledValueMessage .. => sampledValueMessage h
  | .crossingTimeout .. => crossingTimeout h
  | .blackStartRequestEdge .. => blackStartRequestEdge h
  | .syncCompareArmed => syncCompareArmed h
  | .syncAbort => syncAbort h
  | .syncFail => syncFail h
  | .limitedReturn => limitedReturn h
  | .refreshDue .. => refreshDue h
  | .refreshOverdue .. => refreshOverdue h
  | .gateSupplyLow .. => gateSupplyLow h
  | .statusStale .. => statusStale h
  | .crihelReturnFrame .. => crihelReturnFrame h
  | .returnFrameMissing .. => returnFrameMissing h
  | .linkLoss .. => linkLoss h
  | .messageReply .. => messageReply h
  | .msgTimeout .. => msgTimeout h
  | .nestDown .. => nestDown h
  | .nestUp .. => nestUp h
  | .nestLoss .. => nestLoss h
  | .sourceRaised .. => sourceRaised h
  | .sourceCleared .. => sourceCleared h
  | .pairFormation .. => pairFormation h
  | .vector .. => vector h
  | .exception .. => exception h
  | .seal .. => sealBlock h
  | .sealMissing .. => sealMissing h
  | .digests .. => digests h
  | .hb _ lepoch _ _ => (hb h (lepoch := lepoch))
  | .outDigest .. => outDigest h
  | .fail _ src => (fail h (src := src))
  | .swap .. => swap h
  | .state .. => state h
  | .relay .. => relay h
  | .partnerFailed => partnerFailed h
  | .heartbeatPathLost .. => heartbeatPathLost h
  | .resyncComplete .. => resyncComplete h
  | .resyncGiveup => resyncGiveup h
  | .swapPeriodElapsed => swapPeriodElapsed h
  | .safetyCycle .. => safetyCycle h
  | .crossLinkMessage .. => crossLinkMessage h
  | .xcmpFault .. => xcmpFault h
  | .clockFault .. => clockFault h
  | .functionRaised .. => functionRaised h
  | .safeStopDelayEnd => safeStopDelayEnd h
  | .discFault .. => discFault h
  | .outputPairTest .. => outputPairTest h
  | .recordComplete => recordComplete h
  | .recordWritten => recordWritten h
  | .preTriggerFilled => preTriggerFilled h
  | .holdoffEnd => holdoffEnd h
  | .memoryReserved => memoryReserved h
  | .pllLock .. => pllLock h
  | .pllLoss .. => pllLoss h
  | .pllRelock .. => pllRelock h
  | .refFallback .. => refFallback h
  | .refinLost => refinLost h
  | .refinResume => refinResume h
  | .ptpMessage .. => ptpMessage h
  | .irigbFrame .. => irigbFrame h
  | .ppsInEdge .. => ppsInEdge h
  | .timeSourceLost .. => timeSourceLost h
  | .timeLocked => timeLocked h
  | .holdoverExpired => holdoverExpired h
  | .leapSecond => leapSecond h
  | .ppsOut .. => ppsOut h
  | .powerUp .. => powerUp h
  | .powerFail => powerFail h
  | .perstN => perstN h
  | .wakeInputEdge .. => wakeInputEdge h
  | .coldWakeRelease .. => coldWakeRelease h
  | .identityRetry obs => (identityRetry h (obs := obs))
  | .selfTestSliceEnd .. => selfTestSliceEnd h
  | .sliceTimeout => sliceTimeout h
  | .mbDoorbell .. => mbDoorbell h
  | .abort .. => abort h
  | .doneClear .. => doneClear h
  | .requestStart => requestStart h
  | .e1ConnectionOpen .. => e1ConnectionOpen h
  | .e1ConnectionClose .. => e1ConnectionClose h
  | .e1Request .. => e1Request h
  | .sessionIdleTimeout .. => sessionIdleTimeout h
  | .authLockoutEnd .. => authLockoutEnd h
  | .loadLevelChange .. => loadLevelChange h
  | .sysFrameLoRead => sysFrameLoRead h
  | .sysTaiLoRead => sysTaiLoRead h
  | .rcRegisterRead .. => rcRegisterRead h
  | .snpCtrlEnable .. => snpCtrlEnable h
  | .registerWrite .. => registerWrite h
  | .getInfo .. => getInfo h
  | .openSession .. => openSession h
  | .authSession .. => authSession h
  | .closeSession .. => closeSession h
  | .readParam .. => readParam h
  | .writeParam .. => writeParam h
  | .bankWrite .. => bankWrite h
  | .bankRead .. => bankRead h
  | .bankSwap .. => bankSwap h
  | .bankCancel .. => bankCancel h
  | .deblock .. => deblock h
  | .halt .. => halt h
  | .sleep .. => sleep h
  | .wake .. => wake h
  | .imageBegin .. => imageBegin h
  | .imageBlock .. => imageBlock h
  | .imageCommit .. => imageCommit h
  | .imageSelect .. => imageSelect h
  | .snapshotNow .. => snapshotNow h
  | .snapshotFast .. => snapshotFast h
  | .recordList .. => recordList h
  | .recordExport .. => recordExport h
  | .recordDelete .. => recordDelete h
  | .logRead .. => logRead h
  | .guFwLoad .. => guFwLoad h
  | .guFwStart .. => guFwStart h
  | .brambleReset .. => brambleReset h
  | .reAdmitCell .. => reAdmitCell h
  | .commit .. => commit h
  | .testMode .. => testMode h
  | .modeRequest .. => modeRequest h
  | .compareArm .. => compareArm h
  | .rejoin .. => rejoin h
  | .resynchronise .. => resynchronise h
  | .swapNow .. => swapNow h
  | .recorderArm .. => recorderArm h
  | .manualTrigger .. => manualTrigger h
  | .scrubNow .. => scrubNow h
  | .outputFaultReset .. => outputFaultReset h
  | .hostReset .. => hostReset h
  | .setTime .. => setTime h
  | .journalCommit => journalCommit h
  | .auditPageWrite => auditPageWrite h
  | .scrubRead .. => scrubRead h
  | .programEraseFailure .. => programEraseFailure h
  | .uncorrectable .. => uncorrectable h
  | .fieldFrame .. => fieldFrame h
  | .inputLevelChange .. => inputLevelChange h
  | .wireBreak .. => wireBreak h
  | .wireBreakCleared .. => wireBreakCleared h
  | .thermalShutdown .. => thermalShutdown h
  | .outputFault .. => outputFault h
  | .fieldTestPulse .. => fieldTestPulse h
  | .logicSilence => logicSilence h
  | .fieldFramesReturn => fieldFramesReturn h
  | .lplusMonitor => lplusMonitor h
  | .sfpInsertRemove .. => sfpInsertRemove h
  | .temperatureThreshold .. => temperatureThreshold h
  | .compareOutputPulseEnd .. => compareOutputPulseEnd h
  | .outputThermalRestart .. => outputThermalRestart h
  | .firmwareWatchdog => firmwareWatchdog h
  | .sustoWorksProcedure .. => sustoWorksProcedure h

/-- Settles O1: `step` is `exec` of the front command on the rest of the queue, by its definition. -/
theorem stepRunsFrontCommand : Obligations.StepRunsFrontCommand := by
  unfold Obligations.StepRunsFrontCommand step
  refine ⟨fun c rest s hq => ?_, fun s hq => ?_⟩
  · rw [hq]
  · rw [hq]

/-- Settles O2: every command answers a next state and leaves what waits behind it. -/
theorem everyStepTakesOneCommandOff : Obligations.EveryStepTakesOneCommandOff := by
  intro s
  obtain ⟨hrun, hidle⟩ := stepRunsFrontCommand
  cases hq : s.pending with
  | nil => exact ⟨s, hidle s hq, by simp [hq]⟩
  | cons c rest =>
    obtain ⟨t, hnext, hqueue, -⟩ := exec_nextRetired { s with pending := rest } c
    exact ⟨t, (hrun c rest s hq).trans hnext, hqueue⟩

/-- Settles O5: what erases or writes keys, and what changes the life-cycle state, is closed to a RETIRED module; every other work leaves
them. -/
theorem retiredStaysRetired : Obligations.RetiredStaysRetired := by
  intro s t hs hstep
  obtain ⟨hrun, hidle⟩ := stepRunsFrontCommand
  cases hq : s.pending with
  | nil =>
    rw [hidle s hq] at hstep
    cases hstep
    exact hs
  | cons c rest =>
    obtain ⟨u, hnext, -, hkeeps⟩ := exec_nextRetired { s with pending := rest } c
    rw [hrun c rest s hq, hnext] at hstep
    cases hstep
    exact hkeeps hs

end Sys2Proof.Machine
end

section
/-!
SUPPORT. Clocks and station time (R416, R417, R421 to R439, R441): the delivered module, the PLLs and the reference, a measurement of station
time from any source, and the states of station time; the statements about them.
-/
namespace Sys2Proof.Machine
open Sys2Proof

/-! ### The delivered module (R441, R449, R507) -/

theorem reset_safetyOff : State.reset.safetyOff := by
  intro o ho
  obtain rfl : o = HOut.reset := by simpa [State.reset, Hdg.reset] using ho
  exact ⟨rfl, rfl⟩

/-- Settles O3: each clause is a field of the state at reset. -/
theorem deliveredModule : Obligations.DeliveredModule := by
  have hchans : ∀ c ∈ State.reset.mbx.chans, c.sess = none ∧ c.queued = false ∧ c.exec_ = false := by
    intro c hc
    obtain rfl : c = Chan.reset := List.eq_of_mem_replicate hc
    exact ⟨rfl, rfl, rfl⟩
  have hcells : ∀ c ∈ State.reset.arm.cells, c.cmd.st = .block := by
    intro c hc
    obtain rfl : c = Cell.reset := List.eq_of_mem_replicate hc
    rfl
  have hbanks : State.reset.banksInv := ⟨List.length_replicate, List.length_replicate⟩
  exact ⟨rfl, rfl, rfl, rfl, rfl, rfl, rfl, rfl, rfl, rfl, reset_safetyOff, hchans, rfl, rfl, hcells, rfl, fun _ => reset_safetyOff, hbanks⟩

/-! ### The reference (R416, R417) -/

/-- Settles O23: each event is a change of the clock record, and REFIN_LOST sets its bit. -/
theorem referenceClockEvents : Obligations.ReferenceClockEvents := by
  intro s hup
  refine ⟨fun n hout => ?outside, fun n hlo hhi => ?inside, fun hsel =>
    ⟨⟨(s.modClk (fun c => { c with refinLocked := false, tuneHeld := true })).rcSet 200 0 20, ?lost, ?bit, rfl⟩, ?resume⟩⟩
  case outside =>
    have hcond : (decide (n < 604) || decide (617 < n)) = true := by simpa using hout
    simp [exec, execRefFallback, hup, hcond, State.modClk]
  case inside =>
    simp [exec, execRefFallback, hup, Nat.not_lt.mpr hlo, Nat.not_lt.mpr hhi]
  case lost =>
    simp [exec, execRefinLost, hup, hsel]
  case bit => exact rcBit_rcSet _ 200 0 20 (by decide)
  case resume => simp [exec, execRefinResume, hup, hsel, State.modClk]

/-! ### Loss and return of lock (R421, R424 to R426) -/

/-- Power, lock, backup, standing losses and loss counts of the PLLs. -/
def Clk.plls (c : Clk) : (Pll → Bool) × (Pll → Bool) × (Pll → Bool) × List Bool × List Nat :=
  (c.pow, c.lock, c.back, c.pllStand, c.lossN)

/-- `t` is `s` but for what a loss of lock touches beside the PLLs: links, E1 sessions and station time, and the member's own failure. -/
def AfterLoss (s t : State) : Prop :=
  (∃ clk arm link par twin mbx sys peat, t = { s with
    clk := clk, arm := arm, link := link, par := par, twin := twin, mbx := mbx, sys := sys, peat := peat }) ∧ t.clk.plls = s.clk.plls

namespace AfterLoss
variable {s t u : State}

theorem refl (s : State) : AfterLoss s s := ⟨⟨_, _, _, _, _, _, _, _, rfl⟩, rfl⟩

theorem trans (h : AfterLoss s t) (k : AfterLoss t u) : AfterLoss s u := by
  obtain ⟨⟨_, _, _, _, _, _, _, _, rfl⟩, hp⟩ := h
  obtain ⟨⟨_, _, _, _, _, _, _, _, rfl⟩, kp⟩ := k
  exact ⟨⟨_, _, _, _, _, _, _, _, rfl⟩, kp.trans hp⟩

theorem ite {c : Prop} [Decidable c] (h : AfterLoss s t) (k : AfterLoss s u) : AfterLoss s (if c then t else u) := by
  split
  · exact h
  · exact k

theorem when {b : Bool} {f : State → State} (h : AfterLoss s t) (hf : ∀ v, AfterLoss s v → AfterLoss s (f v)) : AfterLoss s (t.when b f) := by
  cases b with
  | false => exact h
  | true => exact hf t h

section
variable (h : AfterLoss s t)
include h

theorem modClk {g : Clk → Clk} (hg : (g t.clk).plls = t.clk.plls) : AfterLoss s (t.modClk g) :=
  h.trans ⟨⟨_, _, _, _, _, _, _, _, rfl⟩, hg⟩

theorem modArm {g : Arm → Arm} : AfterLoss s (t.modArm g) := h.trans ⟨⟨_, _, _, _, _, _, _, _, rfl⟩, rfl⟩
theorem modLink {g : Link → Link} : AfterLoss s (t.modLink g) := h.trans ⟨⟨_, _, _, _, _, _, _, _, rfl⟩, rfl⟩
theorem modTwin {g : Twin → Twin} : AfterLoss s (t.modTwin g) := h.trans ⟨⟨_, _, _, _, _, _, _, _, rfl⟩, rfl⟩
theorem modMbx {g : Mbx → Mbx} : AfterLoss s (t.modMbx g) := h.trans ⟨⟨_, _, _, _, _, _, _, _, rfl⟩, rfl⟩
theorem modSys {g : Sys → Sys} : AfterLoss s (t.modSys g) := h.trans ⟨⟨_, _, _, _, _, _, _, _, rfl⟩, rfl⟩
theorem setRaw {id : Pid} {e : Nat} {v : Raw} : AfterLoss s (t.setRaw id e v) := h.trans ⟨⟨_, _, _, _, _, _, _, _, rfl⟩, rfl⟩

theorem logPush {r : Audit} : AfterLoss s (t.logPush r) := h.trans ⟨⟨_, _, _, _, _, _, _, _, rfl⟩, rfl⟩

theorem audit {ty : Nat} {w : Who} {subj : Nat} {old new detail : Int} : AfterLoss s (t.audit ty w subj old new detail) :=
  forAll_invariant h fun _ _ h => h.logPush

theorem irqSet {k : Nat} : AfterLoss s (t.irqSet k) := h.modMbx
theorem endTest : AfterLoss s t.endTest := .ite h.modArm.setRaw h
theorem enter {m : MState} {w : Who} : AfterLoss s (t.enter m w) :=
  (h.audit (ty := 0x20) (w := w) (old := t.sys.st.code) (new := m.code)).modSys.irqSet

theorem toFaulted : AfterLoss s t.toFaulted := .ite h.endTest.enter h
theorem tSend {b : TBody} : AfterLoss s (t.tSend b) := .ite h.modTwin h
theorem selfFail {k : Nat} : AfterLoss s (t.selfFail k) := .ite h h.tSend.modTwin.toFaulted

theorem sessionClose {ch why : Nat} : AfterLoss s (t.sessionClose ch why) := by
  have hclosed : AfterLoss s ((t.audit 0x03 (t.whoOf ch) 0 0 0 why).updChan ch (fun c => { c with sess := none })) := h.audit.modMbx
  unfold State.sessionClose
  split
  · dsimp only
    split
    · exact .ite hclosed.modSys hclosed
    · exact hclosed
  · exact h

theorem e1DropAll : AfterLoss s t.e1DropAll := forAll_invariant h fun _ _ h => .ite h.sessionClose.modMbx h

end
end AfterLoss

theorem setPll_pow (c : Clk) (p : Pll) (pow lock back : Bool) : (c.setPll p pow lock back).pow p = pow := by cases p <;> rfl
theorem setPll_lock (c : Clk) (p : Pll) (pow lock back : Bool) : (c.setPll p pow lock back).lock p = lock := by cases p <;> rfl
theorem setPll_back (c : Clk) (p : Pll) (pow lock back : Bool) : (c.setPll p pow lock back).back p = back := by cases p <;> rfl
theorem setPll_lossN (c : Clk) (p : Pll) (pow lock back : Bool) : (c.setPll p pow lock back).lossN = c.lossN := by cases p <;> rfl

/-- The clock once PLL `p` has lost lock: backup, count and condition (R424, R426). -/
def Clk.lost (c : Clk) (p : Pll) : Clk :=
  { (c.setPll p true false true) with lossN := c.lossN.modify p.ix (fun n => wrap32 (n + 1)), pllStand := c.pllStand.set p.ix true }

/-- The module once PLL `p` has lost lock, before links, sessions and pair follow (R424, R425). -/
def State.lostPll (s : State) (p : Pll) : State := ((s.modClk (fun c => c.lost p)).rcSet 200 0 (9 + p.ix)).openReq

/-- Station time without a source keeps the PLLs (R429). -/
theorem plls_unsourced (c : Clk) (r : Int) (t : TState) :
    ({ (c.setRho r).setState t with source := 0, rateLimited := false } : Clk).plls = c.plls := rfl

/-- A loss of lock goes on from its clock, its bit and the outputs it opens. -/
theorem pllLoss_after {s : State} {p : Pll} (hup : s.up = true) (hpow : s.clk.pow p = true) (hlock : s.clk.lock p = true) :
    ∃ t, execPllLoss p s = .next t ∧ AfterLoss (s.lostPll p) t := by
  have hcond : ¬(!(s.up && s.clk.pow p && s.clk.lock p)) = true := by simp [hup, hpow, hlock]
  unfold execPllLoss
  rw [if_neg hcond]
  extract_lets lost noted opened linked dropped followed
  have hlinked : AfterLoss opened linked := (AfterLoss.refl opened).when fun _ h => h.modLink
  have hdropped : AfterLoss opened dropped := hlinked.e1DropAll
  have hfollowed : AfterLoss opened followed := .ite (.ite (hdropped.modClk (plls_unsourced _ _ _)) hdropped) hlinked
  exact ⟨_, rfl, .ite hfollowed.selfFail hfollowed⟩

/-- A loss of PLL-L opens both switches of SO2 (R379, R425). -/
theorem lostPll_so2 (s : State) (hlen : s.clk.pllStand.length = 3) :
    ((s.lostPll .l).hdg.out 1).hs = false ∧ ((s.lostPll .l).hdg.out 1).ls = false := by
  have hreq : ((s.modClk (fun c => c.lost .l)).rcSet 200 0 (9 + Pll.l.ix)).so2Req = true := by
    have hstand : (s.clk.pllStand.set 1 true)[1]? = some true := by simp [hlen]
    simp [State.so2Req, Clk.lost, Pll.ix, State.rcSet, List.getD, hstand]
  simp [State.lostPll, State.openReq, hreq, Hdg.out]

/-- Settles O22: lock and relock are changes of the clock record; what follows a loss leaves the PLLs, the bit and the outputs. -/
theorem pllLockLossRelock : Obligations.PllLockLossRelock := by
  intro s p
  refine ⟨fun hpow hlock hback => ⟨s.modClk (fun c => c.setPll p true true false), ?lock, rfl, rfl, setPll_lock _ _ _ _ _⟩, fun hup hpow hlock hstand _ => ?loss,
    fun hpow hback => ⟨s.modClk (fun c => { (c.setPll p true true false) with pllStand := c.pllStand.set p.ix false }), ?relock, rfl, ?_⟩⟩
  case lock => simp [exec, execPllLock, hpow, hlock, hback]
  case relock => simp [exec, execPllRelock, hpow, hback]
  case loss =>
    obtain ⟨t, hexec, ⟨_, _, _, _, _, _, _, _, ht⟩, hplls⟩ := pllLoss_after hup hpow hlock
    simp only [Clk.plls, Prod.mk.injEq] at hplls
    obtain ⟨hpow', hlock', hback', hstand', hloss'⟩ := hplls
    have hbit : t.rcBit 200 0 (9 + p.ix) = true := by
      rw [ht]
      exact rcBit_rcSet (s.modClk (fun c => c.lost p)) 200 0 (9 + p.ix) (by cases p <;> decide)
    refine ⟨t, hexec, ?_, ?_, ?_, hstand', hloss', hbit, ?so2, ?_, ?_, ?_, ?_, ?_⟩
    case so2 =>
      rintro rfl
      rw [ht]
      exact lostPll_so2 s hstand
    · exact (congrFun hpow' p).trans (setPll_pow _ _ _ _ _)
    · exact (congrFun hlock' p).trans (setPll_lock _ _ _ _ _)
    · exact (congrFun hback' p).trans (setPll_back _ _ _ _ _)
    all_goals rw [ht]; rfl
  · exact ⟨setPll_lock _ _ _ _ _, setPll_back _ _ _ _ _, rfl, setPll_lossN _ _ _ _ _⟩

end Sys2Proof.Machine
end

section
/-!
SUPPORT. Station time (R428 to R439): what a measurement of any source keeps, and the states of station time; the statements about them.
-/
namespace Sys2Proof.Machine
open Sys2Proof

/-! ### What a measurement keeps (R428 to R432) -/

/-- Sources and masters heard, the master followed, and the second of TIM.050. -/
def Clk.heard (c : Clk) : List (Option Nat) × List (Nat × List Nat) × Nat × Bool × Option Int :=
  (c.srcSeen, c.ptpM, c.master, c.masterE2, c.setTai)

/-- The rate is within 200 ppm (R432). -/
def Clk.InRate (c : Clk) : Prop := -200000 ≤ c.rho ∧ c.rho ≤ 200000

/-- From `s` to `t` station time has been measured: beside the clock only what a step of time moves has changed, and the rate has stayed
within 200 ppm. -/
structure Measured (s t : State) : Prop where
  beside : ∃ clk sys peat pub meas arm, t = { s with clk := clk, sys := sys, peat := peat, pub := pub, meas := meas, arm := arm }
  rate : s.clk.InRate → t.clk.InRate

/-- Station time, and what a step of it moves, stay. -/
def Unstepped (s t : State) : Prop :=
  t.clk.tai = s.clk.tai ∧ t.clk.frame = s.clk.frame ∧ t.sys = s.sys ∧ t.meas = s.meas ∧ t.arm = s.arm

theorem Measured.trans {s t u : State} (h : Measured s t) (k : Measured t u) : Measured s u := by
  obtain ⟨⟨_, _, _, _, _, _, rfl⟩, hr⟩ := h
  obtain ⟨⟨_, _, _, _, _, _, rfl⟩, kr⟩ := k
  exact ⟨⟨_, _, _, _, _, _, rfl⟩, kr ∘ hr⟩

theorem Measured.refl (s : State) : Measured s s := ⟨⟨_, _, _, _, _, _, rfl⟩, id⟩

/-- A change of the clock record beside the rate. -/
theorem measured_modClk (s : State) {g : Clk → Clk} (hg : (g s.clk).rho = s.clk.rho) : Measured s (s.modClk g) := by
  refine ⟨⟨_, _, _, _, _, _, rfl⟩, ?_⟩
  simp only [Clk.InRate, modClk_clk, hg]
  exact id

theorem measured_stepTime (s : State) (off : Int) (frac : Nat) : Measured s (s.stepTime off frac) := ⟨⟨_, _, _, _, _, _, rfl⟩, id⟩

/-- A measurement takes the source anew. -/
def State.anewFrom (s : State) (code : Nat) (anew : Bool) : State :=
  if anew || s.clk.tstate == .free || s.clk.tstate == .holdover || s.clk.source != code then
    s.modClk (fun c => { (c.setState .acquiring) with source := code })
  else s

theorem anewFrom_eq (s : State) (code : Nat) (anew : Bool) : ∃ g : Clk → Clk, s.anewFrom code anew = s.modClk g ∧
    (g s.clk).rho = s.clk.rho ∧ (g s.clk).heard = s.clk.heard ∧ Unstepped s (s.modClk g) := by
  unfold State.anewFrom
  split
  · exact ⟨_, rfl, rfl, rfl, rfl, rfl, rfl, rfl, rfl⟩
  · exact ⟨id, rfl, rfl, rfl, rfl, rfl, rfl, rfl, rfl⟩

/-- A measurement steps time, or sets the rate within 200 ppm (R430, R432). -/
theorem measureTime_cases (s : State) (code : Nat) (off : Int) (frac : Nat) (anew : Bool) :
    let u := s.anewFrom code anew
    (s.pn gTIM 24 < off.natAbs ∧ s.running = false ∧
      s.measureTime code off frac anew = (u.stepTime off frac).modClk (fun c => { c with offset := off, fresh := false, good := 0 })) ∨
    (∃ g : Clk → Clk, s.measureTime code off frac anew = u.modClk g ∧ (g u.clk).InRate ∧ (g u.clk).heard = u.clk.heard ∧
      Unstepped u (u.modClk g)) := by
  obtain ⟨g, hg, -⟩ := anewFrom_eq s code anew
  have hrate (r : Int) : -200000 ≤ max (-200000) (min 200000 r) ∧ max (-200000) (min 200000 r) ≤ 200000 := by omega
  intro u
  have hpn : u.pn gTIM 24 = s.pn gTIM 24 := by unfold u; rw [hg]; rfl
  have hrun : u.running = s.running := by unfold u; rw [hg]; rfl
  unfold State.measureTime
  extract_lets v big small r w
  have hbig : big = decide (off.natAbs > s.pn gTIM 24) := congrArg (fun n => decide (off.natAbs > n)) hpn
  by_cases hstep : (v.clk.tstate == .acquiring && v.clk.fresh && big && !v.running) = true
  · rw [if_pos hstep]
    simp only [Bool.and_eq_true, Bool.not_eq_true'] at hstep
    obtain ⟨⟨-, hb⟩, hr⟩ := hstep
    exact .inl ⟨by simpa [hbig] using hb, hrun ▸ hr, rfl⟩
  · rw [if_neg hstep]
    refine .inr ?_
    split
    · exact ⟨fun c => Clk.setState _ .acquiring, rfl, hrate _, rfl, rfl, rfl, rfl, rfl, rfl⟩
    · exact ⟨_, rfl, hrate _, rfl, rfl, rfl, rfl, rfl, rfl⟩

theorem Unstepped.refl (s : State) : Unstepped s s := ⟨rfl, rfl, rfl, rfl, rfl⟩

theorem Unstepped.trans {s t u : State} (h : Unstepped s t) (k : Unstepped t u) : Unstepped s u := by
  obtain ⟨h1, h2, h3, h4, h5⟩ := h
  obtain ⟨k1, k2, k3, k4, k5⟩ := k
  exact ⟨k1.trans h1, k2.trans h2, k3.trans h3, k4.trans h4, k5.trans h5⟩

/-- A measurement is taken beside what has been heard, and does not step time while RUNNING or within TIM.024 (R430, R432). -/
theorem measureTime_spec (s : State) (code : Nat) (off : Int) (frac : Nat) (anew : Bool) :
    Measured s (s.measureTime code off frac anew) ∧ (s.measureTime code off frac anew).clk.heard = s.clk.heard ∧
      (s.running = true ∨ off.natAbs ≤ s.pn gTIM 24 → Unstepped s (s.measureTime code off frac anew)) := by
  obtain ⟨f, hf, hrho, hheard, hstill⟩ := anewFrom_eq s code anew
  have hanew : Measured s (s.anewFrom code anew) := hf ▸ measured_modClk s hrho
  rcases measureTime_cases s code off frac anew with ⟨hbig, hrun, heq⟩ | ⟨g, heq, hrate, hg, hkept⟩
  · rw [heq]
    refine ⟨(hanew.trans (measured_stepTime _ _ _)).trans (measured_modClk _ rfl), ?_, fun hlimit => ?_⟩
    · exact (congrArg (fun u => u.clk.heard) hf).trans hheard
    · rcases hlimit with hr | hsmall
      · exact absurd hr (by simp [hrun])
      · exact absurd hbig (Nat.not_lt.mpr hsmall)
  · rw [heq]
    refine ⟨hanew.trans ⟨⟨_, _, _, _, _, _, rfl⟩, fun _ => hrate⟩, ?_, fun _ => ?_⟩
    · exact hg.trans ((congrArg (fun u => u.clk.heard) hf).trans hheard)
    · exact (hf ▸ hstill : Unstepped s (s.anewFrom code anew)).trans hkept

/-- The sources heard once source `code` has delivered a valid time. -/
def State.hears (s : State) (code : Nat) : State := s.modClk (fun c => { c with srcSeen := c.srcSeen.set (code - 1) (some c.tai) })

/-- A valid time of a source that is enabled is heard, and measured where the source is the best (R428). -/
theorem timeFrom_eq {s : State} {code : Nat} (off : Int) (frac : Nat) (anew : Bool) (hup : s.up = true)
    (hon : (s.raw gTIM 20).getLsbD (code - 1) = true) :
    s.timeFrom code off frac anew =
      if (s.hears code).bestSrc == code then (s.hears code).measureTime code off frac anew else s.hears code := by
  simp only [State.timeFrom, hup, hon, Bool.and_self, Bool.not_true, Bool.false_eq_true, if_false]
  rfl

theorem timeFrom_spec {s : State} {code : Nat} (off : Int) (frac : Nat) (anew : Bool) (hup : s.up = true)
    (hon : (s.raw gTIM 20).getLsbD (code - 1) = true) :
    Measured s (s.timeFrom code off frac anew) ∧ (s.timeFrom code off frac anew).clk.heard = (s.hears code).clk.heard ∧
      (s.running = true ∨ off.natAbs ≤ s.pn gTIM 24 → Unstepped s (s.timeFrom code off frac anew)) := by
  have hheard : Measured s (s.hears code) := measured_modClk s rfl
  have hkept : Unstepped s (s.hears code) := ⟨rfl, rfl, rfl, rfl, rfl⟩
  rw [timeFrom_eq off frac anew hup hon]
  split
  · obtain ⟨hm, hh, hu⟩ := measureTime_spec (s.hears code) code off frac anew
    exact ⟨hheard.trans hm, hh, fun hlimit => hkept.trans (hu hlimit)⟩
  · exact ⟨hheard, rfl, fun _ => hkept⟩

/-! ### PTP (R428, R436) -/

/-- A state in which a PTP message has been heard on its port. -/
def State.heardPtp (s : State) (m : PtpMsg) : State :=
  s.modClk (fun c => { c with ptpM := c.ptpM.set m.port (m.master, m.rank), srcSeen := c.srcSeen.set m.port (some c.tai) })

/-- The master of a message is followed where its port is the best source. -/
def State.followPtp (s : State) (m : PtpMsg) : State :=
  (s.heardPtp m).when ((s.heardPtp m).bestSrc == m.port + 1) (fun s => s.modClk (fun c => { c with master := m.master, masterE2 := m.e2 }))

/-- The port of a message is the best source where the other port is silent (R428). -/
theorem heardPtp_bestSrc {s : State} {m : PtpMsg} (hon : (s.raw gTIM 20).getLsbD m.port = true) (hlen : s.clk.srcSeen.length = 6)
    (hsilent : s.srcOk (2 - m.port) = false) : (s.heardPtp m).bestSrc = m.port + 1 := by
  have hport : m.port < 2 := by unfold PtpMsg.port; split <;> decide
  have hin : m.port < s.clk.srcSeen.length := by omega
  have hown : (s.heardPtp m).srcOk (m.port + 1) = true := srcOk_of_heard hon (by simp [State.heardPtp, State.now, hin])
  have hother : (s.heardPtp m).srcOk (2 - m.port) = false := by
    rw [← hsilent]
    refine srcOk_congr rfl ?_ rfl
    simp only [State.heardPtp, modClk_clk, List.getElem?_set]
    split
    · omega
    · rfl
  have hports : m.port = 0 ∨ m.port = 1 := by omega
  rcases hports with hp | hp
  · rw [hp] at hown hother ⊢
    exact bestSrc_eq_one hown hother
  · rw [hp] at hown hother ⊢
    have hbest : (s.heardPtp m).ptpBest = 2 := if_pos (by rw [show (s.heardPtp m).srcOk 1 = false from hother, show (s.heardPtp m).srcOk 2 = true from hown]; rfl)
    rw [State.bestSrc, hbest, List.find?_cons_of_pos hown]
    rfl

/-- A good PTP message is heard, followed and measured; it may also give the UTC offset (R428, R436). -/
theorem ptpMessage_eq {s : State} {m : PtpMsg} (hgood : s.ptpGood m = true) (hother : s.ptpOther m = false) :
    ∃ anew o v, execPtpMessage m s = .next (((s.followPtp m).timeFrom (m.port + 1) m.offset m.frac anew).modClk
      (fun c => { c with utcOff := o, utcValid := v })) := by
  unfold execPtpMessage
  simp only [hgood, hother, Bool.not_true, Bool.or_self, Bool.false_eq_true, if_false]
  refine ⟨s.clk.master != m.master || s.clk.masterE2 != m.e2, ?_⟩
  split
  · split
    · exact ⟨_, _, rfl⟩
    · exact ⟨_, _, rfl⟩
  · exact ⟨_, _, rfl⟩

theorem followPtp_spec (s : State) (m : PtpMsg) : Measured s (s.followPtp m) ∧ Unstepped s (s.followPtp m) ∧
    (s.followPtp m).clk.ptpM = s.clk.ptpM.set m.port (m.master, m.rank) ∧
    (s.followPtp m).clk.srcSeen = s.clk.srcSeen.set m.port (some s.clk.tai) := by
  unfold State.followPtp
  have hheard : Measured s (s.heardPtp m) := measured_modClk s rfl
  cases (s.heardPtp m).bestSrc == m.port + 1
  · rw [when_false]
    exact ⟨hheard, ⟨rfl, rfl, rfl, rfl, rfl⟩, rfl, rfl⟩
  · rw [when_true]
    exact ⟨hheard.trans (measured_modClk _ rfl), ⟨rfl, rfl, rfl, rfl, rfl⟩, rfl, rfl⟩

/-- A change of the UTC offset. -/
theorem measured_utc (s : State) (o : Int) (v : Bool) : Measured s (s.modClk (fun c => { c with utcOff := o, utcValid := v })) :=
  measured_modClk s rfl

/-- A PTP message that is used is a measurement of its port's source. -/
theorem ptpMessage_spec {s : State} {m : PtpMsg} (hgood : s.ptpGood m = true) (hother : s.ptpOther m = false)
    (hlen : s.clk.srcSeen.length = 6) (hports : s.clk.ptpM.length = 2) :
    ∃ t, execPtpMessage m s = .next t ∧ Measured s t ∧ t.clk.ptpM[m.port]? = some (m.master, m.rank) ∧
      t.clk.srcSeen[m.port]? = some (some s.now) ∧
      (s.srcOk (2 - m.port) = false → t.clk.master = m.master ∧ t.clk.masterE2 = m.e2) ∧
      (s.running = true ∨ m.offset.natAbs ≤ s.pn gTIM 24 → Unstepped s t) := by
  have hport : m.port < 2 := by unfold PtpMsg.port; split <;> decide
  obtain ⟨hup, hon⟩ : s.up = true ∧ (s.raw gTIM 20).getLsbD m.port = true := by
    simp only [State.ptpGood, Bool.and_eq_true] at hgood
    obtain ⟨⟨⟨⟨⟨⟨hup, -⟩, -⟩, hon⟩, -⟩, -⟩, -⟩ := hgood
    exact ⟨hup, hon⟩
  obtain ⟨anew, o, v, heq⟩ := ptpMessage_eq hgood hother
  obtain ⟨hfollow, hstill, hptpM, hseen⟩ := followPtp_spec s m
  have hbeside := hfollow.beside
  have hup' : (s.followPtp m).up = true := by obtain ⟨_, _, _, _, _, _, h⟩ := hbeside; rw [State.up, hstill.2.2.1]; exact hup
  have hon' : ((s.followPtp m).raw gTIM 20).getLsbD (m.port + 1 - 1) = true := by
    obtain ⟨_, _, _, _, _, _, h⟩ := hbeside
    rw [h]
    exact hon
  obtain ⟨hmeas, hheard, hkept⟩ := timeFrom_spec (code := m.port + 1) m.offset m.frac anew hup' hon'
  simp only [Clk.heard, Prod.mk.injEq] at hheard
  obtain ⟨hS, hP, hM, hE, -⟩ := hheard
  refine ⟨_, heq, (hfollow.trans hmeas).trans (measured_utc _ o v), ?_, ?_, fun hsilent => ?_, fun hlimit => ?_⟩
  · have hin : m.port < s.clk.ptpM.length := by omega
    show ((s.followPtp m).timeFrom _ _ _ _).clk.ptpM[m.port]? = _
    rw [hP]
    show (s.followPtp m).clk.ptpM[m.port]? = _
    simp [hptpM, hin]
  · have hin : m.port < s.clk.srcSeen.length := by omega
    show ((s.followPtp m).timeFrom _ _ _ _).clk.srcSeen[m.port]? = _
    rw [hS]
    simp [State.hears, hseen, hin, hstill.1, State.now]
  · have hbest := heardPtp_bestSrc hon hlen hsilent
    have hfollowed : (s.followPtp m).clk.master = m.master ∧ (s.followPtp m).clk.masterE2 = m.e2 := by
      simp [State.followPtp, hbest]
    exact ⟨hM.trans hfollowed.1, hE.trans hfollowed.2⟩
  · refine (hstill.trans (hkept ?_)).trans ⟨rfl, rfl, rfl, rfl, rfl⟩
    have hsame : (s.followPtp m).running = s.running ∧ (s.followPtp m).pn gTIM 24 = s.pn gTIM 24 := by
      obtain ⟨_, _, _, _, _, _, h⟩ := hbeside
      refine ⟨by rw [State.running, hstill.2.2.1]; rfl, by rw [h]; rfl⟩
    rwa [hsame.1, hsame.2]

/-! ### IRIG-B and PPS (R428, R437, R438) -/

/-- A DC level shift code of an enabled source is heard; without PPS edges it is a measurement of source 4. -/
theorem irigbFrame_spec {s : State} {i : IrigCode} {pps : Bool} (hup : s.up = true) (hlen : s.clk.srcSeen.length = 6)
    (hon : (s.raw gTIM 20).getLsbD (if pps then 2 else 3) = true) (ham : i.am = false) (hcode : i.code ≤ 7) :
    ∃ t, execIrigbFrame i pps s = .next t ∧ Measured s t ∧ t.clk.srcSeen[if pps then 2 else 3]? = some (some s.now) ∧
      (i.leap = true → t.clk.leapArmed = true) ∧
      (s.running = true ∨ (s.irigOff i).natAbs ≤ s.pn gTIM 24 → Unstepped s t) := by
  have hon' : (s.raw gTIM 20).getLsbD ((if pps then 3 else 4) - 1) = true := by cases pps <;> exact hon
  have hcond : ¬(!(s.up && (s.raw gTIM 20).getLsbD ((if pps then 3 else 4) - 1)) || i.am || decide (7 < i.code)) = true := by
    simp [hup, hon', ham, hcode]
  unfold execIrigbFrame
  refine ⟨_, congrArg Host.Outcome.next (if_neg hcond), ?_⟩
  cases pps with
  | true =>
    have hphase : Measured s (s.modClk (fun c => { c with srcSeen := c.srcSeen.set 2 (some c.tai), irigOff := s.irigOff i })) :=
      measured_modClk s rfl
    refine ⟨hphase.trans (measured_modClk _ rfl), ?_, fun hl => ?_, fun _ => ⟨rfl, rfl, rfl, rfl, rfl⟩⟩
    · show (s.clk.srcSeen.set 2 (some s.clk.tai))[2]? = _
      simp [hlen, State.now]
    · show (_ || i.leap) = true
      simp [hl]
  | false =>
    obtain ⟨hmeas, hheard, hkept⟩ := timeFrom_spec (code := 4) (s.irigOff i) 0 false hup hon
    have hseen : (s.timeFrom 4 (s.irigOff i) 0 false).clk.srcSeen = (s.hears 4).clk.srcSeen := congrArg (fun h => h.1) hheard
    refine ⟨hmeas.trans (measured_modClk _ rfl), ?_, fun hl => ?_, fun hlimit => (hkept hlimit).trans ⟨rfl, rfl, rfl, rfl, rfl⟩⟩
    · show (s.timeFrom 4 (s.irigOff i) 0 false).clk.srcSeen[3]? = _
      rw [hseen]
      simp [State.hears, hlen, State.now]
    · show (_ || i.leap) = true
      simp [hl]

/-- An edge under source 5 counts the second of TIM.050 on and is a measurement (R438). -/
theorem ppsInEdge_spec {s : State} {e : TimeMeas} {sec : Int} (hup : s.up = true) (hlen : s.clk.srcSeen.length = 6)
    (hset : s.clk.setTai = some sec) (hon : (s.raw gTIM 20).getLsbD 4 = true) :
    ∃ t, execPpsInEdge e s = .next t ∧ Measured s t ∧ t.clk.setTai = some (sec + 1000000000) ∧ t.clk.srcSeen[4]? = some (some s.now) ∧
      (s.running = true → Unstepped s t) := by
  let u := s.modClk (fun c => { c with setTai := some (sec + 1000000000) })
  have hu : Measured s u := measured_modClk s rfl
  obtain ⟨off, hpps⟩ : ∃ off, s.ppsSet (e.offset + s.pn gTIM 33) e.frac = u.timeFrom 5 off e.frac false := by
    simp only [State.ppsSet, hset]
    exact ⟨_, rfl⟩
  obtain ⟨hmeas, hheard, hkept⟩ := timeFrom_spec (s := u) (code := 5) off e.frac false hup hon
  have hsec : (u.hears 5).clk.setTai = some (sec + 1000000000) := rfl
  have hseen : (u.hears 5).clk.srcSeen[4]? = some (some s.now) := by simp [u, State.hears, hlen, State.now]
  unfold execPpsInEdge
  simp only [hup, Bool.not_true, Bool.false_eq_true, if_false, hpps]
  split
  · obtain ⟨hmeas3, hheard3, hkept3⟩ := measureTime_spec (u.timeFrom 5 off e.frac false) 3
      ((u.timeFrom 5 off e.frac false).ppsOff (e.offset + s.pn gTIM 33)) e.frac false
    refine ⟨_, rfl, (hu.trans hmeas).trans hmeas3, ?_, ?_, fun hrun => ?_⟩
    · exact (congrArg (fun h => h.2.2.2.2) (hheard3.trans hheard)).trans hsec
    · exact (congrArg (fun h => h.1[4]?) (hheard3.trans hheard)).trans hseen
    · have hstill := hkept (.inl hrun)
      refine hstill.trans (hkept3 (.inl ?_))
      rw [State.running, hstill.2.2.1]
      exact hrun
  · refine ⟨_, rfl, hu.trans hmeas, ?_, ?_, fun hrun => hkept (.inl hrun)⟩
    · exact (congrArg (fun h => h.2.2.2.2) hheard).trans hsec
    · exact (congrArg (fun h => h.1[4]?) hheard).trans hseen

/-- What a measurement changes is a change of these records. -/
theorem Measured.eq {s t : State} (h : Measured s t) :
    t = { s with clk := t.clk, sys := t.sys, peat := t.peat, pub := t.pub, meas := t.meas, arm := t.arm } := by
  obtain ⟨⟨_, _, _, _, _, _, rfl⟩, -⟩ := h
  rfl

/-- Settles O24: each message is a measurement of its source, or leaves the state. -/
theorem timeMeasurementsKeepLimits : Obligations.TimeMeasurementsKeepLimits := by
  intro s m i e hup hlen hlo hhi
  refine ⟨fun hgood => ⟨fun hother => ?unused, fun hother hports => ?ptp⟩, fun pps hon ham hcode => ?irig, fun sec hset _ hon => ?pps⟩
  case unused =>
    simp [exec, execPtpMessage, hother]
  case ptp =>
    obtain ⟨t, hexec, hmeas, hm, hseen, hmaster, hkept⟩ := ptpMessage_spec hgood hother hlen hports
    exact ⟨t, hexec, hmeas.eq, hm, hseen, hmaster, hkept, hmeas.rate ⟨hlo, hhi⟩⟩
  case irig =>
    obtain ⟨t, hexec, hmeas, hseen, hleap, hkept⟩ := irigbFrame_spec hup hlen hon ham hcode
    exact ⟨t, hexec, hmeas.eq, hseen, hleap, hkept, hmeas.rate ⟨hlo, hhi⟩⟩
  case pps =>
    obtain ⟨t, hexec, hmeas, hsec, hseen, hkept⟩ := ppsInEdge_spec (e := e) hup hlen hset hon
    exact ⟨t, hexec, hmeas.eq, hsec, hseen, hkept, hmeas.rate ⟨hlo, hhi⟩⟩

/-! ### States of station time (R428, R429, R434, R437, R439) -/

/-- Without an available source there is no best one (R428). -/
theorem bestSrc_eq_zero {s : State} (h : ∀ j, s.srcOk j = false) : s.bestSrc = 0 := by
  simp [State.bestSrc, h]

/-- A source that is no longer heard is not available; the others are as before (R428). -/
theorem srcOk_unheard {s : State} (k : Nat) (h : ∀ j, s.srcOk j = false) (j : Nat) :
    (s.modClk (fun c => { c with srcSeen := c.srcSeen.set (k - 1) none })).srcOk j = false := by
  by_cases hj : j - 1 = k - 1
  · have hnone : (s.clk.srcSeen.set (k - 1) none).getD (j - 1) none = none := by
      by_cases hin : k - 1 < s.clk.srcSeen.length <;> simp [List.getD, hj, hin]
    unfold State.srcOk
    simp [-List.getD_eq_getElem?_getD, hnone]
  · rw [← h j]
    exact srcOk_congr rfl (by simp [Ne.symm hj]) rfl

/-- The mean rate is a matter of its history (R429). -/
theorem rhoMean_srcSeen (c : Clk) (l : List (Option Nat)) : ({ c with srcSeen := l } : Clk).rhoMean = c.rhoMean := by
  simp only [Clk.rhoMean]

/-- Station time without a source goes on at the rate given (R429). -/
theorem unsourced_fields (c : Clk) (r : Int) (t : TState) :
    let d : Clk := { (c.setRho r).setState t with source := 0, rateLimited := false }
    d.tstate = t ∧ d.source = 0 ∧ d.rho = r ∧ d.tai = c.tai ∧ d.frame = c.frame := ⟨rfl, rfl, rfl, rfl, rfl⟩

/-- Settles O26: each event, where it is due, is a change of the clock record. -/
theorem stationTimeStates : Obligations.StationTimeStates := by
  intro s
  refine ⟨fun hup hacq hgood => ?locked, fun k hup hk1 hk6 hseen hgone hsrc hlocked hnone => ?lost, fun hup hhold hdue => ?expired,
    fun hup harmed => ?leap, fun hup hdriven hrise => ?rise, fun hfree => ?free, fun hup hhigh hdue => ?fall⟩
  case locked =>
    refine ⟨s.modClk (fun c => c.setState .locked), ?_, rfl, rfl, rfl, rfl, rfl⟩
    simp [exec, execTimeLocked, hup, hacq, hgood]
  case lost =>
    let u := s.modClk (fun c => { c with srcSeen := c.srcSeen.set (k - 1) none })
    have hbest : u.bestSrc = 0 := bestSrc_eq_zero (srcOk_unheard k hnone)
    obtain ⟨hstate, hsource, hrho, htai, hframe⟩ := unsourced_fields u.clk u.clk.rhoMean .holdover
    refine ⟨u.modClk (fun c => { ((c.setRho c.rhoMean).setState .holdover) with source := 0, rateLimited := false }), ?run, rfl, hstate,
      hsource, hrho.trans (rhoMean_srcSeen s.clk _), htai, hframe⟩
    have hcond : (s.up && decide (1 ≤ k ∧ k ≤ 6) && (s.clk.srcSeen.getD (k - 1) none).isSome && !s.srcOk k) = true := by
      rw [hup, hseen, hgone]
      simp [hk1, hk6]
    show execTimeSourceLost k s = _
    unfold execTimeSourceLost
    rw [if_pos hcond]
    have hsame : ¬(u.clk.source != k) = true := by simp [u, hsrc]
    have hnobest : ¬(u.bestSrc != 0) = true := by simp [hbest]
    have hwas : (u.clk.tstate == .locked) = true := by simp [u, hlocked]
    exact congrArg Host.Outcome.next ((if_neg hsame).trans ((if_neg hnobest).trans (if_pos hwas)))
  case expired =>
    refine ⟨(s.modClk (fun c => c.setState .free)).rcSet 201 0 10, ?_, rfl, rfl, rfl, rfl, rcBit_rcSet _ 201 0 10 (by decide)⟩
    simp [exec, execHoldoverExpired, hup, hhold, hdue]
  case leap =>
    refine ⟨(s.audit 0x51 {} 1 s.clk.utcOff (s.clk.utcOff + 1)).modClk (fun c =>
      { c with leapArmed := false, leapPending := true, utcOff := c.utcOff + 1 }), ?_, ?_, rfl⟩
    · simp [exec, execLeapSecond, hup, harmed]
    · exact (audit_spec s 0x51 {} 1 s.clk.utcOff (s.clk.utcOff + 1)).1
  case rise =>
    have hnew : s.clk.ppsRise ≠ s.now / 1000000000 * 1000000000 := Nat.ne_of_lt hrise
    rcases hdriven with h | h <;> simp [exec, execPpsOut, hup, h, hnew, State.modClk]
  case free =>
    rcases hfree with h | h <;> simp [exec, execPpsOut, h]
  case fall =>
    simp [exec, execPpsOut, hup, hhigh, hdue, State.modClk]

end Sys2Proof.Machine
end

section
/-!
SUPPORT. Commands of the mailbox: what a record, a carried command and the end of a session change, and what a command's step answers; then
doorbells, connections and sessions (R451 to R459), with the statements about them.
-/
namespace Sys2Proof.Machine
open Sys2Proof

/-! ### Records of the log (R508) -/

/-- The parts that a record of the log touches, named. -/
theorem SameButLog.parts {s t : State} (h : SameButLog s t) : ∃ l n o k u, t = { s with
    sys := { s.sys with log := l, seqNo := n, logOver := o }, peat := { s.peat with pageN := k, pageT := u } } := ⟨_, _, _, _, _, h⟩

theorem SameButLog.refl (s : State) : SameButLog s s := rfl

theorem SameButLog.trans {s t u : State} (h : SameButLog s t) (k : SameButLog t u) : SameButLog s u := by
  obtain ⟨_, _, _, _, _, rfl⟩ := h.parts
  obtain ⟨_, _, _, _, _, rfl⟩ := k.parts
  rfl

/-- The records of one event touch nothing but the log, however many they are. -/
theorem audit_sameButLog (s : State) (ty : Nat) (w : Who) (subj : Nat) (old new detail : Int) (result : Nat) (more : List Reason)
    (vals : List (List Int)) : SameButLog s (s.audit ty w subj old new detail result more vals) :=
  forAll_invariant (SameButLog.refl s) fun _ _ h => h.trans (logPush_spec _ _).2

/-- An event without reason names or further values leaves one record. -/
theorem audit_loggedOne (s : State) (ty : Nat) (w : Who) (subj : Nat) (old new detail : Int) (result : Nat) :
    LoggedOne s (s.audit ty w subj old new detail result) ty := (logPush_spec _ _).1

/-- An event raises the sequence number of the log. -/
theorem audit_seqNo (s : State) (ty : Nat) (w : Who) (subj : Nat) (old new detail : Int) (result : Nat) (more : List Reason)
    (vals : List (List Int)) : s.sys.seqNo < (s.audit ty w subj old new detail result more vals).sys.seqNo := by
  have hpush : ∀ (u : State) (r : Audit), u.sys.seqNo < (u.logPush r).sys.seqNo := fun u _ => Nat.lt_succ_self u.sys.seqNo
  show s.sys.seqNo < (State.sys (forAll (List.zipIdx _ 1) _ (s.logPush _))).seqNo
  exact forAll_invariant (P := fun t => s.sys.seqNo < t.sys.seqNo) (hpush s _) fun u _ h => Nat.lt_trans h (hpush u _)

theorem audit_mbx (s : State) (ty : Nat) (w : Who) (subj : Nat) (old new detail : Int) (result : Nat) (more : List Reason)
    (vals : List (List Int)) : (s.audit ty w subj old new detail result more vals).mbx = s.mbx :=
  by rw [audit_sameButLog s ty w subj old new detail result more vals]

/-- Where only the log and then only the mailbox changed, the frame of a logged command holds. -/
theorem SameButLog.logFrame {s v t : State} (h : SameButLog s v) (ht : t = { v with mbx := t.mbx }) : LogFrame s t := by
  obtain ⟨_, _, _, _, _, rfl⟩ := h.parts
  rw [LogFrame, ht]

theorem MailboxStep.of_mbx {s u t : State} {ch : Nat} (h : MailboxStep u t ch) (hu : u.mbx = s.mbx) : MailboxStep s t ch := by
  unfold MailboxStep at h ⊢
  rwa [hu] at h

/-! ### Commands carried to a shadow (R330) -/

/-- A carried command is all that changes. -/
theorem carryCmd_spec (s : State) (op : Nat) (a : Author) (at_ addr : Nat) (ws : List Word) (e : Nat) :
    Carried s (s.carryCmd op a at_ addr ws e) op ∧
      ∃ l, s.carryCmd op a at_ addr ws e = { s with twin := { s.twin with acts := l } } := by
  unfold State.carryCmd
  split
  case isTrue h =>
    have ⟨hp, hn⟩ : s.pb gTWN 1 = true ∧ s.twin.shadow = false := by simpa using h
    exact ⟨⟨fun _ _ => ⟨_, rfl, rfl⟩, fun h' => by simp [hp, hn] at h'⟩, _, rfl⟩
  case isFalse h => exact ⟨⟨fun hp hn => absurd (by simp [hp, hn]) h, fun _ => rfl⟩, s.twin.acts, rfl⟩

/-- What is carried is judged by the parameters and the pair's record alone. -/
theorem Carried.congr {s s' t t' : State} {op : Nat} (h : Carried s t op) (hp : s'.par = s.par) (hs : s'.twin = s.twin)
    (ht : t'.twin = t.twin) : Carried s' t' op := by
  have hb : s'.pb gTWN 1 = s.pb gTWN 1 := congrArg (· != 0) (raw_of_par hp (by decide) 1 0)
  unfold Carried at h ⊢
  rwa [hb, hs, ht]

/-! ### A command's step (R451, R455) -/

/-- A command's step in terms of what its meaning makes of the state. -/
theorem command_spec {s : State} {ch op : Nat} {q : Req} {f : State → Req → Author → State × Reply} (h : s.executing ch op q)
    (hm : s.mute = false ∨ op = 1) {u : State} {r : Reply} (hf : f s q (s.author ch q) = (u, r)) (hl : ch < u.mbx.chans.length) :
    let t := s.command ch op f
    t = { u with mbx := t.mbx } ∧ MailboxStep u t ch ∧
      t.chan ch = (u.chan ch).finished u.now (u.onPcie ch) (u.chan ch).drop q r.st (respOf q r.st ((u.sessOf ch q).map (·.key)) r.pay) true := by
  have ht : s.command ch op f = (u.finish ch q r.st r.pay true).resume := by
    rw [command_eq s ch op q f h hm, hf]; rfl
  simp only [ht]
  exact finish_resume_spec u ch q r.st r.pay true hl

/-- The answer of a command whose meaning changes the channel in parts that bear on no response. -/
theorem command_answered {s : State} {ch op : Nat} {q : Req} {f : State → Req → Author → State × Reply} (h : s.executing ch op q)
    (hm : s.mute = false ∨ op = 1) {u : State} {r : Reply} (hf : f s q (s.author ch q) = (u, r)) (hl : ch < u.mbx.chans.length)
    (hk : (u.sessOf ch q).map (·.key) = (s.sessOf ch q).map (·.key)) (hd : (u.chan ch).drop = (s.chan ch).drop) :
    Answered s (s.command ch op f) ch q r.st r.pay := by
  have ht : s.command ch op f = (u.finish ch q r.st r.pay true).resume := by
    rw [command_eq s ch op q f h hm, hf]; rfl
  rw [ht]
  exact answered_of s u ch q r.st r.pay true hl hk hd

/-- A command that leaves its record (R508): beside what its meaning does to the state, the log grows, by one record where no reason is
named, and the request completes. -/
theorem recorded_answers {s : State} {ch op : Nat} {q : Req} {f : State → Req → Author → State × Reply} (h : s.executing ch op q)
    (hm : s.mute = false) {u : State} {r : Reply} {ty : Nat} {w : Who} {subj : Nat} {old new detail : Int} {result : Nat}
    (hf : f s q (s.author ch q) = (u.audit ty w subj old new detail result r.why.toList, r)) (hu : u.mbx.chans = s.mbx.chans) :
    let t := s.command ch op f
    LogFrame u t ∧ t.sys.xfer = u.sys.xfer ∧ MailboxStep u t ch ∧ Answered s t ch q r.st r.pay ∧ (r.why = none → LoggedOne u t ty) := by
  obtain ⟨v, hv⟩ : ∃ v, v = u.audit ty w subj old new detail result r.why.toList := ⟨_, rfl⟩
  rw [← hv] at hf
  have hsame : SameButLog u v := hv ▸ audit_sameButLog ..
  have hmbx : v.mbx = u.mbx := hv ▸ audit_mbx ..
  obtain ⟨ht, hstep, hans⟩ := command_answers s ch op q _ h (.inl hm) v r hf ((congrArg Mbx.chans hmbx).trans hu)
  have hsys : (s.command ch op f).sys = v.sys := by rw [ht]
  refine ⟨hsame.logFrame ht, by rw [hsys, hsame], hstep.of_mbx hmbx, hans, fun hw => ?_⟩
  have hone : LoggedOne u v ty := by
    rw [hw] at hv
    exact hv ▸ audit_loggedOne ..
  unfold LoggedOne at hone ⊢
  rwa [hsys]

/-- The same of a command whose record is of type 0x02. -/
theorem logged_answers {s : State} {ch op : Nat} {q : Req} {f : State → Req → Author → State × Reply} (h : s.executing ch op q)
    (hm : s.mute = false) {u : State} {r : Reply} (hf : f s q (s.author ch q) = (u, r)) (hu : u.mbx.chans = s.mbx.chans) :
    let t := s.command ch op (State.logged f)
    LogFrame u t ∧ t.sys.xfer = u.sys.xfer ∧ MailboxStep u t ch ∧ Answered s t ch q r.st r.pay ∧ (r.why = none → LoggedOne u t 0x02) := by
  have hg : State.logged f s q (s.author ch q) = (u.audit 0x02 (s.whoAct (s.author ch q).ch (s.author ch q).sess (s.author ch q).cred) q.op
      0 0 0 r.st.code r.why.toList, r) := by simp only [State.logged, hf]
  exact recorded_answers h hm hg hu

/-- One record on top of a state whose log is that of `s`. -/
theorem LoggedOne.of_log {s u t : State} {ty : Nat} (h : LoggedOne u t ty) (hl : u.sys.log = s.sys.log) (hn : u.sys.seqNo = s.sys.seqNo) :
    LoggedOne s t ty := by
  unfold LoggedOne at h ⊢
  rwa [hl, hn] at h

/-- A completion by itself, before preempted requests go on. -/
theorem finish_answers (s : State) (ch : Nat) (q : Req) (st : Status) (pay : List Byte) (count : Bool) (h : ch < s.mbx.chans.length) :
    let t := s.finish ch q st pay count
    t = { s with mbx := t.mbx } ∧ MailboxStep s t ch ∧ Answered s t ch q st pay ∧
      t.chan ch = (s.chan ch).finished s.now (s.onPcie ch) (s.chan ch).drop q st (respOf q st ((s.sessOf ch q).map (·.key)) pay) count := by
  obtain ⟨m, i, v, ht⟩ := finish_spec s ch q st pay count h
  have hc := chan_of_some (s.finish ch q st pay count) ch _ (by rw [ht]; exact modify_at s.mbx.chans ch _ _ (chan_at s ch h))
  have hp : (s.finish ch q st pay count).onPcie ch = s.onPcie ch := by rw [ht]; rfl
  refine ⟨by rw [ht], ⟨by rw [ht], by rw [ht]; exact map_modify ..⟩, ⟨by rw [hc]; rfl, by rw [hc]; rfl, by rw [hc]; rfl, fun hd => ?_⟩, hc⟩
  rw [hc, hp]
  simp [Chan.finished, Chan.closed, hd]

/-! ### Doorbells (R451 to R453) -/

theorem updChan_eq (s : State) (ch : Nat) (f : Chan → Chan) : s.updChan ch f = { s with mbx := { s.mbx with chans := s.mbx.chans.modify ch f } } :=
  rfl

/-- The word that clears DONE and leaves LATE_REFUSED. -/
theorem done_bits : (bitAt true 2).getLsbD 2 = true ∧ (bitAt true 2).getLsbD 5 = false := by decide

/-- Settles O32: each register write is one change of its channel, and ABORT is a completion. -/
theorem doorbellAbortAndDoneClear : Obligations.DoorbellAbortAndDoneClear := by
  intro s ch c hup hpc hlen hc
  have hch := chan_of_some s ch c hc
  have hlt : ch < s.mbx.chans.length := (List.getElem?_eq_some_iff.mp hc).1
  refine ⟨fun v hq he hd h32 h4096 => ?taken, fun v hbad => ?counted, fun q hq hreq => ?withdrawn, fun hq => ?idle, ?cleared⟩
  case taken =>
    refine ⟨s.updChan ch (fun c => { c with queued := true, req := some (reqOf (padTo (v.toNat % 8192) c.buf) s.now) }), ?_, rfl,
      onlyAt_modify .., modify_at _ _ _ _ hc⟩
    simp [exec, execMbDoorbell, State.doorbell, hup, hpc, hch, hq, he, hd, Nat.not_lt.mpr h32, Nat.not_lt.mpr h4096]
  case counted =>
    have hcond : (c.queued || c.exec_ || c.done_ || decide (v.toNat % 8192 < 32) || decide (4096 < v.toNat % 8192)) = true := by
      simpa [or_assoc] using hbad
    simp [exec, execMbDoorbell, State.doorbell, hup, hpc, hch, hcond, State.modMbx]
  case withdrawn =>
    obtain ⟨ht, hstep, hans, -⟩ := finish_answers s ch q .aborted [] false hlt
    exact ⟨_, by simp [exec, execAbort, State.abortReq, hup, hch, hq, hreq], ht, hstep, hans⟩
  case idle =>
    refine congrArg Host.Outcome.next ?_
    unfold State.abortReq
    rw [hch]
    cases c.req with
    | none => rfl
    | some q => simp [hq]
  case cleared =>
    refine ⟨s.updChan ch (fun c => { c with done_ := false, respLen := 0 }), ?_, rfl, onlyAt_modify .., modify_at _ _ _ _ hc⟩
    simp only [exec, execDoneClear, State.statusClear, hup, if_true, done_bits, Bool.not_true, Bool.and_false, Bool.not_false, Bool.and_true]

/-! ### The end of a session (R454, R459, R482) -/

/-- A channel without a session stays as it is. -/
theorem sessionClose_none {s : State} {ch : Nat} (why : Nat) (h : (s.chan ch).sess = none) : s.sessionClose ch why = s := by
  simp [State.sessionClose, h]

/-- The open transfer once the session of channel `ch` has ended. -/
def xferWithout (ch : Nat) (x : Option Xfer) : Option Xfer := match x with | some y => if y.ch == ch then none else some y | none => none

/-- A session that ends leaves one record and takes the transfer of its channel with it. -/
theorem sessionClose_some {s : State} {ch : Nat} {x : Sess} (why : Nat) (h : (s.chan ch).sess = some x) :
    ∃ v, SameButLog s v ∧ LoggedOne s v 0x03 ∧ s.sessionClose ch why = { v with
      mbx := { s.mbx with chans := s.mbx.chans.modify ch (fun c => { c with sess := none }) }
      sys := { v.sys with xfer := xferWithout ch s.sys.xfer } } := by
  obtain ⟨v, hv⟩ : ∃ v, v = s.audit 0x03 (s.whoOf ch) 0 0 0 why := ⟨_, rfl⟩
  have hsame : SameButLog s v := hv ▸ audit_sameButLog ..
  refine ⟨v, hsame, hv ▸ audit_loggedOne .., ?_⟩
  have hx : v.sys.xfer = s.sys.xfer := by rw [hsame]
  have hm : v.mbx = s.mbx := by rw [hsame]
  unfold State.sessionClose
  rw [h]
  dsimp only
  rw [← hv, updChan_eq, hm, ← hx]
  cases hy : v.sys.xfer with
  | none =>
    obtain ⟨_, _, _, _, _, rfl⟩ := hsame.parts
    simp only at hy
    simp only [hy, xferWithout]
  | some y =>
    obtain ⟨_, _, _, _, _, rfl⟩ := hsame.parts
    simp only at hy
    simp only [hy, xferWithout]
    split <;> simp_all [State.modSys]

theorem onlyAt_modify_modify {α : Type} (l : List α) (k : Nat) (f g : α → α) : OnlyAt k l ((l.modify k f).modify k g) := by
  rw [modify_modify]
  exact onlyAt_modify ..

/-- Settles O33: a connection and its request are one change of the channel each; its end closes the session first. -/
theorem e1ConnectionsCarryRequests : Obligations.E1ConnectionsCarryRequests := by
  intro s ch c hup he1 hc
  have hch := chan_of_some s ch c hc
  refine ⟨fun hmod => ?opened, fun bytes hopen hq he => ?taken, fun hopen => ?closed⟩
  case opened =>
    exact ⟨s.updChan ch (fun c => { c with e1 := true }), by simp [exec, execE1ConnectionOpen, hup, he1, hmod], rfl, onlyAt_modify ..,
      modify_at _ _ _ _ hc⟩
  case taken =>
    exact ⟨s.updChan ch (fun c => { c with queued := true, req := some (reqOf bytes s.now) }),
      by simp [exec, execE1Request, hup, he1, hch, hopen, hq, he], rfl, onlyAt_modify .., modify_at _ _ _ _ hc⟩
  case closed =>
    have hexec : exec (.e1ConnectionClose ch) s = .next ((s.sessionClose ch 2).updChan ch (fun c => { c with e1 := false })) := by
      simp [exec, execE1ConnectionClose, State.e1Drop, hch, hopen]
    cases hs : c.sess with
    | none =>
      have hstay : s.sessionClose ch 2 = s := sessionClose_none 2 (hch ▸ hs)
      rw [hstay] at hexec
      refine ⟨_, hexec, rfl, rfl, onlyAt_modify .., ?_, fun _ => ⟨rfl, rfl⟩, fun _ h => nomatch h⟩
      rw [updChan_mbx, modify_at _ _ _ _ hc, ← hs]
    | some x =>
      obtain ⟨v, hsame, hone, hend⟩ := sessionClose_some 2 (hch ▸ hs : (s.chan ch).sess = some x)
      obtain ⟨_, _, _, _, _, rfl⟩ := hsame.parts
      rw [hend] at hexec
      refine ⟨_, hexec, rfl, rfl, onlyAt_modify_modify .., ?_, fun h => (nomatch h), fun _ _ => ⟨hone, rfl⟩⟩
      rw [updChan_mbx, modify_at _ _ _ _ (modify_at _ _ _ _ hc)]

/-- What ends a session in a channel leaves its answer. -/
theorem Answered.updChan {s t : State} {ch : Nat} {q : Req} {st : Status} {pay : List Byte} (h : Answered s t ch q st pay) {f : Chan → Chan}
    {u : State} (hu : u.chan ch = f (t.chan ch)) (hpar : u.par = t.par)
    (hf : ∀ c, (f c).exec_ = c.exec_ ∧ (f c).queued = c.queued ∧ (f c).req = c.req ∧ (f c).resp = c.resp ∧ (f c).done_ = c.done_) :
    Answered s u ch q st pay := by
  obtain ⟨hexec, hqueued, hreq, hresp, hdone⟩ := hf (t.chan ch)
  have hp : u.onPcie ch = t.onPcie ch := by simp only [State.onPcie, State.pn, raw_of_par hpar (g := gMBX) (by decide)]
  unfold Answered at h ⊢
  rwa [hu, hexec, hqueued, hreq, hresp, hdone, hp]

theorem MailboxStep.updChan {s t u : State} {ch : Nat} (h : MailboxStep s t ch) {f : Chan → Chan}
    (hu : u.mbx = { t.mbx with chans := t.mbx.chans.modify ch f }) : MailboxStep s u ch := by
  obtain ⟨hm, hlen, hat⟩ := h
  refine ⟨?_, ?_, fun j hj => ?_⟩
  · rw [hu, hm]
  · simpa [hu] using hlen
  · rw [hu, ← hat j hj]
    simp [Ne.symm hj]

theorem MailboxStep.length {s t : State} {ch : Nat} (h : MailboxStep s t ch) : t.mbx.chans.length = s.mbx.chans.length := by
  simpa using h.2.1

/-- A channel that ends its session, from the channel that answered CLOSE_SESSION. -/
theorem finished_sess (c : Chan) (now : Nat) (pcie drop : Bool) (q : Req) (st : Status) (resp : List Byte) (count : Bool) :
    (c.finished now pcie drop q st resp count).sess =
      c.sess.map (fun x => if count && q.sess != 0 && x.id == q.sess then { x with seq := q.seq, last := resp } else x) := rfl

/-- Settles O35: CLOSE_SESSION completes and then ends the session, as idle time does; the lockout is a change of its channel. -/
theorem sessionsEnd : Obligations.SessionsEnd := by
  intro s ch
  refine ⟨fun q hq hmute hpay => ?closed, fun c x hup hc hs hidle he => ?idle, fun c e hup hc hl he => ?unlocked⟩
  case closed =>
    have hlen : ch < s.mbx.chans.length := hq.2.2.1 ▸ hq.2.1
    obtain ⟨hu, hstep, hchan⟩ := command_spec hq (.inl hmute) (f := fun s _ _ => (s, {})) rfl hlen
    have hans := command_answered hq (.inl hmute) (f := fun s _ _ => (s, {})) rfl hlen rfl rfl
    obtain ⟨u, hdef⟩ : ∃ u, u = s.command ch 0x04 (fun s _ _ => (s, {})) := ⟨_, rfl⟩
    rw [← hdef] at hu hstep hchan hans
    have hexec : exec (.closeSession ch) s = .next (u.sessionClose ch 0) := by
      obtain ⟨-, -, -, hex, -, hreq, -⟩ := hq
      simp [exec, execCloseSession, hreq, hpay, ← hdef, hmute, hex, hans.1]
    have hlenu : ch < u.mbx.chans.length := hstep.length.symm ▸ hlen
    cases hs : (s.chan ch).sess with
    | none =>
      have hsu : (u.chan ch).sess = none := by rw [hchan, finished_sess, hs]; rfl
      rw [sessionClose_none 0 hsu] at hexec
      exact ⟨u, hexec, (SameButLog.refl s).logFrame hu, hstep, hans, hsu, fun h => absurd rfl h⟩
    | some x =>
      obtain ⟨y, hsu⟩ : ∃ y, (u.chan ch).sess = some y := ⟨_, by rw [hchan, finished_sess, hs]; rfl⟩
      obtain ⟨v, hsame, hone, hend⟩ := sessionClose_some 0 hsu
      obtain ⟨l, n, o, k, p, rfl⟩ := hsame.parts
      have hcu : (u.sessionClose ch 0).chan ch = { u.chan ch with sess := none } := by
        rw [hend]
        exact chan_of_some _ _ _ (modify_at _ _ _ _ (chan_at u ch hlenu))
      have hpar : (u.sessionClose ch 0).par = u.par := by rw [hend]
      have hframe : LogFrame s (u.sessionClose ch 0) := by
        rw [hend, LogFrame, hu]
      refine ⟨_, hexec, hframe, hstep.updChan (f := fun c => { c with sess := none }) (by rw [hend]),
        hans.updChan (f := fun c => { c with sess := none }) hcu hpar (fun _ => ⟨rfl, rfl, rfl, rfl, rfl⟩), by rw [hcu], fun _ => ?_⟩
      have hsys : u.sys = s.sys := by rw [hu]
      rw [hend]
      exact hone.of_sys hsys
  case idle =>
    have hch := chan_of_some s ch c hc
    obtain ⟨v, hsame, hone, hend⟩ := sessionClose_some 1 (hch ▸ hs : (s.chan ch).sess = some x)
    have hexec : exec (.sessionIdleTimeout ch) s = .next (s.sessionClose ch 1) := by
      simp [exec, execSessionIdleTimeout, hch, hs, hup, hidle, he]
    obtain ⟨_, _, _, _, _, rfl⟩ := hsame.parts
    rw [hend] at hexec
    exact ⟨_, hexec, rfl, hone, rfl, onlyAt_modify .., modify_at _ _ _ _ hc, rfl⟩
  case unlocked =>
    have hch := chan_of_some s ch c hc
    exact ⟨s.updChan ch (fun c => { c with lock := none, fails := 0 }), by simp [exec, execAuthLockoutEnd, hch, hl, hup, he], rfl,
      onlyAt_modify .., modify_at _ _ _ _ hc⟩

end Sys2Proof.Machine
end

section
/-!
SUPPORT. Requests, sessions, reads and writes of the mailbox (R449 to R466, R494, R495, R597): the choice of the request that starts, what a
session's opening leaves, waiting writes, registers; the statements about them.
-/
namespace Sys2Proof.Machine
open Sys2Proof

/-! ### DEBLOCK and HALT (R494, R495) -/

/-- The state in which a command has been accepted for the next supervisory boundary. -/
theorem acceptCmd_spec (s : State) (op : Nat) (a : Author) : ∃ u l, s.acceptCmd op a = (u, { st := .accepted, pay := p8 (s.nextSup s.fr) }) ∧
    Carried s u op ∧
    u = { s with par := { s.par with cmds := s.par.cmds ++ [(op, a.role, a.ch, s.nextSup s.fr)] }, twin := { s.twin with acts := l } } := by
  obtain ⟨hcar, l, hl⟩ := carryCmd_spec (s.modPar (fun p => { p with cmds := p.cmds ++ [(op, a.role, a.ch, s.nextSup s.fr)] })) op a
    (s.nextSup s.fr) 0 [] 0
  refine ⟨_, l, rfl, ?_, hl⟩
  unfold Carried at hcar ⊢
  exact hcar

theorem author_ch (s : State) (ch : Nat) (q : Req) : (s.author ch q).ch = ch := by
  unfold State.author
  split <;> rfl

/-- Settles O41: both commands record their answer, accepted for the boundary or refused with the reason that stands. -/
theorem deblockAndHaltAreAccepted : Obligations.DeblockAndHaltAreAccepted := by
  intro s ch q hmute hpay
  have accepted : ∀ op f, s.executing ch op q → f s q (s.author ch q) = s.acceptCmd op (s.author ch q) →
      let t := s.command ch op (State.logged f)
      LoggedOne s t 0x02 ∧ Carried s t op ∧ MailboxStep s t ch ∧ Answered s t ch q .accepted (p8 (s.nextSup s.fr)) ∧
        t.sys.st = s.sys.st ∧
        t = { s with par := { s.par with cmds := s.par.cmds ++ [(op, (s.author ch q).role, ch, s.nextSup s.fr)] }
                     twin := { s.twin with acts := t.twin.acts }, mbx := t.mbx, sys := t.sys, peat := t.peat } := by
    intro op f hq hf
    obtain ⟨u, l, hu, hcar, hdef⟩ := acceptCmd_spec s op (s.author ch q)
    rw [author_ch] at hdef
    obtain ⟨hlog, -, hstep, hans, hone⟩ := logged_answers hq hmute (hf.trans hu) (by rw [hdef])
    have hsys : u.sys = s.sys := by rw [hdef]
    refine ⟨(hone rfl).of_sys hsys, ?_, hstep.of_mbx (by rw [hdef]), hans, by rw [hlog, hdef], by rw [hlog, hdef]⟩
    unfold Carried at hcar ⊢
    rwa [hlog]
  have refused : ∀ op f r, s.executing ch op q → f s q (s.author ch q) = (s, refuse r) →
      let t := s.command ch op (State.logged f)
      LogFrame s t ∧ MailboxStep s t ch ∧ Answered s t ch q .refused r.bytes := by
    intro op f r hq hf
    obtain ⟨hlog, -, hstep, hans, -⟩ := logged_answers hq hmute hf rfl
    exact ⟨hlog, hstep, by simpa [refuse] using hans⟩
  refine ⟨fun hq hgo => ⟨_, rfl, accepted 0x30 _ hq ?_⟩, fun r hq hbad => ⟨_, rfl, refused 0x30 _ r hq ?_⟩,
    fun hq hrun => ?halt, fun hq hrun => ⟨_, rfl, refused 0x31 _ .mbxState hq ?_⟩, fun hst => ?state⟩
  · simp [hpay, hgo]
  · simp [hpay, hbad]
  case halt =>
    have hst : s.sys.st = .running := by simpa [State.running] using hrun
    exact ⟨_, rfl, hst ▸ accepted 0x31 _ hq (by simp [hpay, hrun])⟩
  · simp [hpay, hrun]
  case state => simp [State.deblockBad, hst]

/-! ### Sessions that open (R456, R457, R459) -/

theorem padTo_length (n : Nat) (l : List Byte) : (padTo n l).length = n := by
  simp [padTo]

theorem sroleRank_le (r : SRole) : r.rank ≤ 3 := by cases r <;> decide

/-- Outside a session no request has a key. -/
theorem sessOf_outside (s : State) (ch : Nat) {q : Req} (h : q.sess = 0) : s.sessOf ch q = none := by
  unfold State.sessOf
  cases (s.chan ch).sess <;> simp [h]

/-- A completion outside a session leaves the channel's session. -/
theorem finished_sess_outside (c : Chan) (now : Nat) (pcie drop : Bool) {q : Req} (h : q.sess = 0) (st : Status) (resp : List Byte)
    (count : Bool) : (c.finished now pcie drop q st resp count).sess = c.sess := by
  rw [finished_sess]
  simp [h]

/-- An attempt to open a session with the nonce used up and its record written: the channel and the log have changed. -/
theorem authenticated {s : State} {ch : Nat} {q : Req} (hq : s.executing ch 0x03 q) (hmute : s.mute = false) (hout : q.sess = 0)
    {u v : State} {r : Reply} {f : Chan → Chan} (hf : s.authenticate ch q = (v, r))
    (hsame : SameButLog u v) (hone : LoggedOne u v 0x03) {n : Nat} (hu : u = { s with mbx := { s.mbx with
      nonceN := n, chans := s.mbx.chans.modify ch f } }) (hdrop : ∀ c, (f c).drop = c.drop) :
    let t := s.command ch 0x03 (fun s q _ => s.authenticate ch q)
    LogFrame s t ∧ LoggedOne s t 0x03 ∧ Answered s t ch q r.st r.pay ∧ (t.chan ch).sess = (f (s.chan ch)).sess ∧
      (t.chan ch).nonce = (f (s.chan ch)).nonce ∧ (t.chan ch).fails = (if r.st == .authFail then (f (s.chan ch)).fails + 1 else 0) := by
  have hlen : ch < s.mbx.chans.length := hq.2.2.1 ▸ hq.2.1
  have hmbx : v.mbx = u.mbx := by rw [hsame]
  have hlenv : ch < v.mbx.chans.length := by simpa [hmbx, hu] using hlen
  have hchan : v.chan ch = f (s.chan ch) := by
    refine chan_of_some _ _ _ ?_
    rw [hmbx, hu]
    exact modify_at _ _ _ _ (chan_at s ch hlen)
  obtain ⟨ht, -, hc⟩ := command_spec hq (.inl hmute) (f := fun s q _ => s.authenticate ch q) hf hlenv
  have hans := command_answered hq (.inl hmute) (f := fun s q _ => s.authenticate ch q) hf hlenv
    (by rw [sessOf_outside _ _ hout, sessOf_outside _ _ hout]) ((congrArg Chan.drop hchan).trans (hdrop _))
  refine ⟨?_, ?_, hans, ?_, ?_, ?_⟩
  · obtain ⟨_, _, _, _, _, rfl⟩ := hsame.parts
    rw [LogFrame, ht, hu]
  · rw [ht]
    exact hone.of_sys (by rw [hu])
  · rw [hc, finished_sess_outside _ _ _ _ hout]
    exact congrArg Chan.sess hchan
  · rw [hc, hchan]; rfl
  · rw [hc, hchan]; rfl

/-- Settles O36: OPEN_SESSION keeps a nonce, AUTH_SESSION uses it up and opens a session on the MAC alone. -/
theorem sessionsOpenWithAGoodMac : Obligations.SessionsOpenWithAGoodMac := by
  intro s ch q hmute hout
  refine ⟨fun hq hpay hs => ?nonce, fun hq hpay hs => ?second, ?attempt⟩
  case nonce =>
    have hlt : ch < s.mbx.chans.length := hq.2.2.1 ▸ hq.2.1
    obtain ⟨f, n, u, hexec, hn, hf, hu⟩ : ∃ (f : State → Req → Author → State × Reply) (n : List Byte) (u : State),
        exec (.openSession ch) s = .next (s.command ch 0x02 f) ∧ n.length = 16 ∧ f s q (s.author ch q) = (u, { pay := n }) ∧
        u = { s with mbx := { s.mbx with nonceN := s.mbx.nonceN + 1, chans := s.mbx.chans.modify ch (fun c => { c with nonce := some n }) } } :=
      ⟨_, _, _, rfl, padTo_length 16 (Config.nonce s.mbx.nonceN), (if_neg (by simp [hpay])).trans (if_neg (by simp [hs])), rfl⟩
    have hchan : u.chan ch = { s.chan ch with nonce := some n } := by
      rw [hu]
      exact chan_of_some _ _ _ (modify_at _ _ _ _ (chan_at s ch hlt))
    have hltu : ch < u.mbx.chans.length := by simpa [hu] using hlt
    obtain ⟨ht, ⟨-, hstep⟩, hcu⟩ := command_spec hq (.inl hmute) hf hltu
    have hans := command_answered hq (.inl hmute) hf hltu (by rw [sessOf_outside _ _ hout, sessOf_outside _ _ hout]) (by rw [hchan])
    refine ⟨_, n, hexec, ?_, hn, hans, ?_, ?_, ?_⟩
    · rw [ht, hu]
    · rw [hcu]; exact congrArg Chan.nonce hchan
    · rw [hcu, finished_sess_outside _ _ _ _ hout, hchan]; exact hs
    · have hmap : OnlyAt ch (s.mbx.chans.map Chan.calm) (u.mbx.chans.map Chan.calm) := hu ▸ map_modify ..
      exact ⟨hstep.1.trans hmap.1, fun j hj => (hstep.2 j hj).trans (hmap.2 j hj)⟩
  case second =>
    have hlt : ch < s.mbx.chans.length := hq.2.2.1 ▸ hq.2.1
    obtain ⟨f, hexec, hf⟩ : ∃ f : State → Req → Author → State × Reply, exec (.openSession ch) s = .next (s.command ch 0x02 f) ∧
      f s q (s.author ch q) = (s, refuse .mbxSessionOpen) := ⟨_, rfl, by simp [hpay, Option.isSome_iff_ne_none.mpr hs]⟩
    obtain ⟨ht, hstep, hans⟩ := command_answers s ch 0x02 q f hq (.inl hmute) s _ hf rfl
    obtain ⟨-, -, hc⟩ := command_spec hq (.inl hmute) hf hlt
    exact ⟨_, hexec, ht, hstep, by simpa [refuse] using hans, by rw [hc]; rfl⟩
  case attempt =>
    intro c n hq hlen hs hn hzero hrole hc hon r
    have hr3 : r ≤ 3 := Nat.le_trans hrole (sroleRank_le _)
    have hshape : (q.pay.length != 36 || natOfBytes ((q.pay.drop 3).take 1) != 0 || decide (3 < r)) = false := by
      simp [hlen, hzero, hr3]
    refine ⟨fun hmatch => ?good, fun hmatch => ?bad⟩
    case good =>
      obtain ⟨x, hx⟩ : ∃ x : Sess, x = { id := 1 + Config.sessionId s.mbx.nonceN % 4294967295, role := sroleOf r
                                         cred := natOfBytes (q.pay.take 2), key := hmac c.key (n ++ asciiOf "session"), seq := 0
                                         last := [], used := s.now } := ⟨_, rfl⟩
      obtain ⟨u, hu⟩ : ∃ u, u = (((s.updChan ch (fun c => { c with nonce := none })).modMbx (fun m =>
        { m with nonceN := m.nonceN + 1 })).updChan ch (fun c => { c with sess := some x })) := ⟨_, rfl⟩
      have hf : s.authenticate ch q =
          (u.audit 0x03 (u.whoAct ch x.id x.cred) q.op 0 r, { pay := p4 x.id }) := by
        unfold State.authenticate
        dsimp only
        rw [if_neg (by simpa using hshape), if_neg (by simp [hs]), hn, hc]
        dsimp only
        rw [if_pos (by simp [hon, hrole, hmatch, r]), hu, hx]
      obtain ⟨hlog, hone, hans, hsess, hnonce, -⟩ := authenticated hq hmute hout (f := fun c => { c with nonce := none, sess := some x })
        hf (audit_sameButLog ..) (audit_loggedOne ..) (n := s.mbx.nonceN + 1) (by rw [hu]; simp only [State.modMbx, updChan_eq, modify_modify])
        (fun _ => rfl)
      refine ⟨_, x, rfl, hlog, hone, ?_, hans, hsess, hnonce, ?_⟩
      · rw [hx]; exact Nat.ne_of_gt (Nat.lt_of_lt_of_le Nat.zero_lt_one (Nat.le_add_right ..))
      · rw [hx]; exact ⟨rfl, rfl, rfl, rfl, rfl⟩
    case bad =>
      obtain ⟨u, hu⟩ : ∃ u, u = s.updChan ch (fun c => { c with nonce := none }) := ⟨_, rfl⟩
      have hf : s.authenticate ch q =
          (u.audit 0x03 (s.whoAct ch 0 (natOfBytes (q.pay.take 2))) q.op 0 r 0 Status.authFail.code, { st := .authFail }) := by
        unfold State.authenticate
        dsimp only
        rw [if_neg (by simpa using hshape), if_neg (by simp [hs]), hn, hc]
        dsimp only
        rw [if_neg (by simp [hmatch, r]), hu]
      obtain ⟨hlog, hone, hans, hsess, hnonce, hfails⟩ := authenticated hq hmute hout (f := fun c => { c with nonce := none })
        hf (audit_sameButLog ..) (audit_loggedOne ..) (n := s.mbx.nonceN) hu (fun _ => rfl)
      exact ⟨_, rfl, hlog, hone, hans, hsess.trans hs, hnonce, hfails⟩

/-! ### Reads (R465) -/

/-- The values that a read returns for an entry (R465). -/
def State.entVals (s : State) (e : Ent) : Nat × Nat × List (List Byte) :=
  (e.code, e.first, (List.range e.count).map (fun k => s.valBytes ((pidOf e.code).getD ⟨0, 0⟩) (e.first + k)))

/-- A read that clears nothing takes the values as they stand. -/
theorem readEnts_keep (s : State) (l : List Ent) : s.readEnts false l = (s, l.map s.entVals) := by
  have elements : ∀ (id : Pid) (first : Nat) (ks : List Nat) (acc : List (List Byte)),
      ks.foldl (fun (p : State × List (List Byte)) k => (p.1, p.2 ++ [p.1.valBytes id (first + k)])) (s, acc) =
        (s, acc ++ ks.map (fun k => s.valBytes id (first + k))) := by
    intro id first ks
    induction ks with
    | nil => simp
    | cons k ks ih => intro acc; simp [ih]
  induction l with
  | nil => rfl
  | cons e l ih =>
    simp only [State.readEnts, Bool.false_and, Bool.false_eq_true, if_false, elements, ih]
    rfl

/-- Settles O37: both commands leave the state, and an answer that does not fit becomes MALFORMED. -/
theorem informationAndParametersRead : Obligations.InformationAndParametersRead := by
  intro s ch q
  refine ⟨fun hq hpay => ?info, fun l hq hmute hl hgood hst hkeep hlog => ?read⟩
  case info =>
    obtain ⟨f, p, hexec, hf, hp⟩ : ∃ (f : State → Req → Author → State × Reply) (p : List Byte),
        exec (.getInfo ch) s = .next (s.command ch 0x01 f) ∧ f s q (s.author ch q) = (s, { pay := p }) ∧
        p = Config.infoPay (Config.fwRelease s.sys.fwB) s.role.code (s.pn gSYS 2) s.twin.sideB s.sys.life
          ((s.sys.creds.zipIdx.filter (fun c => c.1.on)).map (fun c => (c.2, c.1.role))) :=
      ⟨_, _, rfl, if_neg (by simp [hpay]), rfl⟩
    obtain ⟨ht, hstep, hans⟩ := command_answers s ch 0x01 q f hq (.inr rfl) s _ hf rfl
    exact ⟨_, p, hexec, ht, hstep, hans, hp⟩
  case read =>
    intro pay
    have hclear : (q.flags % 2 == 0 && decide (1 ≤ (s.author ch q).role.rank)) = false := by
      rcases hkeep with h | h <;> simp [h, SRole.rank]
    have hread : s.readReq q (s.author ch q) = (s, if 4064 < pay.length then { st := .malformed } else { pay := pay }) := by
      unfold State.readReq
      rw [hl]
      dsimp only
      rw [hgood]
      dsimp only
      rw [if_neg (by simp [hst]), hclear, readEnts_keep]
      dsimp only
      rw [hlog, when_false]
      show (if 4064 < pay.length then _ else _) = _
      split <;> rfl
    obtain ⟨ht, hstep, hans⟩ := command_answers s ch 0x10 q (fun s q a => s.readReq q a) hq (.inl hmute) s _ hread rfl
    refine ⟨_, rfl, ht, hstep, ?_⟩
    split at hans
    case isTrue h => rw [if_neg (Nat.not_le.mpr h)]; exact hans
    case isFalse h => rw [if_pos (Nat.not_lt.mp h)]; exact hans

/-! ### Writes (R460, R466) -/

/-- Element writes of an entry that waits are of its term. -/
theorem eff_of_mem_writesOf {s : State} {a : Author} {e : Ent} {w : Write} (h : w ∈ s.writesOf a e) : w.eff = e.eff := by
  unfold State.writesOf at h
  unfold Ent.eff
  cases hid : pidOf e.code with
  | none => simp [hid] at h
  | some id =>
    cases hrow : prow id with
    | none => simp [hid, hrow] at h
    | some r =>
      rw [hid] at h
      dsimp only at h
      rw [hrow] at h
      obtain ⟨p, -, rfl⟩ := List.mem_map.mp h
      simp [hrow]

/-- A write of Control or Supervisory term waits behind those that waited. -/
theorem acceptWrite_queues (s : State) {w : Write} (h : w.eff = .control ∨ w.eff = .supervisory) :
    ∃ l, s.acceptWrite w = { s with par := { s.par with wait := s.par.wait ++ [w] }, twin := { s.twin with acts := l } } := by
  obtain ⟨l, hl⟩ := carry_spec s 0x11 w
  refine ⟨l, ?_⟩
  rcases h with h | h <;> simp only [State.acceptWrite, hl, h] <;> rfl

/-- Writes that wait do so in their order, and a lead's shadow is told of each. -/
theorem acceptWrites_queue {l : List Write} (h : ∀ w ∈ l, w.eff = .control ∨ w.eff = .supervisory) (s : State) :
    ∃ k, forAll l State.acceptWrite s = { s with par := { s.par with wait := s.par.wait ++ l }, twin := { s.twin with acts := k } } := by
  induction l generalizing s with
  | nil => exact ⟨s.twin.acts, by simp [forAll]⟩
  | cons w l ih =>
    obtain ⟨k, hk⟩ := acceptWrite_queues s (h w (List.mem_cons_self ..))
    obtain ⟨m, hm⟩ := ih (fun x hx => h x (List.mem_cons_of_mem _ hx)) (s.acceptWrite w)
    refine ⟨m, hm.trans ?_⟩
    rw [hk]
    simp

/-- A failing entry turns a request away; it never answers OK or ACCEPTED. -/
def Reply.turnsAway (r : Reply) : Prop := r.st = .refused ∨ r.st = .privilege

theorem entBad_turnsAway {s : State} {a : Author} {i : Nat} {e : Ent} {r : Reply} (h : s.entBad a i e = some r) : r.turnsAway := by
  have refused : ∀ {y : Reply}, y.st = .refused → some y = some r → r.turnsAway := fun hy hr => .inl (Option.some.inj hr ▸ hy)
  unfold State.entBad at h
  split at h
  · exact refused rfl h
  split at h
  · exact refused rfl h
  split at h
  · exact refused rfl h
  split at h
  · exact refused rfl h
  split at h
  · exact refused rfl h
  split at h
  · exact .inr (Option.some.inj h ▸ rfl)
  split at h
  · nomatch h
  · exact refused rfl h

theorem ruleBad_turnsAway {s : State} {i : Nat} {all : List Write} {l : List Write} :
    ∀ {before : List Write} {r : Reply}, s.ruleBad i all before l = some r → r.turnsAway := by
  induction l with
  | nil => intro _ _ h; simp [State.ruleBad] at h
  | cons w l ih =>
    intro before r h
    unfold State.ruleBad at h
    split at h
    · exact Option.some.inj h ▸ .inl rfl
    · exact ih h

theorem firstBad_turnsAway {s : State} {a : Author} {all : List Write} {l : List Ent} :
    ∀ {i : Nat} {before : List Write} {r : Reply}, s.firstBad a all i before l = some r → r.turnsAway := by
  induction l with
  | nil => intro _ _ _ h; simp [State.firstBad] at h
  | cons e l ih =>
    intro i before r h
    unfold State.firstBad at h
    dsimp only at h
    split at h
    case h_1 x hx =>
      obtain rfl := Option.some.inj h
      rcases Option.or_eq_some_iff.mp hx with hent | ⟨-, hrule⟩
      · exact entBad_turnsAway hent
      · exact ruleBad_turnsAway hrule
    case h_2 => exact ih h

/-- Settles O38: the writes wait in request order, and a refusal leaves its record in the log. -/
theorem writesWaitForTheirBoundary : Obligations.WritesWaitForTheirBoundary := by
  intro s ch q l hq hmute hl hsh hst a ws
  obtain ⟨f, hexec, hf⟩ : ∃ f : State → Req → Author → State × Reply, exec (.writeParam ch) s = .next (s.command ch 0x11 f) ∧
      f s q a = s.writeLogged a l := ⟨_, rfl, by rw [hl]⟩
  refine ⟨fun hgood hne hterm => ?accepted, fun r hbad => ?refused⟩
  case accepted =>
    have hws : ∀ w ∈ ws, w.eff = .control ∨ w.eff = .supervisory := by
      intro w hw
      obtain ⟨e, he, hmem⟩ := List.mem_flatMap.mp hw
      exact (eff_of_mem_writesOf hmem).symm ▸ hterm e he
    obtain ⟨k, hk⟩ := acceptWrites_queue hws s
    have hlisted : l.flatMap (fun e => p8 (s.listed e.eff)) = l.flatMap (fun e => p8 (s.boundaryOf e.eff)) := by
      rw [List.flatMap_def, List.flatMap_def]
      refine congrArg List.flatten (List.map_congr_left fun e he => ?_)
      rcases hterm e he with h | h <;> simp [State.listed, h]
    have hall : l.all (fun e => e.eff == .immediate) = false := by
      obtain ⟨e, he⟩ := List.exists_mem_of_ne_nil l hne
      refine List.all_eq_false.mpr ⟨e, he, ?_⟩
      rcases hterm e he with h | h <;> simp [h]
    have hreq : s.writeReq a l = (forAll ws State.acceptWrite s, { st := .accepted, pay := l.flatMap (fun e => p8 (s.boundaryOf e.eff)) }) := by
      unfold State.writeReq
      rw [if_neg (by simp [hsh]), if_neg (by simp [hst])]
      dsimp only
      rw [hgood]
      dsimp only
      rw [if_neg (by simp [hall]), hlisted]
    have hlogged : s.writeLogged a l = s.writeReq a l := by
      simp [State.writeLogged, hreq]
    obtain ⟨ht, hstep, hans⟩ := command_answers s ch 0x11 q f hq (.inl hmute) _ _ (hf.trans (hlogged.trans hreq)) (by rw [hk])
    exact ⟨_, hexec, hstep.of_mbx (by rw [hk]), by rw [ht, hk], by rw [ht, hk], hans⟩
  case refused =>
    have hreq : s.writeReq a l = (s, r) := by
      unfold State.writeReq
      rw [if_neg (by simp [hsh]), if_neg (by simp [hst])]
      dsimp only
      rw [hbad]
    have hst' : (r.st == .ok || r.st == .accepted) = false := by
      rcases firstBad_turnsAway hbad with h | h <;> simp [h]
    obtain ⟨v, hv⟩ : ∃ v, v = s.writeLog a l r.st.code r := ⟨_, rfl⟩
    have hlogged : s.writeLogged a l = (v.when (r.why == some .mbxReadOnly) State.protoErr, r) := by
      simp [State.writeLogged, hreq, hst', hv]
    have hsame : SameButLog s v := hv ▸ audit_sameButLog ..
    have hseq : s.sys.seqNo < v.sys.seqNo := hv ▸ audit_seqNo ..
    have hu : v.when (r.why == some .mbxReadOnly) State.protoErr = { v with mbx := (v.when (r.why == some .mbxReadOnly) State.protoErr).mbx } ∧
        (v.when (r.why == some .mbxReadOnly) State.protoErr).mbx.chans = v.mbx.chans := by
      cases (r.why == some .mbxReadOnly) <;> exact ⟨rfl, rfl⟩
    have hmbx : v.mbx = s.mbx := by rw [hsame]
    obtain ⟨ht, -, hans⟩ := command_answers s ch 0x11 q f hq (.inl hmute) _ _ (hf.trans hlogged) (hu.2.trans (congrArg Mbx.chans hmbx))
    rw [hu.1] at ht
    exact ⟨_, hexec, hsame.logFrame ht, hans, by rw [ht, hsame], by rw [ht]; exact hseq⟩

/-! ### The request that starts next (R461, R462) -/

/-- The scan of a rising list from `m` on ends with the least key, the least number among equals. -/
theorem foldl_least (key : Nat → Nat) : ∀ {l : List Nat} {m : Nat}, l.Pairwise (· < ·) → (∀ x ∈ l, m < x) →
    let b := l.foldl (fun m x => if key x < key m then x else m) m
    b ∈ m :: l ∧ ∀ x ∈ m :: l, key b < key x ∨ (key b = key x ∧ b ≤ x)
  | [], m, _, _ => by simp
  | y :: l, m, hl, hm => by
    obtain ⟨hy, hl⟩ := List.pairwise_cons.mp hl
    have hmy := hm y (List.mem_cons_self ..)
    have hml : ∀ x ∈ l, m < x := fun x hx => hm x (List.mem_cons_of_mem _ hx)
    rw [List.foldl_cons]
    split
    case isTrue h =>
      obtain ⟨hmem, hle⟩ := foldl_least key hl hy
      refine ⟨List.mem_cons_of_mem _ hmem, fun x hx => ?_⟩
      rcases List.mem_cons.mp hx with rfl | hx
      · have := hle y (List.mem_cons_self ..)
        omega
      · exact hle x hx
    case isFalse h =>
      obtain ⟨hmem, hle⟩ := foldl_least key hl hml
      refine ⟨?_, fun x hx => ?_⟩
      · rcases List.mem_cons.mp hmem with h | h
        · rw [h]; exact List.mem_cons_self ..
        · exact List.mem_cons_of_mem _ (List.mem_cons_of_mem _ h)
      · rcases List.mem_cons.mp hx with rfl | hx
        · exact hle _ (List.mem_cons_self ..)
        rcases List.mem_cons.mp hx with rfl | hx
        · have := hle m (List.mem_cons_self ..)
          omega
        · exact hle x (List.mem_cons_of_mem _ hx)

theorem leastBy_spec {key : Nat → Nat} {l : List Nat} {b : Nat} (hl : l.Pairwise (· < ·)) (h : leastBy key l = some b) :
    b ∈ l ∧ ∀ x ∈ l, key b < key x ∨ (key b = key x ∧ b ≤ x) := by
  cases l with
  | nil => nomatch h
  | cons m l =>
    obtain ⟨hm, hl⟩ := List.pairwise_cons.mp hl
    obtain rfl := Option.some.inj h
    exact foldl_least key hl hm

/-- The class by which a channel waits. -/
def State.clsOf (s : State) (ch : Nat) : Nat := (((s.chan ch).req).map (·.cls)).getD 255

/-- A queued request of a channel that starts has the lowest class, and the lowest channel among equals. -/
theorem nextReq_spec {s : State} {ch : Nat} (h : s.nextReq = some ch) :
    ch < 8 ∧ (s.chan ch).queued = true ∧ ∀ k, k < 8 → (s.chan k).queued = true →
      s.clsOf ch < s.clsOf k ∨ (s.clsOf ch = s.clsOf k ∧ ch ≤ k) := by
  unfold State.nextReq at h
  dsimp only at h
  split at h
  case h_2 => nomatch h
  case h_1 c hc =>
    obtain rfl : c = ch := by
      split at h
      · exact Option.some.inj h
      · nomatch h
    obtain ⟨hmem, hle⟩ := leastBy_spec (List.pairwise_lt_range.filter _) hc
    obtain ⟨hlt, hq⟩ : c < 8 ∧ (s.chan c).queued = true := by simpa using hmem
    exact ⟨hlt, hq, fun k hk hkq => hle k (by simp [hk, hkq])⟩

/-! ### The start of a request (R457, R458) -/

/-- The state in which a request starts: requests that are being executed are marked as preempted. -/
def State.preempt (s : State) : State :=
  s.modMbx (fun m => { m with chans := m.chans.map (fun c => if c.exec_ then { c with pre := true } else c) })

theorem preempt_eq (s : State) : s.preempt = { s with mbx := { s.mbx with chans := s.preempt.mbx.chans } } := rfl

theorem preempt_length (s : State) : s.preempt.mbx.chans.length = s.mbx.chans.length := List.length_map ..

theorem preempt_calm (s : State) : s.preempt.mbx.chans.map Chan.calm = s.mbx.chans.map Chan.calm := by
  show (s.mbx.chans.map _).map _ = _
  rw [List.map_map]
  refine List.map_congr_left fun c _ => ?_
  cases hc : c.exec_ <;> simp [Chan.calm, hc]

/-- A channel that executes nothing is not marked. -/
theorem preempt_chan {s : State} {ch : Nat} (hl : ch < s.mbx.chans.length) (h : (s.chan ch).exec_ = false) : s.preempt.chan ch = s.chan ch := by
  refine chan_of_some _ _ _ ?_
  show (s.mbx.chans.map _)[ch]? = _
  rw [List.getElem?_map, chan_at s ch hl]
  simp [h]

theorem sessOf_congr {s t : State} {ch : Nat} (q : Req) (h : t.chan ch = s.chan ch) : t.sessOf ch q = s.sessOf ch q := by
  simp only [State.sessOf, h]

/-- An answer is judged by the channel of the state it starts from. -/
theorem Answered.of_chan {s u t : State} {ch : Nat} {q : Req} {st : Status} {pay : List Byte} (h : Answered u t ch q st pay)
    (hkey : (u.sessOf ch q).map (·.key) = (s.sessOf ch q).map (·.key)) (hdrop : (u.chan ch).drop = (s.chan ch).drop) :
    Answered s t ch q st pay := by
  unfold Answered at h ⊢
  rwa [hkey, hdrop] at h

/-- What a request meets does not hang on the marks of its channel. -/
theorem startCheck_congr {s t : State} {ch : Nat} {q : Req} {l : List Chan} (ht : t = { s with mbx := { s.mbx with chans := l } })
    (hs : (t.sessOf ch q).isSome = (s.sessOf ch q).isSome) (ha : (t.author ch q).role = (s.author ch q).role) :
    t.startCheck ch q = s.startCheck ch q := by
  unfold State.startCheck
  rw [hs, ha, ht]
  rfl

/-- A session once a request with a good tag has used it (R459). -/
def State.usedBy (s : State) (ch : Nat) (x : Sess) : State := s.updChan ch (fun c => { c with sess := some { x with used := s.now } })

section InSession
variable {s : State} {ch : Nat} {q : Req} {x : Sess} (hlock : (s.chan ch).lock = none) (hx : s.sessOf ch q = some x)
include hlock hx

/-- A bad tag completes with AUTH_FAIL and its record. -/
theorem startReq_badTag (htag : tagOf x.key q.hdr q.pay ≠ q.tag) :
    s.startReq ch q = (s.refusedLog ch q { st := .authFail }).finish ch q .authFail [] false := by
  unfold State.startReq
  rw [if_neg (by simp [hlock]), if_neg (by simp [hx]), hx]
  exact if_pos (by simpa using htag)

variable (htag : tagOf x.key q.hdr q.pay = q.tag)
include htag

/-- The previous SEQ returns the previous response. -/
theorem startReq_again (hseq : q.seq = x.seq) (hlast : x.last ≠ []) : s.startReq ch q =
    ((s.usedBy ch x).updChan ch (fun c => { c with nDone := wrap32 (c.nDone + 1), fails := 0 })).deliverResp ch x.last := by
  unfold State.startReq
  rw [if_neg (by simp [hlock]), if_neg (by simp [hx]), hx]
  dsimp only
  rw [if_neg (by simp [htag])]
  exact if_pos (by simp [hseq, hlast])

/-- A SEQ that is neither the previous nor the next completes with SEQUENCE. -/
theorem startReq_sequence (hne : q.seq ≠ x.seq) (hne' : q.seq ≠ x.seq + 1) :
    s.startReq ch q = (s.usedBy ch x).finish ch q .sequence [] false := by
  unfold State.startReq
  rw [if_neg (by simp [hlock]), if_neg (by simp [hx]), hx]
  dsimp only
  rw [if_neg (by simp [htag]), if_neg (by simp [hne])]
  exact if_pos (by simpa using hne')

/-- The next SEQ executes where nothing is met. -/
theorem startReq_next (hseq : q.seq = x.seq + 1) (hgo : (s.usedBy ch x).startCheck ch q = none) :
    s.startReq ch q = (s.usedBy ch x).updChan ch (fun c => { c with queued := false, exec_ := true }) := by
  unfold State.startReq
  rw [if_neg (by simp [hlock]), if_neg (by simp [hx]), hx]
  dsimp only
  rw [if_neg (by simp [htag]), if_neg (by simp [hseq]), if_neg (by simp [hseq])]
  unfold State.usedBy at hgo
  rw [hgo]
  rfl

end InSession

/-- A session that a request names is held by the channel. -/
theorem sessOf_some {s : State} {ch : Nat} {q : Req} {x : Sess} (h : s.sessOf ch q = some x) :
    (s.chan ch).sess = some x ∧ q.sess ≠ 0 ∧ x.id = q.sess := by
  unfold State.sessOf at h
  cases hs : (s.chan ch).sess with
  | none => simp [hs] at h
  | some y =>
    rw [hs] at h
    dsimp only at h
    split at h
    case isFalse => nomatch h
    case isTrue hc =>
      obtain rfl := Option.some.inj h
      exact ⟨rfl, by simpa using hc⟩

/-- Settles O34: the choice of the channel, and each branch of its request's start. -/
theorem requestsStartByClass : Obligations.RequestsStartByClass := by
  intro s ch q hup hlen hnext hreq hidle
  obtain ⟨hch, hqueued, hleast⟩ := nextReq_spec hnext
  have hl : ch < s.mbx.chans.length := hlen ▸ hch
  have hlp : ch < s.preempt.mbx.chans.length := preempt_length s ▸ hl
  have hchan := preempt_chan hl hidle
  have hsess := sessOf_congr q hchan
  have hcls : s.clsOf ch = q.cls := by simp [State.clsOf, hreq]
  have hexec : exec .requestStart s = .next (s.preempt.startReq ch q) := by
    simp only [exec, execRequestStart, hup, Bool.not_true, Bool.false_eq_true, if_false, hnext, hreq, State.preempt]
  refine ⟨⟨hch, hqueued, fun k p hk hkq hkp => ?least⟩, fun hlock => ?locked, fun hlock hout hgo => ?outside, fun x hlock hx =>
    ⟨fun htag => ?badTag, fun htag hseq hgo => ?good, fun htag hseq hlast => ?again, fun htag hne hne' => ?sequence⟩⟩
  case least =>
    have hp : s.clsOf k = p.cls := by simp [State.clsOf, hkp]
    exact hcls ▸ hp ▸ hleast k hk hkq
  case locked =>
    have hstart : s.preempt.startReq ch q = s.preempt.finish ch q .authFail [] false := by
      simp only [State.startReq, hchan, hlock, if_true]
    obtain ⟨ht, -, hans, -⟩ := finish_answers s.preempt ch q .authFail [] false hlp
    exact ⟨_, hexec.trans (congrArg _ hstart), by rw [ht, preempt_eq], hans.of_chan (by rw [hsess]) (by rw [hchan])⟩
  case outside =>
    have hgo' : s.preempt.startCheck ch q = none :=
      (startCheck_congr (preempt_eq s) (by rw [hsess]) (by simp only [State.author, hsess])).trans hgo
    have hstart : s.preempt.startReq ch q = s.preempt.updChan ch (fun c => { c with queued := false, exec_ := true }) := by
      simp only [State.startReq, hchan, hlock, hout, sessOf_outside _ _ hout, hgo']
      simp
    refine ⟨_, hexec.trans (congrArg _ hstart), rfl, ?_, ?_⟩
    · rw [updChan_mbx, ← preempt_calm s]
      exact map_modify ..
    · rw [chan_updChan _ _ _ hlp, hchan]
  all_goals
    have hlock' : (s.preempt.chan ch).lock = none := by rw [hchan, hlock]
    have hx' : s.preempt.sessOf ch q = some x := hsess.trans hx
    obtain ⟨hsx, hq0, hid⟩ := sessOf_some hx
  case badTag =>
    obtain ⟨v, hv⟩ : ∃ v, v = s.preempt.refusedLog ch q { st := .authFail } := ⟨_, rfl⟩
    have hsame : SameButLog s.preempt v := hv ▸ audit_sameButLog ..
    have hone : LoggedOne s.preempt v 0x03 := hv ▸ audit_loggedOne ..
    have hmbx : v.mbx = s.preempt.mbx := by rw [hsame]
    have hcv : v.chan ch = s.chan ch := (show v.chan ch = s.preempt.chan ch by simp only [State.chan, hmbx]).trans hchan
    have hnow : v.now = s.now := by rw [hsame]; rfl
    obtain ⟨ht, -, hans, hc⟩ := finish_answers v ch q .authFail [] false (hmbx ▸ hlp)
    rw [hcv, hnow] at hc
    refine ⟨_, hexec.trans (congrArg _ (startReq_badTag hlock' hx' htag)), ?_⟩
    rw [← hv]
    refine ⟨?_, ?_, hans.of_chan (by rw [sessOf_congr q hcv]) (by rw [hcv]), ?_, ?_, fun hf => ?_⟩
    · obtain ⟨_, _, _, _, _, rfl⟩ := hsame.parts
      rw [LogFrame, ht, preempt_eq]
    · rw [ht]
      exact hone
    · rw [hc, finished_sess, hsx]; rfl
    · rw [hc]; rfl
    · rw [hc]
      simp [Chan.finished, Chan.closed, Chan.counted, hlock, hf]
  all_goals
    obtain ⟨u, hu⟩ : ∃ u, u = s.preempt.usedBy ch x := ⟨_, rfl⟩
    have hlu : ch < u.mbx.chans.length := by simpa [hu, State.usedBy] using hlp
    have hcu : u.chan ch = { s.chan ch with sess := some { x with used := s.now } } := by
      rw [hu, State.usedBy, chan_updChan _ _ _ hlp, hchan]
      rfl
    have hueq : u = { s with mbx := { s.mbx with chans := u.mbx.chans } } := by rw [hu]; rfl
    have hus : u.sessOf ch q = some { x with used := s.now } := by
      simp [State.sessOf, hcu, hq0, hid]
  case good =>
    have hrole : (u.author ch q).role = (s.author ch q).role := by simp only [State.author, hus, hx]
    have hgo' : u.startCheck ch q = none := (startCheck_congr hueq (by rw [hus, hx]; rfl) hrole).trans hgo
    rw [hu] at hgo'
    refine ⟨_, hexec.trans (congrArg _ (startReq_next hlock' hx' htag hseq hgo')), rfl, ?_⟩
    rw [← hu, chan_updChan _ _ _ hlu, hcu]
  case again =>
    obtain ⟨w, hw⟩ : ∃ w, w = u.updChan ch (fun c => { c with nDone := wrap32 (c.nDone + 1), fails := 0 }) := ⟨_, rfl⟩
    have hlw : ch < w.mbx.chans.length := by simpa [hw] using hlu
    have hcw : w.chan ch = { s.chan ch with sess := some { x with used := s.now }, nDone := wrap32 ((s.chan ch).nDone + 1), fails := 0 } := by
      rw [hw, chan_updChan _ _ _ hlu, hcu]
    obtain ⟨i, v, ht⟩ := deliverResp_spec w ch x.last
    have hc := chan_of_some (w.deliverResp ch x.last) ch _ (by rw [ht]; exact modify_at w.mbx.chans ch _ _ (chan_at w ch hlw))
    refine ⟨_, hexec.trans (congrArg _ (startReq_again hlock' hx' htag hseq hlast)), ?_⟩
    rw [← hu, ← hw]
    refine ⟨by rw [ht, hw, updChan_eq, hueq], by rw [hc]; rfl, by rw [hc]; rfl, fun hd => ?_, by rw [hc, hcw]; rfl⟩
    rw [hc, hcw]
    simp [Chan.closed, hd]
  case sequence =>
    obtain ⟨ht, -, hans, hc⟩ := finish_answers u ch q .sequence [] false hlu
    refine ⟨_, hexec.trans (congrArg _ (startReq_sequence hlock' hx' htag hne hne')), ?_⟩
    rw [← hu]
    refine ⟨by rw [ht, hueq], hans.of_chan (by rw [hus, hx]; rfl) (by rw [hcu]), ?_⟩
    rw [hc, finished_sess, hcu]
    rfl

end Sys2Proof.Machine
end

section
/-!
SUPPORT. Registers of BAR0 (R449, R450) and what resets them (R562), with the statements about them.
-/
namespace Sys2Proof.Machine
open Sys2Proof

/-! ### Bytes of a word -/

theorem bytesOfNat_four (v : Word) : (bytesOfNat 4 v.toNat).reverse = (List.range 4).map (fun i => v.extractLsb' (8 * i) 8) := by
  rfl

/-- A list of its length needs no padding. -/
theorem padTo_eq {n : Nat} {l : List Byte} (h : l.length = n) : padTo n l = l := List.take_left' h

/-- A word put into a full request buffer: its four bytes, least significant first, and nothing else (R449). -/
theorem bufPut_spec {buf : List Byte} (hl : buf.length = 4096) {k : Nat} (hk : k % 4 = 0) (hlt : k < 4096) (v : Word) :
    (bufPut buf k v).length = 4096 ∧ ∀ j, (bufPut buf k v)[j]? = if k ≤ j ∧ j < k + 4 then some (v.extractLsb' (8 * (j - k)) 8) else buf[j]? := by
  have hpad : padTo 4096 buf = buf := padTo_eq hl
  have hput : bufPut buf k v = buf.take k ++ (List.range 4).map (fun i => v.extractLsb' (8 * i) 8) ++ buf.drop (k + 4) := by
    simp only [bufPut, hpad, bytesOfNat_four]
  have hk4 : k + 4 ≤ 4096 := by omega
  refine ⟨?_, fun j => ?_⟩
  · simp [hput, hl]; omega
  rw [hput]
  by_cases hlo : j < k
  · rw [if_neg (by omega), List.append_assoc, List.getElem?_append_left (by simp [hl]; omega), List.getElem?_take_of_lt hlo]
  by_cases hhi : j < k + 4
  · rw [if_pos ⟨by omega, hhi⟩, List.getElem?_append_left (by simp [hl]; omega), List.getElem?_append_right (by simp [hl]; omega)]
    have hlen : (buf.take k).length = k := by simp [hl]; omega
    rw [hlen]
    simp [show j - k < 4 by omega]
  · rw [if_neg (by omega), List.getElem?_append_right (by simp [hl]; omega), List.getElem?_drop]
    congr 1
    simp [hl]; omega

/-- No register beyond the direct ones and the channels' own is read-only. -/
theorem roRegs_beyond {ofs : Nat} (h : 0x220 ≤ ofs) : roRegs.contains ofs = false := by
  simp [roRegs]
  omega

/-- Beyond the direct registers and the channels' own, only buffers are written. -/
theorem regWrite_beyond (s : State) {ofs : Nat} (h : 0x220 ≤ ofs) (v : Word) : s.regWrite ofs v =
    if decide (0x10000 ≤ ofs ∧ ofs < 0x20000) && (ofs - 0x10000) % 0x2000 < 0x1000 && ofs % 4 == 0 then
      s.updChan ((ofs - 0x10000) / 0x2000) (fun c => { c with buf := bufPut c.buf ((ofs - 0x10000) % 0x2000) v })
    else s := by
  unfold State.regWrite
  rw [roRegs_beyond h]
  split
  case isTrue h => nomatch h
  split
  all_goals try omega
  rw [if_neg (by simp; omega)]

/-- Settles O46: each read and each write of a direct register by its own row, and a word of a buffer byte by byte. -/
theorem registersReadAndWritten : Obligations.RegistersReadAndWritten := by
  intro s hup
  have hwrite : ∀ ofs v, exec (.registerWrite ofs v) s = .next (s.regWrite ofs v) := fun ofs v => by
    simp only [exec, execRegisterWrite, hup, if_true]
  refine ⟨?frame, ?time, fun ofs => ?clears, fun v => ⟨?scratch, ?enable, ?channelEnable, ?cleared, fun n k c hn hk hlt hc hlen => ?buffer,
    fun ofs hlo hhi => ?nothing⟩⟩
  case frame =>
    exact ⟨s.modMbx (fun m => { m with rdata := BitVec.ofNat 32 s.fr, fHi := BitVec.ofNat 32 (s.fr / 4294967296) }),
      by simp only [exec, execSysFrameLoRead, hup, if_true], rfl, rfl, rfl⟩
  case time =>
    exact ⟨s.modMbx (fun m => { m with rdata := BitVec.ofNat 32 s.now, tHi := BitVec.ofNat 32 (s.now / 4294967296) }),
      by simp only [exec, execSysTaiLoRead, hup, if_true], rfl, rfl, rfl⟩
  case clears =>
    refine ⟨s.modMbx (fun m => { m with
        rdata := s.regRead ofs, cause := if ofs == 0x2C then 0 else m.cause, err := if ofs == 0x4C then 0 else m.err
        sRc := if ofs == 0x21C then 0 else m.sRc }), by simp only [exec, execRcRegisterRead, hup, if_true], rfl, ?_, ?_, ?_⟩
    all_goals simp [State.modMbx]
  case scratch => exact hwrite 0x28 v
  case enable => exact hwrite 0x20 v
  case channelEnable => exact hwrite 0x44 v
  case cleared =>
    refine ⟨s.modMbx (fun m => { m with irq := m.irq &&& ~~~v }), hwrite 0x1C v, rfl, fun k hk => ?_⟩
    simp [State.modMbx, hk]
  case buffer =>
    have hofs : (0x10000 + 0x2000 * n + k - 0x10000) / 0x2000 = n ∧ (0x10000 + 0x2000 * n + k - 0x10000) % 0x2000 = k := by omega
    have hreg : s.regWrite (0x10000 + 0x2000 * n + k) v = s.updChan n (fun c => { c with buf := bufPut c.buf k v }) := by
      rw [regWrite_beyond s (by omega), hofs.1, hofs.2, if_pos (by simp; omega)]
    obtain ⟨hblen, hbytes⟩ := bufPut_spec hlen hk hlt v
    exact ⟨_, bufPut c.buf k v, (hwrite _ v).trans (congrArg _ hreg), rfl, onlyAt_modify .., modify_at _ _ _ _ hc, hblen, hbytes⟩
  case nothing =>
    rw [hwrite, regWrite_beyond s hlo, if_neg (by simp; omega)]

/-! ### The management side (R477, R487, R506, R507, R562) -/

/-- PERST_N changes the mailbox alone, and each channel by its transport (R562). -/
theorem perstN_spec {s : State} (hup : s.up = true) :
    ∃ t : State, exec .perstN s = .next t ∧ t = { s with mbx := t.mbx } ∧ t.mbx.irq = 0 ∧ t.mbx.irqEn = 0 ∧ t.mbx.scratch = 0 ∧
      t.mbx.mirq = 0 ∧ t.mbx.mirqEn = 0 ∧ t.mbx.err = 0 ∧ t.mbx.fHi = 0 ∧ t.mbx.tHi = 0 ∧ t.mbx.ctrl = 0x04016000 ∧
      t.mbx.baseLo = 0 ∧ t.mbx.baseHi = 0 ∧ t.mbx.head = 0 ∧ t.mbx.tail = 0 ∧ t.mbx.sActive = false ∧ t.mbx.fActive = false ∧
      t.mbx.chans = s.mbx.chans.mapIdx (fun i c =>
        if s.onPcie i then { c with queued := false, done_ := false, late := false, respLen := 0, drop := c.exec_
                                    req := if c.exec_ then c.req else none }
        else { c with late := false }) :=
  ⟨_, congrArg Host.Outcome.next (if_pos hup), rfl, rfl, rfl, rfl, rfl, rfl, rfl, rfl, rfl, rfl, rfl, rfl, rfl, rfl, rfl, rfl, rfl⟩

/-- The level that a window of utilisation `u` asks for at once (R477). -/
def levelHit (u : Nat) : Nat := if 90 ≤ u then 3 else if 75 ≤ u then 2 else if 60 ≤ u then 1 else 0

/-- Windows in a row that lie low, after one of utilisation `u`. -/
def Mbx.lowWindows (m : Mbx) (u : Nat) : Nat := if u + 10 ≤ levelFrom m.level then m.lowRun + 1 else 0

/-- The level after a window of utilisation `u`. -/
def Mbx.nextLevel (m : Mbx) (u : Nat) : Nat :=
  if m.level < levelHit u then levelHit u else if 0 < m.level ∧ 10 ≤ m.lowWindows u then m.level - 1 else m.level

/-- A window keeps its utilisation, and raises bit 3 where it changes the level. -/
theorem loadLevelChange_spec {s : State} (hup : s.up = true) (u : Nat) :
    ∃ t : State, exec (.loadLevelChange u) s = .next t ∧
      t = { s with mbx := { s.mbx with util := u, level := t.mbx.level, lowRun := t.mbx.lowRun, lvlMs := t.mbx.lvlMs
                                       irq := t.mbx.irq, msi := t.mbx.msi } } ∧
      t.mbx.level = s.mbx.nextLevel u ∧ t.mbx.lowRun = (if s.mbx.nextLevel u = s.mbx.level then s.mbx.lowWindows u else 0) ∧
      (s.mbx.nextLevel u ≠ s.mbx.level → t.mbx.irq.getLsbD 3 = true) ∧ (s.mbx.nextLevel u = s.mbx.level → t.mbx.irq = s.mbx.irq) := by
  obtain ⟨n, hn⟩ : ∃ n, n = s.mbx.nextLevel u := ⟨_, rfl⟩
  obtain ⟨v, hv⟩ : ∃ v, v = s.modMbx (fun m => { m with
      util := u, level := n, lowRun := if n == s.mbx.level then s.mbx.lowWindows u else 0
      lvlMs := m.lvlMs.mapIdx (fun i k => if i + 1 == s.mbx.level then wrap32 (k + 10) else k) }) := ⟨_, rfl⟩
  have hexec : exec (.loadLevelChange u) s = .next (v.when (n != s.mbx.level) (fun s => s.irqSet 3)) := by
    rw [hv, hn]
    refine (congrArg Host.Outcome.next (if_neg (by simp [hup]))).trans ?_
    simp only [Mbx.nextLevel, Mbx.lowWindows, levelHit, decide_eq_true_eq, Bool.and_eq_true]
    rfl
  rw [← hn]
  by_cases h : n = s.mbx.level
  · rw [show (n != s.mbx.level) = false by simp [h], when_false] at hexec
    refine ⟨v, hexec, by rw [hv]; rfl, by rw [hv]; rfl, ?_, fun h' => absurd h h', fun _ => by rw [hv]; rfl⟩
    rw [hv]; simp [State.modMbx, h]
  · rw [show (n != s.mbx.level) = true by simp [h], when_true] at hexec
    refine ⟨v.irqSet 3, hexec, by rw [hv]; rfl, by rw [hv]; rfl, ?_, fun _ => ?_, fun h' => absurd h' h⟩
    · rw [hv]; simp [State.irqSet, State.modMbx, h]
    · simp [State.irqSet, State.modMbx, bitAt]

/-- Settles O48: each event by its own rule. -/
theorem managementSideResetsAndLoad : Obligations.ManagementSideResetsAndLoad := by
  intro s
  refine ⟨fun hup hlen => ?perst, fun hup hbad => ?watchdog, fun key0 cred0 hlife hcreds => ?works, fun key0 cred0 hlife => ?final, ?load⟩
  case perst =>
    obtain ⟨t, hexec, h1, h2, h3, h4, h5, h6, h7, h8, h9, h10, h11, h12, h13, h14, h15, h16, hchans⟩ := perstN_spec hup
    refine ⟨t, hexec, h1, h2, h3, h4, h5, h6, h7, h8, h9, h10, h11, h12, h13, h14, h15, h16, by rw [hchans, List.length_mapIdx, hlen], ?_⟩
    intro k c hc
    rw [hchans, List.getElem?_mapIdx, hc]
    rfl
  case watchdog =>
    have hfall : decide (s.pn gCFG 31 ≤ s.sys.bootBad + 1) = false := by simpa using hbad
    simp [exec, execFirmwareWatchdog, hup, hfall, State.modMbx, State.modSys]
  case works =>
    obtain ⟨c, hc⟩ : ∃ c : Cred, c = { key := bytesOfNat 32 cred0, role := .guardian, on := true } := ⟨_, rfl⟩
    obtain ⟨v, hv⟩ : ∃ v, v = s.modSys (fun y => { y with key0 := key0, life := .provisioned, scan := false, creds := y.creds.set 0 c }) := ⟨_, rfl⟩
    have hcond : (s.sys.life == .manufacture || s.sys.life == .service) = true := by simpa using hlife
    have hexec : exec (.sustoWorksProcedure key0 cred0) s = .next (v.audit 0x13 {} 0 s.sys.life.code Life.provisioned.code) := by
      rw [hv, hc]
      exact congrArg Host.Outcome.next (if_pos hcond)
    obtain ⟨hone, hsame⟩ := audit_spec v 0x13 {} 0 s.sys.life.code Life.provisioned.code
    have hset := onlyAt_set s.sys.creds 0 c
    obtain ⟨l, n, o, k, p, ht⟩ := hsame.parts
    rw [ht] at hexec hone
    refine ⟨_, c, hexec, hone.of_log (by rw [hv]; rfl) (by rw [hv]; rfl), by rw [hv]; rfl, by rw [hv]; rfl, by rw [hv]; rfl, ?_, by rw [hc], by rw [hc], by rw [hc],
      fun j hj => ?_, by rw [hv]; rfl⟩
    · rw [hv]
      exact List.getElem?_set_self (by omega)
    · rw [hv]
      exact hset.2 j hj
  case final =>
    refine congrArg Host.Outcome.next (if_neg ?_)
    rcases hlife with h | h <;> simp [h]
  case load =>
    intro u hup hu hlevel hit
    obtain ⟨t, hexec, hframe, hnew, hrun, hraise, hkeep⟩ := loadLevelChange_spec hup u
    have hhit : levelHit u = hit := rfl
    refine ⟨t, hexec, hframe, fun hlt => ?_, fun hle hpos hlow hten => ?_, fun hle hlow hnine => ?_, fun hle hhigh => ?_⟩
    · have hn : s.mbx.nextLevel u = hit := if_pos (hhit ▸ hlt)
      have hne : s.mbx.nextLevel u ≠ s.mbx.level := by omega
      exact ⟨hnew.trans hn, hrun.trans (if_neg hne), hraise hne⟩
    all_goals
      have hnot : ¬ s.mbx.level < levelHit u := hhit ▸ Nat.not_lt.mpr hle
    · have hw : s.mbx.lowWindows u = s.mbx.lowRun + 1 := if_pos hlow
      have hn : s.mbx.nextLevel u = s.mbx.level - 1 := (if_neg hnot).trans (if_pos ⟨hpos, by omega⟩)
      have hne : s.mbx.nextLevel u ≠ s.mbx.level := by omega
      exact ⟨hnew.trans hn, hrun.trans (if_neg hne), hraise hne⟩
    · have hw : s.mbx.lowWindows u = s.mbx.lowRun + 1 := if_pos hlow
      have hn : s.mbx.nextLevel u = s.mbx.level := (if_neg hnot).trans (if_neg (by omega))
      exact ⟨hnew.trans hn, (hrun.trans (if_pos hn)).trans hw, hkeep hn⟩
    · have hw : s.mbx.lowWindows u = 0 := if_neg (by omega)
      have hn : s.mbx.nextLevel u = s.mbx.level := (if_neg hnot).trans (if_neg (by omega))
      exact ⟨hnew.trans hn, (hrun.trans (if_pos hn)).trans hw, hkeep hn⟩

end Sys2Proof.Machine
end

section
/-!
SUPPORT. Image transfers and the selection of a slot (R480 to R486), with the statement about them.
-/
namespace Sys2Proof.Machine
open Sys2Proof

/-! ### A command with its record -/

/-- An image command completes with its record of type 0x11 (R482, R508). -/
theorem imgLog_answers {s : State} {ch op : Nat} {q : Req} {f : State → Req → Author → State × Reply} (h : s.executing ch op q)
    (hm : s.mute = false) {u : State} {r : Reply} {k : Nat} {old new : Int}
    (hf : f s q (s.author ch q) = u.imgLog k (s.author ch q) old new r) (hu : u.mbx = s.mbx) :
    let t := s.command ch op f
    LogFrame u t ∧ t.sys.xfer = u.sys.xfer ∧ MailboxStep s t ch ∧ Answered s t ch q r.st r.pay ∧ (r.why = none → LoggedOne u t 0x11) := by
  obtain ⟨hlog, hxfer, hstep, hans, hone⟩ := recorded_answers h hm hf (congrArg Mbx.chans hu)
  exact ⟨hlog, hxfer, hstep.of_mbx hu, hans, hone⟩

/-- What a lead tells its shadow is in the pair's record alone. -/
theorem carryCmd_acts (s : State) (op : Nat) (a : Author) (at_ addr : Nat) (ws : List Word) (e : Nat) :
    s.carryCmd op a at_ addr ws e = { s with twin := { s.twin with acts := (s.carryCmd op a at_ addr ws e).twin.acts } } := by
  obtain ⟨-, l, hl⟩ := carryCmd_spec s op a at_ addr ws e
  rw [hl]

/-- The state after an image command but for its record: the slots and the transfer, Peat, and what a lead carries. -/
def State.imaged (s : State) (y : Sys) (p : Store) (l : List HostAct) : State :=
  { s with sys := y, peat := p, twin := { s.twin with acts := l } }

/-- What stays once an image command has answered. -/
theorem LogFrame.imaged {s t : State} {y : Sys} {p : Store} {l : List HostAct} (h : LogFrame (s.imaged y p l) t) :
    t = { s with sys := t.sys, peat := t.peat, mbx := t.mbx, twin := { s.twin with acts := t.twin.acts } } ∧ t.sys.slots = y.slots ∧
      t.sys.startB = y.startB ∧ t.sys.st = y.st := by
  refine ⟨?_, by rw [h]; rfl, by rw [h]; rfl, by rw [h]; rfl⟩
  rw [h]
  rfl

/-! ### The commands (R482, R483, R485) -/

/-- IMAGE_BEGIN of a CONFIG image erases the slot that does not run. -/
theorem imgBegin_config {s : State} (a : Author) {len : Nat} (hlife : s.sys.life = .provisioned) (hx : s.sys.xfer = none)
    (hlen : len ≤ 16777216) : ∃ p l, s.imgBegin a 1 len = (s.imaged { s.sys with
      xfer := some { Xfer.reset with ch := a.ch, kind := 1, len := len }
      slots := s.sys.slots.set (otherSlot s.sys.runB) Slot_.reset } p l).imgLog 0x40 a 1 len {} := by
  unfold State.imgBegin
  dsimp only
  rw [if_neg (by simpa [imgMax] using hlen), if_neg (by simp), if_neg (by simp [hlife]), if_neg (by simp [hx])]
  exact ⟨_, _, congrArg (fun u => State.imgLog u 0x40 a 1 len {}) (carryCmd_acts ..)⟩

/-- IMAGE_BLOCK at the end of the previous block appends its bytes. -/
theorem imgBlock_appends {s : State} {a : Author} {x : Xfer} {bytes : List Byte} (hx : s.sys.xfer = some x) (hch : x.ch = a.ch)
    (hrole : a.role = .guardian) (hb : bytes.length ≤ 4032) (hfit : x.data.length + bytes.length ≤ x.len) :
    ∃ hdg l, s.imgBlock a x.data.length bytes = (s.imaged { s.sys with xfer := some { x with data := x.data ++ bytes, hdg := hdg } }
      s.peat l).imgLog 0x41 a x.data.length bytes.length {} := by
  unfold State.imgBlock
  dsimp only
  rw [hx]
  dsimp only
  rw [if_neg (by simp [hch]), if_neg (by simp [hrole]), if_neg (by simpa [Nat.not_lt.mpr hb] using hfit)]
  exact ⟨_, _, congrArg (fun u => State.imgLog u 0x41 a x.data.length bytes.length {}) (carryCmd_acts ..)⟩

/-- What a complete image that passes its checks puts into its slot (R482). -/
def imageSlot (b : List Byte) : Slot_ :=
  { Slot_.reset with
    complete := true, bytes := b, cont := some (imgContent b), sha8 := imgSha8 b, version := imgVersion b, tool := beAt b 20 4, topo := imgTopo b }

section Commit
variable {s : State} {a : Author} {x : Xfer} {sha : List Byte} (hx : s.sys.xfer = some x) (hch : x.ch = a.ch) (hrole : a.role = .guardian)
  (hfull : x.data.length = x.len)
include hx hch hrole hfull

/-- IMAGE_COMMIT of a CONFIG image that passes fills the other slot and ends the transfer. -/
theorem imgCommit_fills (hkind : x.kind = 1) (hsha : sha256 x.data = sha) (hgood : s.integrity x.data = []) :
    ∃ p l, s.imgCommit a sha = (s.imaged { s.sys with
      xfer := none, slots := s.sys.slots.set (otherSlot s.sys.runB) (imageSlot x.data) } p l).imgLog 0x42 a 1 (imgVersion x.data) {} := by
  obtain ⟨u, hu⟩ : ∃ u, u = (s.modSys (fun y => { y with xfer := none })).carryCmd 0x42 a s.fr 0 (sha.map (·.setWidth 32)) := ⟨_, rfl⟩
  have hcar : u = { s with sys := { s.sys with xfer := none }, twin := { s.twin with acts := u.twin.acts } } := by
    rw [hu]
    exact carryCmd_acts ..
  have hint : u.integrity x.data = [] := by rw [hcar]; exact hgood
  unfold State.imgCommit
  dsimp only
  rw [hx]
  dsimp only
  rw [if_neg (by simp [hch]), if_neg (by simp [hrole]), if_neg (by simp [hfull]), if_neg (by simp [hsha]), if_pos (by simp [hkind]), ← hu,
    hint]
  refine ⟨(u.storeConfig x.data).journalCommit.peat, u.twin.acts, congrArg (fun v => State.imgLog v 0x42 a 1 (imgVersion x.data) {}) ?_⟩
  generalize u.twin.acts = l at hcar
  rw [hcar]
  rfl

/-- With another SHA-256 the transfer ends and nothing is filled. -/
theorem imgCommit_hash (hsha : sha256 x.data ≠ sha) :
    ∃ l, s.imgCommit a sha = (s.imaged { s.sys with xfer := none } s.peat l).imgLog 0x42 a 0 0 (refuse .cfgHash) := by
  unfold State.imgCommit
  dsimp only
  rw [hx]
  dsimp only
  rw [if_neg (by simp [hch]), if_neg (by simp [hrole]), if_neg (by simp [hfull]), if_pos (by simpa using hsha), carryCmd_acts]
  exact ⟨_, rfl⟩

end Commit

section Select
variable {s : State} {a : Author} {slotB : Bool} (hready : s.selReady false slotB = true) (hrole : a.role = .guardian)
  (hst : s.sys.st ≠ .running)
include hready hrole hst

/-- IMAGE_SELECT records the slot for the next start. -/
theorem imgSelect_records : ∃ l, s.imgSelect a false slotB false =
    (s.imaged { s.sys with startB := slotB } s.peat l).imgLog 0x43 a (selCode false slotB) 0 {} := by
  unfold State.imgSelect
  dsimp only
  rw [if_neg (by simp [hready]), if_neg (by simp [hrole]), if_neg (by simp [hst]), carryCmd_acts]
  exact ⟨_, rfl⟩

/-- With ACTIVATE the selection waits for the next supervisory boundary. -/
theorem imgSelect_waits : ∃ l, s.imgSelect a false slotB true =
    (({ s with par := { s.par with cmds := s.par.cmds ++ [(selCode false slotB, a.role, a.ch, s.nextSup s.fr)] } } : State).imaged s.sys s.peat l).imgLog
      0x43 a (selCode false slotB) (s.nextSup s.fr) { st := .accepted, pay := p8 (s.nextSup s.fr) } := by
  unfold State.imgSelect
  dsimp only
  rw [if_neg (by simp [hready]), if_neg (by simp [hrole]), if_neg (by simp [hst]), carryCmd_acts]
  exact ⟨_, rfl⟩

end Select

/-- Settles O43: each command is one change of the transfer, the slots or the selection, with its record. -/
theorem imageTransfersAndSelection : Obligations.ImageTransfersAndSelection := by
  intro s ch q hmute hslots mine
  have hmine : mine < s.sys.slots.length := by
    rw [hslots]
    show otherSlot s.sys.runB < 2
    unfold otherSlot
    split <;> decide
  have hch := author_ch s ch q
  refine ⟨fun len hq hlife hx hlen => ?begin, fun x bytes hq hx hxch hrole hb hfit => ?block, fun x sha hq hx hxch hkind hrole hfull =>
    ⟨fun hsha hgood => ?filled, fun hsha => ?wrongHash⟩, fun slotB hq hrole hst hready => ⟨?select, ?activate⟩⟩
  case begin =>
    obtain ⟨p, l, hf⟩ := imgBegin_config (s.author ch q) hlife hx hlen
    obtain ⟨hlog, hxfer, hstep, hans, hone⟩ := imgLog_answers (f := fun s _ a => s.imgBegin a 1 len) hq hmute hf rfl
    obtain ⟨hframe, hsl, -, -⟩ := hlog.imaged
    exact ⟨_, rfl, (hone rfl).of_log rfl rfl, hstep, hans, by rw [hxfer]; exact congrArg (fun k => some { Xfer.reset with ch := k, kind := 1, len := len }) hch, hsl, hframe⟩
  case block =>
    obtain ⟨hdg, l, hf⟩ := imgBlock_appends hx (hxch.trans hch.symm) hrole hb hfit
    obtain ⟨hlog, hxfer, hstep, hans, hone⟩ := imgLog_answers (f := fun s _ a => s.imgBlock a x.data.length bytes) hq hmute hf rfl
    obtain ⟨hframe, hsl, -, -⟩ := hlog.imaged
    exact ⟨_, _, rfl, (hone rfl).of_log rfl rfl, hstep, hans, hxfer, rfl, hxch, rfl, rfl, hsl, hframe⟩
  case filled =>
    obtain ⟨p, l, hf⟩ := imgCommit_fills hx (hxch.trans hch.symm) hrole hfull hkind hsha hgood
    obtain ⟨hlog, hxfer, -, hans, hone⟩ := imgLog_answers (f := fun s _ a => s.imgCommit a sha) hq hmute hf rfl
    obtain ⟨hframe, hsl, hstart, -⟩ := hlog.imaged
    have hother := onlyAt_set s.sys.slots mine (imageSlot x.data)
    refine ⟨_, rfl, (hone rfl).of_log rfl rfl, hans, hxfer, ?_, fun k hk => ?_, ⟨imageSlot x.data, ?_, rfl, rfl, rfl, rfl, rfl⟩, hstart, hframe⟩
    · rw [hsl, ← hslots]
      exact hother.1
    · rw [hsl]
      exact hother.2 k hk
    · rw [hsl]
      exact List.getElem?_set_self hmine
  case wrongHash =>
    obtain ⟨l, hf⟩ := imgCommit_hash hx (hxch.trans hch.symm) hrole hfull hsha
    obtain ⟨hlog, hxfer, -, hans, -⟩ := imgLog_answers (f := fun s _ a => s.imgCommit a sha) hq hmute hf rfl
    obtain ⟨hframe, hsl, -, -⟩ := hlog.imaged
    exact ⟨_, rfl, by simpa [refuse] using hans, hxfer, hsl, hframe⟩
  case select =>
    obtain ⟨l, hf⟩ := imgSelect_records hready hrole hst
    obtain ⟨hlog, -, hstep, hans, hone⟩ := imgLog_answers (f := fun s _ a => s.imgSelect a false slotB false) hq hmute hf rfl
    obtain ⟨hframe, hsl, hstart, hkept⟩ := hlog.imaged
    exact ⟨_, rfl, (hone rfl).of_log rfl rfl, hstep, hans, hstart, hsl, hkept, hframe⟩
  case activate =>
    obtain ⟨l, hf⟩ := imgSelect_waits hready hrole hst
    obtain ⟨hlog, -, hstep, hans, hone⟩ := imgLog_answers (f := fun s _ a => s.imgSelect a false slotB true) hq hmute hf rfl
    obtain ⟨hframe, -, hstart, hkept⟩ := hlog.imaged
    rw [hch] at hframe
    exact ⟨_, rfl, (hone rfl).of_log rfl rfl, hstep, hans, hstart, hkept, hframe⟩

end Sys2Proof.Machine
end

section
/-!
SUPPORT. Snapshot rings, records, the audit log and gate-unit firmware as the host's commands reach them (R257, R410 to R412, R471 to R476,
R512, R519), with the statements about them.
-/
namespace Sys2Proof.Machine
open Sys2Proof

/-! ### The rings (R471 to R473, R476) -/

/-- Bits that an enable of the supervisory ring shows. -/
theorem snpMask_bits {v : Word} (h31 : v.getLsbD 31 = true) (h30 : v.getLsbD 30 = false) :
    (v &&& snpMask).getLsbD 31 = true ∧ (v &&& snpMask).getLsbD 30 = false := by
  simp only [BitVec.getLsbD_and, h31, h30, Bool.false_and, Bool.true_and, and_true]
  decide

/-- A rising enable with a geometry in range starts the ring. -/
theorem snpCtrl_starts {s : State} {v : Word} (h31 : v.getLsbD 31 = true) (h30 : v.getLsbD 30 = false)
    (hoff : s.mbx.ctrl.getLsbD 31 = false) (hoff' : s.mbx.ctrl.getLsbD 30 = false) (hgeo : geoOk (s.mbx.geoOf (v &&& snpMask)) = true)
    (hfit : 1088 + ((s.sys.run.map (·.snapBytes)).getD 0) + 4 ≤ (s.mbx.geoOf (v &&& snpMask)).2.2.1 * 4096) :
    ∃ m : Mbx, s.snpCtrl v = { s with mbx := m } ∧ m.chans = s.mbx.chans ∧ m.sActive = true ∧ m.head = 0 ∧ m.tail = 0 ∧ m.snpSeq = 0 ∧
      m.skipped = 0 ∧ m.sRc = s.mbx.sRc ∧ m.ctrl = v &&& snpMask ∧ m.geom = some (s.mbx.geoOf (v &&& snpMask)) := by
  obtain ⟨hm31, hm30⟩ := snpMask_bits h31 h30
  refine ⟨(s.snpCtrl v).mbx, rfl, rfl, ?_, ?_, ?_, ?_, ?_, ?_, ?_, ?_⟩
  all_goals simp only [State.snpCtrl, State.modMbx, hoff, hoff', hm31, hm30, hgeo, hfit, Bool.or_self, Bool.false_and, Bool.false_eq_true,
    if_false, Bool.not_false, Bool.and_self, if_true, decide_true, Bool.not_true, Bool.or_false, Bool.and_false]

/-- An entry fills its slot and carries its SEQ at both ends (R472). -/
theorem snapEntry_ends (s : State) (p : SnapPend) {es : Nat} (hes : 1 ≤ es) :
    (s.snapEntry (es * 4096) p).length = es * 4096 ∧ (s.snapEntry (es * 4096) p).take 4 = p4 p.seq ∧
      (s.snapEntry (es * 4096) p).drop (es * 4096 - 4) = p4 p.seq := by
  have hseq : (p4 p.seq).length = 4 := rfl
  obtain ⟨rest, hentry⟩ : ∃ rest, s.snapEntry (es * 4096) p = padTo (es * 4096 - 4) (p4 p.seq ++ rest) ++ p4 p.seq := by
    unfold State.snapEntry
    dsimp only
    simp only [List.append_assoc]
    exact ⟨_, rfl⟩
  have hpad := padTo_length (es * 4096 - 4) (p4 p.seq ++ rest)
  rw [hentry]
  refine ⟨by rw [List.length_append, hpad, hseq]; omega, ?_, ?_⟩
  · rw [List.take_append_of_le_length (by rw [hpad]; omega), padTo, List.take_take, Nat.min_eq_left (by omega), List.append_assoc,
      List.take_left' hseq]
  · exact List.drop_left' hpad

/-- With the ring full an entry is dropped and counted (R473). -/
theorem snapWrite_full {s : State} {p : SnapPend} {base lg es fl : Nat} (hg : s.mbx.geom = some (base, lg, es, fl))
    (hfull : ringFull (2 ^ lg) s.mbx.head s.mbx.tail = true) : s.snapWrite p = s.modMbx (fun m => { m with
      sRc := m.sRc ||| bitAt true 2, skipped := wrap32 (m.skipped + 1), dropB := true, nDrop := wrap32 (m.nDrop + 1) }) := by
  unfold State.snapWrite
  rw [hg]
  exact if_pos hfull

/-- With room the entry goes to the slot at HEAD, and bit 1 is raised (R472, R473). -/
theorem snapWrite_room {s : State} {p : SnapPend} {base lg es fl : Nat} (hg : s.mbx.geom = some (base, lg, es, fl))
    (hroom : ringFull (2 ^ lg) s.mbx.head s.mbx.tail = false) : s.snapWrite p = (s.modMbx (fun m => { m with
      dma := [(base + m.head * es * 4096, s.snapEntry (es * 4096) p)], head := (m.head + 1) % 2 ^ lg, skipped := 0, dropB := false
      deciB := false })).irqSet 1 := by
  unfold State.snapWrite
  rw [hg]
  exact if_neg (by simp [hroom])

/-- A bit that has been set stands. -/
theorem or_bitAt (w : Word) {k : Nat} (hk : k < 32) : (w ||| bitAt true k).getLsbD k = true := by
  simp [bitAt, hk]

/-- A command that asks something of the rings, is carried to a shadow and leaves one record (R330, R472, R475). -/
theorem carried_answers {s : State} {ch op : Nat} {q : Req} {f : State → Req → Author → State × Reply} (h : s.executing ch op q)
    (hmute : s.mute = false) {m : Mbx} {r : Reply} {at_ addr : Nat} {ws : List Word}
    (hf : f s q (s.author ch q) = (({ s with mbx := m } : State).carryCmd op (s.author ch q) at_ addr ws, r)) (hm : m.chans = s.mbx.chans)
    (hr : r.why = none) :
    let t := s.command ch op (State.logged f)
    CarryFrame s t op ∧ LoggedOne s t 0x02 ∧ Answered s t ch q r.st r.pay ∧ t.mbx.onReq = m.onReq ∧ t.mbx.fastNew = m.fastNew ∧
      t.mbx.fastL = m.fastL := by
  obtain ⟨hcar, k, hk⟩ := carryCmd_spec ({ s with mbx := m } : State) op (s.author ch q) at_ addr ws 0
  obtain ⟨hlog, -, ⟨hmbx, -⟩, hans, hone⟩ := logged_answers h hmute hf (by rw [hk]; exact hm)
  refine ⟨⟨hcar.congr rfl rfl (by rw [hlog]), by rw [hlog, hk]⟩, (hone hr).of_sys (by rw [hk]), hans, ?_, ?_, ?_⟩
  all_goals rw [hmbx, hk]

/-- Settles O44: each register write and each entry is one change of the rings, and both commands record their answer. -/
theorem snapshotRings : Obligations.SnapshotRings := by
  intro s hup
  have hs : s.up = true := by simp only [State.hostUp, Bool.and_eq_true] at hup; exact hup.1
  refine ⟨fun v h31 h30 hoff hoff' hgeo hfit => ?starts, fun p base lg es fl l hdue hact hready hg => ⟨fun hroom hes => ?written, fun hfull => ?dropped⟩,
    fun hact => ?dma, fun ch q hmute hq hpay => ?now, fun ch q ids hmute hq hids hlen => ?fast⟩
  case starts =>
    obtain ⟨m, ht, hm⟩ := snpCtrl_starts h31 h30 hoff hoff' hgeo hfit
    have hexec : exec (.snpCtrlEnable v) s = .next (s.snpCtrl v) := by simp only [exec, execSnpCtrlEnable, hup, if_true]
    exact ⟨{ s with mbx := m }, hexec.trans (congrArg _ ht), rfl, hm⟩
  case written =>
    obtain ⟨hlength, hhead, htail⟩ := snapEntry_ends s p hes
    have hexec : exec .snapshotEmission s = .next ((s.snapWrite p).modMbx (fun m => { m with snapDue := l })) := by
      have hcond : (s.mbx.sActive && (s.snapComplete p || decide (p.own.e + s.hmax + 1 ≤ s.fr))) = true := by simpa [hact] using hready
      simp only [exec, execSnapshotEmission, hdue, hcond, if_true]
    rw [snapWrite_room hg hroom] at hexec
    exact ⟨_, s.snapEntry (es * 4096) p, hexec, rfl, hlength, hhead, htail, rfl, rfl, rfl, rfl, or_bitAt _ (by decide), rfl, rfl⟩
  case dropped =>
    have hexec : exec .snapshotEmission s = .next ((s.snapWrite p).modMbx (fun m => { m with snapDue := l })) := by
      have hcond : (s.mbx.sActive && (s.snapComplete p || decide (p.own.e + s.hmax + 1 ≤ s.fr))) = true := by simpa [hact] using hready
      simp only [exec, execSnapshotEmission, hdue, hcond, if_true]
    rw [snapWrite_full hg hfull] at hexec
    exact ⟨_, hexec, rfl, rfl, rfl, rfl, rfl, rfl, or_bitAt _ (by decide), rfl⟩
  case dma =>
    have hcond : (s.up && (s.mbx.sActive || s.mbx.fActive)) = true := by simpa [hs] using hact
    refine ⟨(s.modMbx (fun m => { m with sActive := false, fActive := false, sRc := m.sRc ||| bitAt true 5 })).irqSet 6, ?_, rfl, rfl, rfl⟩
    simp only [exec, execSnapshotDmaError, hcond, if_true]
  case now =>
    obtain ⟨f, hexec, hf⟩ : ∃ f, exec (.snapshotNow ch) s = .next (s.command ch 0x50 (State.logged f)) ∧ f s q (s.author ch q) =
        (({ s with mbx := { s.mbx with onReq := true } } : State).carryCmd 0x50 (s.author ch q) (s.nextSup s.fr) 0 [],
          { st := .accepted, pay := p8 (s.nextSup s.fr) }) := ⟨_, rfl, if_neg (by simp [hpay])⟩
    obtain ⟨hcar, hone, hans, hreq, hnew, -⟩ := carried_answers hq hmute hf rfl rfl
    exact ⟨_, hexec, hcar, hone, hans, hreq, hnew⟩
  case fast =>
    have hsources : ids.any (fun x => !s.fastOk x.1) = false := by
      refine List.any_eq_false.mpr fun x hx => ?_
      simp [(hids x hx).1]
    have helems : ids.any (fun x => match s.idLen x.1 with | some n => decide (n ≤ x.2) | none => true) = false := by
      refine List.any_eq_false.mpr fun x hx => ?_
      obtain ⟨-, n, hn, hlt⟩ := hids x hx
      rw [hn]
      simpa using hlt
    obtain ⟨f, hexec, hf⟩ : ∃ f, exec (.snapshotFast ch ids) s = .next (s.command ch 0x51 (State.logged f)) ∧ f s q (s.author ch q) =
        (({ s with mbx := { s.mbx with fastNew := some ids } } : State).carryCmd 0x51 (s.author ch q) (s.nextSup s.fr) 0 (idsWords ids),
          { st := .accepted, pay := p8 (s.nextSup s.fr) }) :=
      ⟨_, rfl, (if_neg (by simp [hsources])).trans ((if_neg (Bool.not_eq_true _ ▸ helems)).trans (if_neg (by simpa using hlen)))⟩
    obtain ⟨hcar, hone, hans, hreq, hnew, hlist⟩ := carried_answers hq hmute hf rfl rfl
    exact ⟨_, hexec, hcar, hone, hans, hnew, hlist, hreq⟩

/-! ### Records, the log and gate-unit firmware (R257, R410, R412, R512, R519) -/

/-- A command that answers from the state and leaves only its record. -/
theorem readOnly_answers {s : State} {ch op : Nat} {q : Req} {f : State → Req → Author → State × Reply} (h : s.executing ch op q)
    (hmute : s.mute = false) {r : Reply} (hf : f s q (s.author ch q) = (s, r)) (hr : r.why = none) :
    let t := s.command ch op (State.logged f)
    LogFrame s t ∧ LoggedOne s t 0x02 ∧ MailboxStep s t ch ∧ Answered s t ch q r.st r.pay := by
  obtain ⟨hlog, -, hstep, hans, hone⟩ := logged_answers h hmute hf rfl
  exact ⟨hlog, hone hr, hstep, hans⟩

/-- A command that changes Peat, is carried to a shadow and leaves one record (R330). -/
theorem peatCommand_answers {s : State} {ch op : Nat} {q : Req} {f : State → Req → Author → State × Reply} (h : s.executing ch op q)
    (hmute : s.mute = false) {p : Store} {at_ addr : Nat} {ws : List Word}
    (hf : f s q (s.author ch q) = (({ s with peat := p } : State).carryCmd op (s.author ch q) at_ addr ws, {})) :
    let t := s.command ch op (State.logged f)
    LoggedOne s t 0x02 ∧ MailboxStep s t ch ∧ Answered s t ch q .ok [] ∧ Carried s t op ∧
      t.peat = { p with pageN := t.peat.pageN, pageT := t.peat.pageT } ∧
      t = { s with mbx := t.mbx, sys := t.sys, peat := t.peat, twin := { s.twin with acts := t.twin.acts } } := by
  obtain ⟨hcar, k, hk⟩ := carryCmd_spec ({ s with peat := p } : State) op (s.author ch q) at_ addr ws 0
  obtain ⟨hlog, -, hstep, hans, hone⟩ := logged_answers h hmute hf (by rw [hk])
  exact ⟨(hone rfl).of_sys (by rw [hk]), hstep.of_mbx (by rw [hk]), hans, hcar.congr rfl rfl (by rw [hlog]), by rw [hlog, hk], by rw [hlog, hk]⟩

/-- The room of a record that is taken out holds nothing any more (R519). -/
theorem drop_blocks (p : Store) (t part item : Nat) : ∀ b ∈ (p.drop t part item).blocks, ¬(b.2.1 = part ∧ b.2.2 = item) := by
  intro b hb ⟨hp, hi⟩
  have hmem : b ∈ p.blocks.filter (fun x => !(x.2.1 == part && x.2.2 == item)) := hb
  simp [hp, hi] at hmem

/-- Settles O45: reads leave their record; a record's end, a staged block and a start are each one change beside it. -/
theorem recordsLogAndGateFirmware : Obligations.RecordsLogAndGateFirmware := by
  intro s ch q hmute
  refine ⟨fun hq => ?list, fun num file ofs n hwait => ?waits, fun r num file ofs n hfree hq hrec hfile hn => ?exported, fun r num hq hrec => ?delete,
    fun from_ n hq => ?log, fun ofs bytes hq => ⟨fun hofs => ?staged, fun h0 hlen => ?sequence⟩, fun c x hq hconf hx => ?start⟩
  case list =>
    obtain ⟨f, hexec, hf⟩ : ∃ f, exec (.recordList ch) s = .next (s.command ch 0x60 (State.logged f)) ∧ f s q (s.author ch q) =
        (s, { pay := Config.recordPay s.peat.recs }) := ⟨_, rfl, rfl⟩
    have hans := readOnly_answers hq hmute hf rfl
    exact ⟨_, hexec, hans⟩
  case waits => exact congrArg Host.Outcome.next (if_pos (by simp [hwait]))
  case exported =>
    have hrecOf : s.recOf num = some r := hrec
    obtain ⟨f, hexec, hf⟩ : ∃ f, exec (.recordExport ch num file ofs n) s = .next (s.command ch 0x61 (State.logged f)) ∧
        f s q (s.author ch q) = (s, { pay := ((r.file file).drop ofs).take n }) :=
      ⟨_, congrArg Host.Outcome.next (if_neg (by simp [hfree])), by rw [hrecOf]; exact if_neg (by simp [hfile, hn])⟩
    have hans := readOnly_answers hq hmute hf rfl
    exact ⟨_, hexec, hans⟩
  case delete =>
    have hrecOf : s.recOf num = some r := hrec
    obtain ⟨hnum, -⟩ : r.num = num ∧ r.kept = true := by simpa using List.find?_some hrec
    obtain ⟨f, hexec, hf⟩ : ∃ f, exec (.recordDelete ch num) s = .next (s.command ch 0x62 (State.logged f)) ∧ f s q (s.author ch q) =
        (({ s with peat := { (s.peat.drop s.now 8 r.num) with
          recs := s.peat.recs.filter (fun x => x.num != r.num), recUsed := s.peat.recUsed - r.size, full := false } } : State).carryCmd 0x62
            (s.author ch q) s.fr num [], {}) := ⟨_, rfl, by rw [hrecOf]; rfl⟩
    obtain ⟨hone, hstep, hans, hcar, hpeat, hframe⟩ := peatCommand_answers hq hmute hf
    rw [hnum] at hpeat
    refine ⟨_, hexec, hone, hstep, hans, by rw [hpeat], by rw [hpeat], by rw [hpeat], fun b hb => ?_, hcar, hframe⟩
    rw [hpeat] at hb
    exact drop_blocks s.peat s.now 8 num b hb
  case log =>
    obtain ⟨held, hheld⟩ : ∃ held, held = s.sys.log.reverse.filter (fun r => !r.gone) := ⟨_, rfl⟩
    obtain ⟨l, hl⟩ : ∃ l, l = (held.filter (fun r => from_ ≤ r.seq)).take (min n 63) := ⟨_, rfl⟩
    obtain ⟨f, gap, old, hexec, hf⟩ : ∃ f gap old, exec (.logRead ch from_ n) s = .next (s.command ch 0x70 (State.logged f)) ∧
        f s q (s.author ch q) = (s, { pay := Config.logHead gap old ++ l.flatMap Audit.bytes }) := ⟨_, _, _, rfl, by rw [hl, hheld]⟩
    obtain ⟨hlog, hone, hstep, hans⟩ := readOnly_answers hq hmute hf rfl
    refine ⟨_, hexec, hlog, hone, hstep, l, ?_, fun r hr => ?_, gap, old, hans⟩
    · rw [hl]; exact List.length_take_le ..
    · have hmem := List.mem_of_mem_take (hl ▸ hr)
      rw [hheld] at hmem
      simpa [and_assoc, and_comm, and_left_comm] using hmem
  case staged =>
    obtain ⟨f, hexec, hf⟩ : ∃ f, exec (.guFwLoad ch ofs bytes) s = .next (s.command ch 0x80 (State.logged f)) ∧ f s q (s.author ch q) =
        (({ s with peat := { s.peat with
          guFile := if ofs == 0 then bytes else s.peat.guFile ++ bytes, dirty := s.peat.dirty + 1 } } : State).carryCmd 0x80
            (s.author ch q) s.fr ofs (bytes.map (·.setWidth 32)), {}) := ⟨_, rfl, if_pos (by simpa using hofs)⟩
    obtain ⟨hone, hstep, hans, hcar, hpeat, hframe⟩ := peatCommand_answers hq hmute hf
    refine ⟨_, hexec, hone, hstep, hans, ?_, by rw [hpeat], hcar, hframe⟩
    rw [hpeat]
    simp only [beq_iff_eq]
  case sequence =>
    obtain ⟨f, hexec, hf⟩ : ∃ f, exec (.guFwLoad ch ofs bytes) s = .next (s.command ch 0x80 (State.logged f)) ∧ f s q (s.author ch q) =
        (s, refuse .cfgSequence) := ⟨_, rfl, if_neg (by simp [h0, hlen])⟩
    obtain ⟨hlog, -, -, hans, -⟩ := logged_answers hq hmute hf rfl
    exact ⟨_, hexec, hlog, by simpa [refuse] using hans⟩
  case start =>
    obtain ⟨u, hu⟩ : ∃ u, u = s.updPort (s.cell c).port (fun p => { p with out_ := p.out_ ++ fwMsgs (s.cell c).pos s.peat.guFile }) := ⟨_, rfl⟩
    obtain ⟨f, hexec, hf⟩ : ∃ f, exec (.guFwStart ch [c]) s = .next (s.command ch 0x81 (State.logged f)) ∧ f s q (s.author ch q) =
        (u.carryCmd 0x81 (s.author ch q) s.fr 0 [BitVec.ofNat 32 c], {}) := ⟨_, rfl, by rw [if_neg (by simp [hconf]), hu]; rfl⟩
    obtain ⟨hcar, k, hk⟩ := carryCmd_spec u 0x81 (s.author ch q) s.fr 0 [BitVec.ofNat 32 c] 0
    have hcarried : (u.carryCmd 0x81 (s.author ch q) s.fr 0 [BitVec.ofNat 32 c]).link.ports =
        s.link.ports.modify (s.cell c).port (fun p => { p with out_ := p.out_ ++ fwMsgs (s.cell c).pos s.peat.guFile }) := by rw [hk, hu]; rfl
    obtain ⟨hlog, -, hstep, hans, hone⟩ := logged_answers hq hmute hf (by rw [hk, hu]; rfl)
    refine ⟨_, hexec, (hone rfl).of_sys (by rw [hk, hu]; rfl), hstep.of_mbx (by rw [hk, hu]; rfl), hans,
      hcar.congr (by rw [hu]; rfl) (by rw [hu]; rfl) (by rw [hlog]), by rw [hlog, hk, hu]; rfl, ?_, ?_⟩
    · rw [hlog, hcarried]; exact onlyAt_modify ..
    · rw [hlog, hcarried]; exact modify_at _ _ _ _ hx

end Sys2Proof.Machine
end

section
/-!
SUPPORT. Field inputs and outputs, cages, temperature and the recorder's states (R400 to R410, R538 to R558, R565, R573), with the statements
about them.
-/
namespace Sys2Proof.Machine
open Sys2Proof

/-! ### Bits of a word -/

theorem bitAt_bit (b : Bool) (k j : Nat) (hj : j < 32) : (bitAt b k).getLsbD j = (b && j == k) := by
  by_cases h : j = k
  · subst h
    cases b <;> simp [bitAt, hj]
  · cases b with
    | false => simp [bitAt]
    | true =>
      have hne : (j == k) = false := by simpa using h
      rw [hne]
      simp [bitAt, hj]
      omega

/-- The bits of a word that is put together bit by bit. -/
theorem wordOfBits_bit (f : Nat → Bool) {k : Nat} (hk : k < 32) : (wordOfBits f).getLsbD k = f k := by
  have scan : ∀ (l : List Nat) (w : Word), (l.foldl (fun w i => w ||| bitAt (f i) i) w).getLsbD k = (w.getLsbD k || (l.contains k && f k)) := by
    intro l
    induction l with
    | nil => simp
    | cons i l ih =>
      intro w
      rw [List.foldl_cons, ih, BitVec.getLsbD_or, bitAt_bit _ _ _ hk, List.contains_cons]
      by_cases h : k = i
      · subst h
        cases w.getLsbD k <;> cases f k <;> simp
      · have hne : (k == i) = false := by simpa using h
        simp [hne]
  rw [wordOfBits, scan]
  simp [hk]

theorem setBit_bit (w : Word) (i : Nat) (b : Bool) {j : Nat} (hj : j < 32) : (setBit w i b).getLsbD j = if j = i then b else w.getLsbD j := by
  rw [setBit, BitVec.getLsbD_or, BitVec.getLsbD_and, BitVec.getLsbD_not, bitAt_bit _ _ _ hj, bitAt_bit _ _ _ hj]
  by_cases h : j = i
  · simp [h]
  · have hne : (j == i) = false := by simpa using h
    rw [hne, if_neg h, Bool.and_false, Bool.and_false, Bool.or_false, Bool.not_false, decide_eq_true hj, Bool.and_true, Bool.and_true]

/-! ### Inputs (R538 to R545) -/

/-- The raw levels that a valid frame gives. -/
def State.rawOf (s : State) (f : FieldObs) : Word := wordOfBits (fun i => s.rawLevel i (f.mv.getD i 0) (s.fio.raw.getLsbD i))

/-- A valid field frame changes the field record alone: the raw levels, what stands on the terminals, and the counts of samples. -/
theorem fieldFrame_spec {s : State} (hup : s.up = true) {f : FieldObs} (hok : f.ok = true) :
    ∃ x : Fio, exec (.fieldFrame f) s = .next { s with fio := x } ∧ x.raw = s.rawOf f ∧ x.lev = s.fio.lev ∧ x.lat = s.fio.lat ∧
      x.brk = s.fio.brk ∧ x.lastF = s.now ∧ x.ok = true ∧ x.silent = s.fio.silent ∧ x.lplus = f.lplus ∧
      x.outs = s.fio.outs.mapIdx (fun o y =>
        { y with term := decide (12000 < f.term.getD o 0), limit := f.limit.getD o false, mA := f.current.getD o 0 }) :=
  ⟨_, congrArg Host.Outcome.next ((if_neg (by simp [hup])).trans (if_neg (by simp [hok]))), rfl, rfl, rfl, rfl, rfl, rfl, rfl, rfl, rfl⟩

/-- The level of a group A input at a frame (R540). -/
theorem rawOf_groupA (s : State) (f : FieldObs) {k : Nat} (hk : k < 16) : (s.rawOf f).getLsbD k =
    if (Config.groupA k).1 < f.mv.getD k 0 then true else if f.mv.getD k 0 < (Config.groupA k).2.1 then false else s.fio.raw.getLsbD k := by
  rw [State.rawOf, wordOfBits_bit _ (by omega), State.rawLevel, if_pos hk]

/-- The level of a group B input at a frame (R541). -/
theorem rawOf_groupB (s : State) (f : FieldObs) {k : Nat} (hk : 16 ≤ k) (hlt : k < 32) : (s.rawOf f).getLsbD k =
    if (groupB (s.pn gFIO 5 ((k - 16) / 8))).1 ≤ f.mv.getD k 0 then true
    else if f.mv.getD k 0 ≤ (groupB (s.pn gFIO 5 ((k - 16) / 8))).2 then false else s.fio.raw.getLsbD k := by
  rw [State.rawOf, wordOfBits_bit _ hlt, State.rawLevel, if_neg (by omega)]

/-- Settles O53: each input by the thresholds of its group, and each change of a level or a report as one bit. -/
theorem fieldInputsDebounceAndReport : Obligations.FieldInputsDebounceAndReport := by
  intro s hup
  refine ⟨fun f hok => ?frame, fun f hok => ?bad, fun k b hk hraw hlev hsince => ?level, fun k hk hlp => ⟨fun hon hlow => ?broken, fun hbrk hhigh => ?whole⟩⟩
  case frame =>
    obtain ⟨x, hexec, hraw, h1, h2, h3, h4, h5, h6, h7, houts⟩ := fieldFrame_spec hup hok
    refine ⟨{ s with fio := x }, hexec, rfl, h1, h2, h3, h4, h5, h6, h7, fun o y hy => ?_, fun k hk => ?_, fun k hlo hhi => ?_⟩
    · refine ⟨{ y with term := decide (12000 < f.term.getD o 0), limit := f.limit.getD o false, mA := f.current.getD o 0 }, ?_, rfl, rfl, rfl⟩
      simp only [houts, List.getElem?_mapIdx, hy, Option.map_some]
    · simp only [hraw, rawOf_groupA s f hk]
      refine ⟨fun h => if_pos h, fun hlow hnot => ?_, fun hhold hnot => ?_⟩
      · rw [if_neg (Int.not_lt.mpr hnot), if_pos hlow]
      · rw [if_neg (Int.not_lt.mpr hnot), if_neg (Int.not_lt.mpr hhold)]
    · simp only [hraw, rawOf_groupB s f hlo hhi]
      refine ⟨fun h => if_pos h, fun hlow => ?_, fun hhold hnot => ?_⟩
      · have hgap : (groupB (s.pn gFIO 5 ((k - 16) / 8))).2 < (groupB (s.pn gFIO 5 ((k - 16) / 8))).1 := by
          unfold groupB
          split <;> decide
        rw [if_neg (by omega), if_pos hlow]
      · rw [if_neg (Int.not_le.mpr hnot), if_neg (Int.not_le.mpr hhold)]
  case bad => exact congrArg Host.Outcome.next ((if_neg (by simp [hup])).trans (if_pos (by simp [hok])))
  case level =>
    obtain ⟨u, hu⟩ : ∃ u, u = s.modFio (fun x => { x with lev := setBit x.lev k b, since := x.since.set k 0 }) := ⟨_, rfl⟩
    have hexec : exec (.inputLevelChange k b) s = .next (u.when (b && u.pn gGFM 3 == k + 1) (fun s => s.modKern (fun k => { k with bsEdge := true }))) := by
      rw [hu]
      exact congrArg Host.Outcome.next (if_pos (by
        simp only [Bool.and_eq_true, decide_eq_true_eq, beq_iff_eq, bne_iff_ne]
        exact ⟨⟨⟨⟨hup, hk⟩, hraw⟩, hlev⟩, hsince⟩))
    have hpn : u.pn gGFM 3 = s.pn gGFM 3 := by rw [hu]; rfl
    rw [hpn] at hexec
    have hbits : ∀ j, j < 32 → u.fio.lev.getLsbD j = if j = k then b else s.fio.lev.getLsbD j := fun j hj => by rw [hu]; exact setBit_bit _ _ _ hj
    cases hedge : (b && s.pn gGFM 3 == k + 1) with
    | true =>
      rw [hedge, when_true] at hexec
      exact ⟨_, hexec, by rw [hu]; rfl, hbits, by simp⟩
    | false =>
      rw [hedge, when_false] at hexec
      exact ⟨_, hexec, by rw [hu]; rfl, hbits, by rw [hu]; simp [State.modFio]⟩
  case broken =>
    refine ⟨s.modFio (fun x => { x with brk := setBit x.brk k true }), congrArg Host.Outcome.next (if_pos (by
        simp only [Bool.and_eq_true, decide_eq_true_eq, Bool.not_eq_true']
        exact ⟨⟨⟨⟨hup, hk⟩, hon⟩, hlp⟩, hlow⟩)), rfl,
      fun j hj => (setBit_bit _ _ _ hj).trans ?_⟩
    by_cases h : j = k <;> simp [h]
  case whole =>
    refine ⟨s.modFio (fun x => { x with brk := setBit x.brk k false }), congrArg Host.Outcome.next (if_pos (by
        simp only [Bool.and_eq_true, decide_eq_true_eq, Bool.not_eq_true']
        exact ⟨⟨⟨⟨hup, hk⟩, hbrk⟩, hlp⟩, hhigh⟩)), rfl,
      fun j hj => (setBit_bit _ _ _ hj).trans ?_⟩
    by_cases h : j = k <;> simp [h]

/-! ### Outputs (R546 to R553) -/

theorem outS_of_some {s : State} {o : Nat} {y : OutS} (h : s.fio.outs[o]? = some y) : s.outS o = y := getD_of_some _ _ _ _ h

/-- A fault's change of its output, with the record of it (R551). -/
theorem outFault_eq (s : State) (o bit : Nat) (on : Bool) (f : OutS → OutS) :
    ∃ y p, s.outFault o bit on f = { s with fio := { s.fio with outs := s.fio.outs.modify o f }, sys := y, peat := p } := by
  obtain ⟨_, _, _, _, _, h⟩ := (audit_sameButLog s (Config.auditType 0) {} o (if on then 0 else 1) (if on then 1 else 0) bit 0 [] []).parts
  exact ⟨_, _, by rw [State.outFault, h]; rfl⟩

/-- An output of a cross-short. -/
def OutS.crossed (y : OutS) : OutS := { y with cross := true, latch := true, cmd := false }

/-- A cross-short latches both outputs off (R549, R552). -/
theorem crossShort_eq (s : State) (k j : Nat) : ∃ y p, s.crossShort k j = { s with
    fio := { s.fio with outs := (s.fio.outs.modify k OutS.crossed).modify j OutS.crossed }, sys := y, peat := p } := by
  obtain ⟨y, p, h⟩ := outFault_eq s k 7 true OutS.crossed
  obtain ⟨z, q, h'⟩ := outFault_eq (s.outFault k 7 true OutS.crossed) j 7 true OutS.crossed
  exact ⟨z, q, h'.trans (by rw [h])⟩

theorem modify_elsewhere {α : Type} (l : List α) {k j : Nat} (f : α → α) (h : j ≠ k) : (l.modify k f)[j]? = l[j]? := (onlyAt_modify l k f).2 j h

/-- A thermal shut-down that is not the third within 10 s holds its output off and counts it; the third latches it off (R548). -/
theorem thermalShutdown_spec {s : State} {o : Nat} {y : OutS} (hup : s.up = true) (ho : o < 16) (hy : s.fio.outs[o]? = some y) (hcmd : y.cmd = true)
    (hlimit : y.limit = true) (htherm : y.therm = false) :
    ∃ (t : State) (z : OutS), exec (.thermalShutdown o) s = .next t ∧ OnlyAt o s.fio.outs t.fio.outs ∧
      t = { s with fio := { s.fio with outs := t.fio.outs }, sys := t.sys, peat := t.peat } ∧ t.fio.outs[o]? = some z ∧
      z.therm = true ∧ z.nTherm = wrap32 (y.nTherm + 1) ∧
      (2 ≤ (y.shuts.filter (fun a => decide (s.now < a + 10000000000))).length → s.fio.lpMiss = false →
        z.gnd = true ∧ z.latch = true ∧ z.cmd = false) ∧
      ((y.shuts.filter (fun a => decide (s.now < a + 10000000000))).length < 2 →
        z.gnd = y.gnd ∧ z.latch = y.latch ∧ z.cmd = true ∧ t.sys = s.sys) := by
  obtain ⟨l, hl⟩ : ∃ l, l = y.shuts.filter (fun a => decide (s.now < a + 10000000000)) := ⟨_, rfl⟩
  obtain ⟨u, hu⟩ : ∃ u, u = s.updOut o (fun y => { y with therm := true, nTherm := wrap32 (y.nTherm + 1), shuts := s.now :: l }) := ⟨_, rfl⟩
  have hyu : u.fio.outs[o]? = some { y with therm := true, nTherm := wrap32 (y.nTherm + 1), shuts := s.now :: l } := by
    rw [hu]
    exact modify_at _ _ _ _ hy
  have hexec : exec (.thermalShutdown o) s = .next (if decide (3 ≤ (s.now :: l).length) && !u.fio.lpMiss then
      u.outFault o 5 true (fun y => { y with gnd := true, latch := true, cmd := false }) else u) := by
    rw [hu, hl, ← outS_of_some hy]
    exact congrArg Host.Outcome.next (if_pos (by simp [hup, ho, outS_of_some hy, hcmd, hlimit, htherm]))
  have hlp : u.fio.lpMiss = s.fio.lpMiss := by rw [hu]; rfl
  rw [hlp, List.length_cons] at hexec
  rw [← hl]
  by_cases hthird : (decide (3 ≤ l.length + 1) && !s.fio.lpMiss) = true
  · rw [if_pos hthird] at hexec
    obtain ⟨p, q, hf⟩ := outFault_eq u o 5 true (fun y => { y with gnd := true, latch := true, cmd := false })
    rw [hf] at hexec
    refine ⟨_, _, hexec, ?_, by rw [hu]; rfl, modify_at _ _ _ _ hyu, rfl, rfl, fun _ _ => ⟨rfl, rfl, rfl⟩, fun h => ?_⟩
    · rw [hu]
      exact onlyAt_modify_modify ..
    · simp only [Bool.and_eq_true, decide_eq_true_eq] at hthird
      omega
  · rw [if_neg hthird] at hexec
    refine ⟨u, _, hexec, by rw [hu]; exact onlyAt_modify .., by rw [hu]; rfl, hyu, rfl, rfl, fun h hlm => ?_, fun _ => ⟨rfl, rfl, hcmd, by rw [hu]; rfl⟩⟩
    exact absurd (by rw [hlm]; simp; omega) hthird

/-- A fault that comes or goes is one change of its output (R549, R550). -/
theorem outputFault_spec {s : State} {o bit : Nat} {y : OutS} {fault : OutFault} {present : Bool} {f : OutS → OutS}
    (hy : s.fio.outs[o]? = some y) (hexec : exec (.outputFault o fault present) s = .next (s.outFault o bit present f)) :
    ∃ t : State, exec (.outputFault o fault present) s = .next t ∧ OnlyAt o s.fio.outs t.fio.outs ∧
      t = { s with fio := { s.fio with outs := t.fio.outs }, sys := t.sys, peat := t.peat } ∧ t.fio.outs[o]? = some (f y) := by
  obtain ⟨p, q, hf⟩ := outFault_eq s o bit present f
  rw [hf] at hexec
  exact ⟨_, hexec, onlyAt_modify .., rfl, modify_at _ _ _ _ hy⟩

/-- A test pulse that may be sent, counted (R552). -/
def State.pulsed (s : State) (o : Nat) : State :=
  (s.modFio (fun x => { x with lastPulse := s.now })).updOut o (fun y => { y with lastT := s.now, nTest := wrap32 (y.nTest + 1) })

/-- Settles O54: shut-downs and faults by the change of their output, a pulse by what it saw. -/
theorem fieldOutputFaults : Obligations.FieldOutputFaults := by
  intro s o y hup ho hy
  have hout := outS_of_some hy
  refine ⟨fun hcmd hlimit htherm => thermalShutdown_spec hup ho hy hcmd hlimit htherm, fun htherm => ?restart, fun hlp => ⟨fun hcmd hpar hmA hopen => ?openComes,
    fun hopen => ?openGoes, fun hcmd hterm hpair hext => ?highComes, fun hext => ?highGoes⟩, ?pulse, fun k e x hx hend he => ?ends⟩
  case restart =>
    exact ⟨s.updOut o (fun y => { y with therm := false }), congrArg Host.Outcome.next (if_pos (by simp [ho, hout, htherm])), onlyAt_modify .., rfl,
      modify_at _ _ _ _ hy⟩
  case openComes =>
    exact outputFault_spec (bit := 4) (f := fun y => { y with open_ := true }) hy
      (congrArg Host.Outcome.next ((if_neg (by simp [hup, ho, hlp])).trans (if_pos (by simp [hout, hcmd, hpar, hmA, hopen]))))
  case openGoes =>
    exact outputFault_spec (bit := 4) (f := fun y => { y with open_ := false }) hy
      (congrArg Host.Outcome.next ((if_neg (by simp [hup, ho, hlp])).trans ((if_neg (by simp)).trans (if_pos (by simp [hout, hopen])))))
  case highComes =>
    exact outputFault_spec (bit := 6) (f := fun y => { y with extHi := true }) hy
      (congrArg Host.Outcome.next ((if_neg (by simp [hup, ho, hlp])).trans (if_pos (by simp [hout, hcmd, hterm, hpair, hext]))))
  case highGoes =>
    exact outputFault_spec (bit := 6) (f := fun y => { y with extHi := false }) hy
      (congrArg Host.Outcome.next ((if_neg (by simp [hup, ho, hlp])).trans ((if_neg (by simp)).trans (if_pos (by simp [hout, hext])))))
  case pulse =>
    intro obs hcmd htherm hen hcmp hpair hdue hgap hquiet hlp hoff
    obtain ⟨u, hu⟩ : ∃ u, u = s.pulsed o := ⟨_, rfl⟩
    have hyu : u.fio.outs[o]? = some { y with lastT := s.now, nTest := wrap32 (y.nTest + 1) } := by
      rw [hu]
      exact modify_at s.fio.outs o _ _ hy
    have hexec : exec (.fieldTestPulse o obs) s = .next (
        if obs.fell then forAll (obs.others.filter (fun j => j < 16 && j != o && !(u.outS j).cmd)) (fun s j => s.crossShort o j) u
        else match obs.joint.filter (fun j => j < 16 && j != o && (u.outS j).cmd) with
          | some j => u.crossShort o j
          | none => if (s.outS o).extHi then u else u.outFault o 6 true (fun y => { y with extHi := true })) := by
      rw [hu]
      refine congrArg Host.Outcome.next ((if_neg ?_).trans ((if_neg ?_).trans (if_neg ?_)))
      · simp [hup, ho, hout, hcmd, htherm, hen, hcmp, hpair, hdue, hgap, hquiet]
      · rw [Bool.not_eq_true]; exact hlp
      · simpa using hoff
    refine ⟨fun hfell hothers => ?fell, fun hfell hjoint => ?stuck, fun j hfell hjoint hj hne hjc hlen => ?joint⟩
    case fell =>
      rw [if_pos hfell, hothers] at hexec
      refine ⟨u, hexec, ?_, by rw [hu]; rfl, hyu⟩
      rw [hu]
      exact onlyAt_modify s.fio.outs o _
    case stuck =>
      rw [if_neg (by simp [hfell]), hjoint] at hexec
      by_cases hext : y.extHi = true
      · rw [Option.filter_none] at hexec
        refine ⟨u, _, hexec.trans (congrArg _ (if_pos (by rw [hout]; exact hext))), ?_, hyu, hext, rfl, rfl⟩
        rw [hu]
        exact onlyAt_modify s.fio.outs o _
      · obtain ⟨p, q, hf⟩ := outFault_eq u o 6 true (fun y => { y with extHi := true })
        refine ⟨_, _, hexec.trans (congrArg _ ((if_neg (by rw [hout]; exact hext)).trans hf)), ?_, modify_at _ _ _ _ hyu, rfl, rfl, rfl⟩
        rw [hu]
        exact onlyAt_modify_modify s.fio.outs o _ _
    case joint =>
      obtain ⟨w, hw⟩ : ∃ w, s.fio.outs[j]? = some w := ⟨_, List.getElem?_eq_getElem (by omega)⟩
      have hwu : u.fio.outs[j]? = some w := by
        rw [hu]
        exact (modify_elsewhere s.fio.outs _ hne).trans hw
      have hwc : (u.outS j).cmd = true := by
        rw [outS_of_some hwu, ← outS_of_some hw]
        exact hjc
      rw [if_neg (by simp [hfell]), hjoint, Option.filter_some, if_pos (by simp [hj, hne, hwc])] at hexec
      obtain ⟨p, q, hc⟩ := crossShort_eq u o j
      refine ⟨_, OutS.crossed { y with lastT := s.now, nTest := wrap32 (y.nTest + 1) }, OutS.crossed w, hexec.trans (congrArg _ hc), ?_, modify_at _ _ _ _ ((modify_elsewhere _ _ hne).trans hwu), rfl, rfl, rfl, rfl, rfl, rfl,
        fun k hko hkj => ?_⟩
      · exact (modify_elsewhere _ _ hne.symm).trans (modify_at _ _ _ _ hyu)
      · refine (modify_elsewhere _ _ hkj).trans ((modify_elsewhere _ _ hko).trans ?_)
        rw [hu]
        exact modify_elsewhere s.fio.outs _ hko
  case ends =>
    have htrk : (s.tracker k).pulseEnd = some e := by rw [show s.tracker k = x from getD_of_some _ _ _ _ hx]; exact hend
    obtain ⟨u, hu⟩ : ∃ u, u = s.updTrk k (fun x => { x with pulseEnd := none }) := ⟨_, rfl⟩
    have hcmp : u.cmpOut k = s.cmpOut k := by rw [hu]; rfl
    have hexec : exec (.compareOutputPulseEnd k) s = .next (match u.cmpOut k with
        | some o => u.updOut o (fun y => { y with cmd := u.outState o, src := u.outSource o })
        | none => u) := by
      show Host.Outcome.next (match (s.tracker k).pulseEnd with | some e => if e ≤ s.now then _ else s | none => s) = _
      rw [htrk, hu]
      exact congrArg Host.Outcome.next (if_pos he)
    rw [hcmp] at hexec
    cases ho' : s.cmpOut k with
    | none =>
      rw [ho'] at hexec
      exact ⟨u, hexec, by rw [hu]; rfl, by rw [hu]; exact onlyAt_modify .., by rw [hu]; exact modify_at _ _ _ _ hx, fun _ => by rw [hu]; exact hy⟩
    | some p =>
      rw [ho'] at hexec
      refine ⟨_, hexec, by rw [hu]; rfl, by rw [hu]; exact onlyAt_modify .., by rw [hu]; exact modify_at _ _ _ _ hx, fun hne => ?_⟩
      refine (modify_elsewhere _ _ fun h => hne (by rw [h])).trans ?_
      rw [hu]
      exact hy

/-! ### Silence, supply, cages and temperature (R555 to R558, R565, R573) -/

theorem chan_e1 (s : State) (k : Nat) : (s.chan k).e1 = (s.mbx.chans.map (·.e1)).getD k false := by
  simp only [State.chan, List.getD_eq_getElem?_getD, List.getElem?_map]
  cases s.mbx.chans[k]? <;> rfl

/-- A session that ends leaves the connections, the hardware and the sticky bits. -/
theorem sessionClose_conns (s : State) (c why : Nat) :
    (s.sessionClose c why).mbx.chans.map (·.e1) = s.mbx.chans.map (·.e1) ∧ (s.sessionClose c why).hw = s.hw ∧
      (s.sessionClose c why).pub = s.pub := by
  cases hs : (s.chan c).sess with
  | none => rw [sessionClose_none why hs]; exact ⟨rfl, rfl, rfl⟩
  | some x =>
    obtain ⟨v, hsame, -, hend⟩ := sessionClose_some why hs
    rw [hend]
    exact ⟨map_modify_eq (f := fun c : Chan => { c with sess := none }) (fun _ => rfl) _ _, by rw [hsame], by rw [hsame]⟩

/-- A connection that drops: its own mark falls, and no other rises. -/
theorem e1Drop_conns (s : State) (c : Nat) : ((s.e1Drop c).chan c).e1 = false ∧
    (∀ k, (s.chan k).e1 = false → ((s.e1Drop c).chan k).e1 = false) ∧ (s.e1Drop c).hw = s.hw ∧ (s.e1Drop c).pub = s.pub := by
  unfold State.e1Drop
  split
  case isFalse h => exact ⟨by simpa using h, fun _ hk => hk, rfl, rfl⟩
  case isTrue h =>
    obtain ⟨hmap, hkept⟩ := sessionClose_conns s c 2
    obtain ⟨u, hu⟩ : ∃ u, u = s.sessionClose c 2 := ⟨_, rfl⟩
    rw [← hu] at hmap hkept ⊢
    have hafter : ∀ k, ((u.updChan c (fun x => { x with e1 := false })).chan k).e1 = if k = c then false else (u.chan k).e1 := by
      intro k
      simp only [State.chan, updChan_mbx, List.getD_eq_getElem?_getD, List.getElem?_modify]
      by_cases hk : k = c
      · subst hk
        cases u.mbx.chans[k]? <;> simp [Chan.reset]
      · simp [hk, Ne.symm hk]
    refine ⟨by simp [hafter], fun k hk => ?_, hkept⟩
    have hsame : (u.chan k).e1 = (s.chan k).e1 := by rw [chan_e1, chan_e1, hmap]
    rw [hafter, hsame, hk]
    simp

/-- Connections that drop one after another are all down, and the hardware is as before. -/
theorem e1Drops_conns (l : List Nat) (s : State) : (∀ k ∈ l, ((forAll l State.e1Drop s).chan k).e1 = false) ∧
    (∀ k, (s.chan k).e1 = false → ((forAll l State.e1Drop s).chan k).e1 = false) ∧ (forAll l State.e1Drop s).hw = s.hw ∧
      (forAll l State.e1Drop s).pub = s.pub := by
  induction l generalizing s with
  | nil => exact ⟨fun _ h => (nomatch h), fun _ h => h, rfl, rfl⟩
  | cons c l ih =>
    obtain ⟨hc, hkeep, hhw, hpub⟩ := e1Drop_conns s c
    obtain ⟨hall, hstay, hhw', hpub'⟩ := ih (s.e1Drop c)
    refine ⟨fun k hk => ?_, fun k hk => hstay k (hkeep k hk), hhw'.trans hhw, hpub'.trans hpub⟩
    rcases List.mem_cons.mp hk with rfl | hk
    · exact hstay _ hc
    · exact hall k hk

/-- A bit that is set where `b` holds. -/
theorem when_rcSet (s : State) (b : Bool) (d e k : Nat) (hk : k < 32) :
    (∃ l, s.when b (fun s => s.rcSet d e k) = { s with pub := { s.pub with ev := l } }) ∧
      (b = true → (s.when b (fun s => s.rcSet d e k)).rcBit d e k = true) ∧ (b = false → s.when b (fun s => s.rcSet d e k) = s) := by
  cases b with
  | false => exact ⟨⟨_, rfl⟩, fun h => (nomatch h), fun _ => rfl⟩
  | true => exact ⟨⟨_, rfl⟩, fun _ => rcBit_rcSet _ _ _ _ hk, fun h => (nomatch h)⟩

section Hysteresis
variable {n c k : Nat} {old : Bool}

/-- A flag with hysteresis is set by its one count, cleared by its other, and else held (R558). -/
theorem hyst_set (h : k ≤ n) : (decide (k ≤ n) || (old && !decide (k ≤ c))) = true := by simp [h]
theorem hyst_clear (h : n < k) (h' : k ≤ c) : (decide (k ≤ n) || (old && !decide (k ≤ c))) = false := by
  rw [decide_eq_false (Nat.not_le.mpr h), decide_eq_true h', Bool.not_true, Bool.and_false, Bool.or_false]
theorem hyst_hold (h : n < k) (h' : c < k) : (decide (k ≤ n) || (old && !decide (k ≤ c))) = old := by
  rw [decide_eq_false (Nat.not_le.mpr h), decide_eq_false (Nat.not_le.mpr h'), Bool.not_false, Bool.and_true, Bool.false_or]

end Hysteresis

/-- Settles O55: silence and its end, the monitor, the cages and the base temperature, each by its own change. -/
theorem silenceSupplyAndPlatform : Obligations.SilenceSupplyAndPlatform := by
  intro s hup
  refine ⟨fun hsil hlate => ?silence, fun hsil hok => ?frames, ?supply, fun present fault => ?cages, fun x => ?temperature⟩
  case silence =>
    refine ⟨((s.modFio (fun x => { x with silent := true, silAt := s.now, ok := false })).rcSet 263 0 4).modFio (fun x =>
      { x with outs := x.outs.mapIdx (fun o y => { y with cmd := s.outSafe o y.cmd, safe := true }) }),
      congrArg Host.Outcome.next (if_pos (by simp [hup, hsil, hlate])), rfl, rcBit_rcSet _ 263 0 4 (by decide), rfl, rfl, rfl, fun o y hy => ?_⟩
    show (s.fio.outs.mapIdx _)[o]? = _
    rw [List.getElem?_mapIdx, hy]
    rfl
  case frames =>
    have hexec : exec .fieldFramesReturn s = .next ((s.audit (Config.auditType 1) {} 0 s.fio.silAt ((s.now - s.fio.silAt : Nat) : Int)).modFio
        (fun x => { x with silent := false, silHold := true })) := congrArg Host.Outcome.next (if_pos (by simp [hsil, hok]))
    obtain ⟨hone, hsame⟩ := audit_spec s (Config.auditType 1) {} 0 s.fio.silAt ((s.now - s.fio.silAt : Nat) : Int)
    obtain ⟨_, _, _, _, _, h⟩ := hsame.parts
    rw [h] at hexec hone
    exact ⟨_, hexec, ⟨_, hone⟩, rfl⟩
  case supply =>
    refine ⟨s.modFio (fun x => { x with
        lpMiss := decide (lpSamples ≤ x.lpMissN) || (x.lpMiss && !decide (lpSamples ≤ x.lpMissC))
        lpLow := decide (lpSamples ≤ x.lpLowN) || (x.lpLow && !decide (lpSamples ≤ x.lpLowC)) }),
      congrArg Host.Outcome.next (if_pos hup), rfl, hyst_set, hyst_clear, hyst_hold, hyst_set, hyst_clear, hyst_hold⟩
  case cages =>
    obtain ⟨a, ha⟩ : ∃ a, a = (s.modHw (fun h => { h with e2 := present })).when fault (fun s => s.rcSet 270 0 7) := ⟨_, rfl⟩
    obtain ⟨b, hb⟩ : ∃ b, b = (s.modHw (fun h => { h with e1 := present })).when fault (fun s => s.rcSet 270 0 6) := ⟨_, rfl⟩
    obtain ⟨⟨l, hl⟩, hbit, hnone⟩ := when_rcSet (s.modHw (fun h => { h with e2 := present })) fault 270 0 7 (by decide)
    obtain ⟨⟨m, hm⟩, hbit', -⟩ := when_rcSet (s.modHw (fun h => { h with e1 := present })) fault 270 0 6 (by decide)
    rw [← ha] at hl hbit hnone
    rw [← hb] at hm hbit'
    have hexecA : exec (.sfpInsertRemove true present fault) s = .next a := by
      rw [ha]
      exact congrArg Host.Outcome.next ((if_neg (by simp [hup])).trans (if_neg (by simp)))
    have hexecB : exec (.sfpInsertRemove false present fault) s = .next (if !present then b.e1DropAll else b) := by
      rw [hb]
      refine congrArg Host.Outcome.next ((if_neg (by simp [hup])).trans ?_)
      simp only [Bool.not_false, Bool.and_true]
      rfl
    have hframe : a = { s with hw := { s.hw with e2 := present }, pub := { s.pub with ev := a.pub.ev } } := by rw [hl]; rfl
    have hpub : fault = false → a.pub = s.pub := fun h => by rw [hnone h]; rfl
    have hbhw : b.hw = { s.hw with e1 := present } := by rw [hm]; rfl
    cases present with
    | true => exact ⟨a, b, hexecA, hframe, hbit, hpub, hexecB, hbhw, hbit', fun _ => by rw [hm]; exact ⟨rfl, rfl⟩, fun h => (nomatch h)⟩
    | false =>
      obtain ⟨hdown, -, hhw, hpub'⟩ := e1Drops_conns (List.range 8) b
      refine ⟨a, b.e1DropAll, hexecA, hframe, hbit, hpub, hexecB, hhw.trans hbhw, fun h => ?_, fun h => (nomatch h), fun _ ch hch =>
        hdown ch (List.mem_range.mpr hch)⟩
      have hsame : b.e1DropAll.pub = b.pub := hpub'
      rw [State.rcBit, hsame]
      exact hbit' h
  case temperature =>
    obtain ⟨u, hu⟩ : ∃ u, u = s.modHw (fun h => { h with
        base := x, high := fGt x (degC 70) || (s.hw.high && !fLe x (degC 68)), limit := fGt x (degC 80) || (s.hw.limit && !fLe x (degC 78))
        low := fLt x (degC (-25)) || (s.hw.low && !fGe x (degC (-23))) }) := ⟨_, rfl⟩
    obtain ⟨news, hnews⟩ : ∃ news, news = ((u.hw.high && !s.hw.high) || (u.hw.limit && !s.hw.limit) || (u.hw.low && !s.hw.low)) := ⟨_, rfl⟩
    have hexec : exec (.temperatureThreshold x) s = .next (u.when news (fun s => s.rcSet 270 0 1)) := by
      rw [hnews, hu]
      exact congrArg Host.Outcome.next (if_neg (by simp [hup]))
    obtain ⟨⟨l, hl⟩, hbit, -⟩ := when_rcSet u news 270 0 1 (by decide)
    have hhw : (u.when news (fun s => s.rcSet 270 0 1)).hw = u.hw := by rw [hl]
    refine ⟨_, hexec, by rw [hl, hu]; rfl, by rw [hhw, hu]; rfl, by rw [hhw, hu]; rfl, by rw [hhw, hu]; rfl, by rw [hhw, hu]; rfl, fun hlim hold => hbit ?_,
      by rw [hhw, hu]; rfl, by rw [hhw, hu]; rfl⟩
    rw [hhw] at hlim
    simp [hnews, hlim, hold]

/-! ### The recorder (R400, R402, R404, R410) -/

/-- A reservation changes the recorder alone; what it leaves of it. -/
theorem reserve_spec (s : State) : ∃ a : Acq, s.reserve = { s with acq := a } ∧ a.done_ = s.acq.done_ ∧ a.ring = [] ∧ a.cur = none ∧
    (s.sRec ≤ s.acqFree → a.st = .filling ∧ a.held = true) ∧ (s.acqFree < s.sRec → a.st = .waitMemory ∧ a.held = false) :=
  ⟨_, rfl, rfl, rfl, rfl, fun h => ⟨if_pos (by simpa using h), by simpa using h⟩, fun h => ⟨if_neg (by simpa using h), by simpa using h⟩⟩

/-- What follows a hold-off that has passed, in the recorder alone. -/
theorem afterHoldoff_spec (s : State) : ∃ a : Acq, s.afterHoldoff = { s with acq := a } ∧ a.done_ = s.acq.done_ ∧ a.ring = [] ∧
    (s.acq.cur = none → a.cur = none) ∧ (s.acq.stopDis = true → a.st = .disarmed ∧ a.held = false) ∧
    (s.acq.stopDis = false → s.sRec ≤ s.acqFree → a.st = .filling ∧ a.held = true) ∧
    (s.acq.stopDis = false → s.acqFree < s.sRec → a.st = .waitMemory ∧ a.held = false) := by
  cases hs : s.acq.stopDis with
  | true => exact ⟨_, if_pos hs, rfl, rfl, id, fun _ => ⟨rfl, rfl⟩, fun h => (nomatch h), fun h => (nomatch h)⟩
  | false =>
    obtain ⟨a, ha, hdone, hring, hcur, hfits, hwaits⟩ := reserve_spec s
    exact ⟨a, (if_neg (by simp [hs])).trans ha, hdone, hring, fun _ => hcur, fun h => (nomatch h), fun _ => hfits, fun _ => hwaits⟩

/-- Settles O56: each state of the recorder by the row that leaves it. -/
theorem recorderStates : Obligations.RecorderStates := by
  intro s
  refine ⟨fun hst hfull => ?armed, fun r hcur hst hfull => ?complete, fun hst hend => ?holdoff, fun hst hfree => ?reserved⟩
  case armed => exact congrArg Host.Outcome.next (if_pos (by simp [hst, hfull]))
  case complete =>
    obtain ⟨z, hz⟩ : ∃ z : Rec, z = { r with
        raw := (List.range 4).map (fun k =>
          (((s.acq.rawRing.getD k []).drop (s.acq.rawN.getD k 0 - (r.rawAt.getD k 0 + s.rawPost k))).take (s.rawPost k + s.rawPre k)).reverse)
        size := s.sRec } := ⟨_, rfl⟩
    obtain ⟨u, hu⟩ : ∃ u, u = (s.modAcq (fun a => { a with
        cur := none, done_ := a.done_ ++ [z], held := false, st := .holdoff, hoEnd := s.now + s.pn gACQ 8, hoCnt := s.pn gACQ 9 })).rcSet 190 0 4 := ⟨_, rfl⟩
    have hexec : exec .recordComplete s = .next (
        if u.acq.stopDis || (if s.pn gACQ 7 == 1 then s.pn gACQ 9 == 0 else s.pn gACQ 8 == 0) then u.afterHoldoff else u) := by
      rw [hu, hz]
      show Host.Outcome.next (match s.acq.cur with | some r => if _ then _ else s | none => s) = _
      rw [hcur]
      exact congrArg Host.Outcome.next (if_pos (by simp [hst, hfull]))
    have hstop : u.acq.stopDis = s.acq.stopDis := by rw [hu]; rfl
    have hbit : u.rcBit 190 0 4 = true := by rw [hu]; exact rcBit_rcSet _ 190 0 4 (by decide)
    rw [hstop] at hexec
    cases hover : (s.acq.stopDis || (if s.pn gACQ 7 == 1 then s.pn gACQ 9 == 0 else s.pn gACQ 8 == 0)) with
    | true =>
      rw [if_pos hover] at hexec
      obtain ⟨a, ha, hdone, -, hcur', hdis, -, -⟩ := afterHoldoff_spec u
      rw [ha] at hexec
      refine ⟨_, z, hexec, by rw [hu]; rfl, hdone.trans (by rw [hu]; rfl), by rw [hz], by rw [hz], by rw [hz], by rw [hz], by rw [hz],
        hcur' (by rw [hu]; rfl), hbit, fun hs htime => ?_, fun hs => (hdis (hstop.trans hs)).1⟩
      simp only [hs, Bool.false_or] at hover
      split at hover <;> simp_all
    | false =>
      rw [if_neg (by rw [hover]; exact Bool.false_ne_true)] at hexec
      refine ⟨u, z, hexec, by rw [hu]; rfl, by rw [hu]; rfl, by rw [hz], by rw [hz], by rw [hz], by rw [hz], by rw [hz], by rw [hu]; rfl, hbit,
        fun _ _ => by rw [hu]; exact ⟨rfl, rfl, rfl⟩, fun hs => ?_⟩
      simp [hs] at hover
  case holdoff =>
    have hexec : exec .holdoffEnd s = .next s.afterHoldoff := by
      refine congrArg Host.Outcome.next (if_pos ?_)
      rw [hst]
      split at hend <;> simp_all
    obtain ⟨a, ha, hdone, hring, -, hdis, hfits, hwaits⟩ := afterHoldoff_spec s
    rw [ha] at hexec
    exact ⟨_, hexec, rfl, hdone, hring, hdis, hfits, hwaits⟩
  case reserved =>
    refine (congrArg Host.Outcome.next (if_pos (by simp [hst, hfree]))).trans ?_
    simp [State.reserve, State.modAcq, hfree, Acq.reset]

end Sys2Proof.Machine
end

section
/-!
SUPPORT. The Peat store (R515 to R532): what its operations change, the writes that are due, scrub reads and failures, with the statements
about them.
-/
namespace Sys2Proof.Machine
open Sys2Proof

/-! ### What the operations on blocks change (R517, R520, R521) -/

theorem takeN_zero (p : Store) (t part item : Nat) : p.takeN t part item 0 = p := by
  unfold Store.takeN
  rfl

theorem takeN_succ (p : Store) (t part item n : Nat) : p.takeN t part item (n + 1) = (p.take t part item).takeN t part item n := by
  delta Store.takeN
  rfl

/-- `q` is `p` but for blocks and their wear: erases, the map, copies under way, and the changes that wait for a commit. -/
def Store.Flash (p q : Store) : Prop :=
  ∃ e r l d b m, q = { p with erase := e, reErase := r, ers := l, dirty := d, blocks := b, movs := m }

namespace Store.Flash
variable {p q : Store}

theorem refl (p : Store) : p.Flash p := ⟨_, _, _, _, _, _, rfl⟩

theorem trans {r : Store} (h : p.Flash q) (k : q.Flash r) : p.Flash r := by
  obtain ⟨_, _, _, _, _, _, rfl⟩ := h
  obtain ⟨_, _, _, _, _, _, rfl⟩ := k
  exact ⟨_, _, _, _, _, _, rfl⟩

theorem erased (h : p.Flash q) {t b : Nat} : p.Flash (q.erased t b) := h.trans ⟨_, _, _, _, _, _, rfl⟩

theorem erases (h : p.Flash q) {t : Nat} {l : List Nat} : p.Flash (l.foldl (fun p b => p.erased t b) q) := by
  induction l generalizing q with
  | nil => exact h
  | cons b l ih => exact ih h.erased

theorem ready (h : p.Flash q) {t b : Nat} : p.Flash (q.ready t b) := by
  unfold Store.ready
  split
  · exact h.erased
  · exact h

theorem ran (h : p.Flash q) {t : Nat} : p.Flash (q.ran t) := h.trans ⟨_, _, _, _, _, _, rfl⟩

theorem take (h : p.Flash q) {t part item : Nat} : p.Flash (q.take t part item) := by
  unfold Store.take
  split
  · exact h.ready.trans ⟨_, _, _, _, _, _, rfl⟩
  · exact h

theorem takeN {n : Nat} (h : p.Flash q) {t part item : Nat} : p.Flash (q.takeN t part item n) := by
  induction n generalizing q with
  | zero => rwa [takeN_zero]
  | succ n ih =>
    rw [takeN_succ]
    exact ih h.take

theorem unmove (h : p.Flash q) {l : List Nat} : p.Flash (q.unmove l) := h.trans ⟨_, _, _, _, _, _, rfl⟩

theorem ringBlock (h : p.Flash q) {t part : Nat} : p.Flash (q.ringBlock t part) := by
  unfold Store.ringBlock
  split
  · exact h.takeN
  · exact takeN (h.unmove.erases.trans ⟨_, _, _, _, _, _, rfl⟩)

theorem copyTo (h : p.Flash q) {t b n : Nat} : p.Flash (q.copyTo t b n) := h.ready.trans ⟨_, _, _, _, _, _, rfl⟩

theorem renew (h : p.Flash q) {t b : Nat} : p.Flash (q.renew t b) := by
  unfold Store.renew
  split
  · split
    · exact h.copyTo
    · exact h
  · exact h

theorem level (h : p.Flash q) {t n k : Nat} : p.Flash (q.level t n k) := by
  unfold Store.level
  split
  · exact h
  split
  · split
    · exact h.copyTo
    · exact h
  · exact h

end Store.Flash

/-! ### The map and the copies under way -/

theorem erased_map (p : Store) (t b : Nat) : (p.erased t b).blocks = p.blocks ∧ (p.erased t b).movs = p.movs := ⟨rfl, rfl⟩

theorem erases_map (p : Store) (t : Nat) (l : List Nat) :
    (l.foldl (fun p b => p.erased t b) p).blocks = p.blocks ∧ (l.foldl (fun p b => p.erased t b) p).movs = p.movs := by
  induction l generalizing p with
  | nil => exact ⟨rfl, rfl⟩
  | cons b l ih => exact ih (p.erased t b)

theorem ready_map (p : Store) (t b : Nat) : (p.ready t b).blocks = p.blocks ∧ (p.ready t b).movs = p.movs := by
  unfold Store.ready
  split <;> exact ⟨rfl, rfl⟩

/-- The scan for the least key ends within the list. -/
theorem leastBy_mem {key : Nat → Nat} {l : List Nat} {b : Nat} (h : leastBy key l = some b) : b ∈ l := by
  have scan : ∀ (l : List Nat) (m : Nat), l.foldl (fun m x => if key x < key m then x else m) m ∈ m :: l := by
    intro l
    induction l with
    | nil => simp
    | cons x l ih =>
      intro m
      rw [List.foldl_cons]
      split
      · exact List.mem_cons_of_mem _ (ih x)
      · rcases List.mem_cons.mp (ih m) with h | h
        · rw [h]; exact List.mem_cons_self ..
        · exact List.mem_cons_of_mem _ (List.mem_cons_of_mem _ h)
  cases l with
  | nil => nomatch h
  | cons m l => exact Option.some.inj h ▸ scan l m

theorem leastBy_some {key : Nat → Nat} {l : List Nat} (h : l ≠ []) : ∃ b, leastBy key l = some b ∧ b ∈ l := by
  cases l with
  | nil => exact absurd rfl h
  | cons m l => exact ⟨_, rfl, leastBy_mem rfl⟩

/-- A new block joins the map, from the free ones, and no copy begins or ends. -/
theorem take_map (p : Store) (t part item : Nat) : ∃ l, (p.take t part item).blocks = p.blocks ++ l ∧ (∀ x ∈ l, x.1 ∈ p.freeBlocks) ∧
    (p.take t part item).movs = p.movs := by
  unfold Store.take
  split
  case h_1 b hb =>
    refine ⟨[(b, part, item)], by rw [← (ready_map p t b).1], fun x hx => ?_, (ready_map p t b).2⟩
    obtain rfl := List.mem_singleton.mp hx
    exact leastBy_mem hb
  case h_2 => exact ⟨[], by simp, fun _ h => (nomatch h), rfl⟩

theorem takeN_movs (n : Nat) (p : Store) (t part item : Nat) : (p.takeN t part item n).movs = p.movs := by
  induction n generalizing p with
  | zero => rw [takeN_zero]
  | succ n ih =>
    obtain ⟨-, -, -, h⟩ := take_map p t part item
    rw [takeN_succ, ih, h]

/-- A pair of blocks for the journal begins no copy. -/
theorem ringBlock_movs {p : Store} (h : p.movs = []) (t part : Nat) : (p.ringBlock t part).movs = [] := by
  unfold Store.ringBlock
  split
  · rw [takeN_movs, h]
  · rw [takeN_movs]
    refine (erases_map _ t _).2.trans ?_
    rw [Store.unmove, h]
    rfl

/-- The data of a block that may move goes to a free block by the next commit (R521, R525). -/
theorem renew_movs {p : Store} {b : Nat} (hm : p.movable b = true) (hf : p.freeBlocks ≠ []) (t : Nat) :
    ∃ n ∈ p.freeBlocks, (p.renew t b).movs = p.movs ++ [(b, n)] := by
  obtain ⟨n, hn, hmem⟩ := leastBy_some (key := p.wear) hf
  refine ⟨n, hmem, ?_⟩
  rw [Store.renew, if_pos hm, hn]
  exact congrArg (· ++ [(b, n)]) (ready_map p t n).2

theorem renew_blocks (p : Store) (t b : Nat) : (p.renew t b).blocks = p.blocks := by
  unfold Store.renew
  split
  · split
    · exact (ready_map p t _).1
    · rfl
  · rfl

/-- Levelling leaves the map and the copies under way, and begins at most one more (R520). -/
theorem level_map (p : Store) (t n k : Nat) : (p.level t n k).blocks = p.blocks ∧ ∃ l, (p.level t n k).movs = p.movs ++ l := by
  unfold Store.level
  split
  · exact ⟨rfl, [], by simp⟩
  split
  · split
    · exact ⟨(ready_map p t _).1, _, congrArg (· ++ _) (ready_map p t _).2⟩
    · exact ⟨rfl, [], by simp⟩
  · exact ⟨rfl, [], by simp⟩

/-! ### Writes that are due (R523 to R526) -/

/-- A commit: the map takes the copies made, and what it mirrors (R446, R525). -/
theorem journalCommit_spec (s : State) : ∃ p : Store, s.journalCommit = { s with peat := p } ∧ p.dirty = 0 ∧ p.commitN = s.peat.commitN + 1 ∧
    p.lastC = s.now ∧ p.mirSeq = s.sys.seqNo ∧ p.mirSec = s.now / 1000000000 ∧ p.mirEp = s.twin.epoch ∧ p.movs = [] ∧ p.recs = s.peat.recs ∧
    p.bad = s.peat.bad ∧ p.pageN = s.peat.pageN ∧
    (s.peat.commitN = 0 ∨ s.peat.commitN % 64 ≠ 0 → p.blocks = movedMap s.peat.movs s.peat.blocks) := by
  obtain ⟨q, hq⟩ : ∃ q, q = (s.peat.ran s.now).moved s.now := ⟨_, rfl⟩
  have hblocks : q.blocks = movedMap s.peat.movs s.peat.blocks := by rw [hq]; rfl
  have hmovs : q.movs = [] := by rw [hq]; rfl
  have hrest : q.recs = s.peat.recs ∧ q.bad = s.peat.bad ∧ q.pageN = s.peat.pageN ∧ q.commitN = s.peat.commitN := by
    obtain ⟨_, _, _, _, _, _, hf⟩ := ((Store.Flash.refl s.peat).ran (t := s.now)).erases (t := s.now) (l := (s.peat.ran s.now).movs.map (·.1))
    rw [List.foldl_map] at hf
    rw [hq, Store.moved, hf]
    exact ⟨rfl, rfl, rfl, rfl⟩
  obtain ⟨r, hr⟩ : ∃ r, r = if q.commitN != 0 && q.commitN % 64 == 0 then q.ringBlock s.now 7 else q := ⟨_, rfl⟩
  have hflash : q.Flash r := by
    rw [hr]
    split
    · exact (Store.Flash.refl q).ringBlock
    · exact .refl q
  have hrmovs : r.movs = [] := by
    rw [hr]
    split
    · exact ringBlock_movs hmovs _ _
    · exact hmovs
  refine ⟨{ r with dirty := 0, commitN := r.commitN + 1, lastC := s.now, mirSeq := s.sys.seqNo, mirSec := s.now / 1000000000
                   mirEp := s.twin.epoch }, by rw [hr, hq]; rfl, rfl, ?_, rfl, rfl, rfl, rfl, hrmovs, ?_, ?_, ?_, fun hplain => ?_⟩
  · obtain ⟨_, _, _, _, _, _, rfl⟩ := hflash
    exact congrArg (· + 1) hrest.2.2.2
  · obtain ⟨_, _, _, _, _, _, rfl⟩ := hflash
    exact hrest.1
  · obtain ⟨_, _, _, _, _, _, rfl⟩ := hflash
    exact hrest.2.1
  · obtain ⟨_, _, _, _, _, _, rfl⟩ := hflash
    exact hrest.2.2.1
  · have hno : (q.commitN != 0 && q.commitN % 64 == 0) = false := by
      rw [hrest.2.2.2]
      rcases hplain with h | h <;> simp [h]
    rw [hno] at hr
    exact (congrArg Store.blocks hr).trans hblocks

/-- A page of the audit log leaves the buffer (R526). -/
theorem auditPage_spec (s : State) : ∃ p : Store, s.auditPage = { s with peat := p } ∧ p.commitN = s.peat.commitN ∧ p.pageN = s.peat.pageN - 64 ∧ p.pageT = s.now ∧
    p.stored = s.sys.seqNo - (s.peat.pageN - 64) ∧ p.recs = s.peat.recs ∧ p.bad = s.peat.bad := by
  obtain ⟨q, hq⟩ : ∃ q, q = s.peat.ran s.now := ⟨_, rfl⟩
  obtain ⟨r, hr⟩ : ∃ r, r = if q.auditPg % 64 == 0 then q.ringBlock s.now 4 else q := ⟨_, rfl⟩
  have hflash : s.peat.Flash r := by
    rw [hr, hq]
    split
    · exact (Store.Flash.refl s.peat).ran.ringBlock
    · exact (Store.Flash.refl s.peat).ran
  obtain ⟨p, hp⟩ : ∃ p, p = { r with pageN := r.pageN - 64, pageT := s.now, stored := s.sys.seqNo - (r.pageN - 64), dirty := r.dirty + 1
                                     auditPg := r.auditPg + 1 } := ⟨_, rfl⟩
  refine ⟨p, by rw [hp, hr, hq]; rfl, ?_⟩
  obtain ⟨_, _, _, _, _, _, rfl⟩ := hflash
  rw [hp]
  exact ⟨rfl, rfl, rfl, rfl, rfl, rfl⟩

/-- Work of a kind that none of a higher precedence holds back (R523). -/
theorem peatFree_iff (s : State) (w : PeatWork) : s.peatFree w = true ↔
    (s.journalDue = true → w.rank ≤ 2) ∧ (s.auditDue = true → w.rank ≤ 3) ∧ (s.recDue = true → w.rank ≤ 6) := by
  simp only [State.peatFree, List.all_cons, List.all_nil, State.peatWaits, show PeatWork.journal.rank = 2 from rfl,
    show PeatWork.audit.rank = 3 from rfl, show PeatWork.record.rank = 6 from rfl, Bool.and_true, Bool.and_eq_true, Bool.or_eq_true,
    decide_eq_true_eq, Bool.not_eq_true']
  cases s.journalDue <;> cases s.auditDue <;> cases s.recDue <;> simp

/-- Settles O51: each write that is due, and what holds it back. -/
theorem peatWritesWhatIsDue : Obligations.PeatWritesWhatIsDue := by
  intro s hup
  refine ⟨fun hdue => ?commit, fun hdue => ?pageWaits, fun hdue => ?recordWaits, fun hfree hdue => ?page, fun r l hj ha hrec hspare hroom => ?record⟩
  case commit =>
    obtain ⟨p, hp, h⟩ := journalCommit_spec s
    have hcond : (s.up && s.journalDue) = true := by
      rw [hup, Bool.true_and, State.journalDue, Bool.or_eq_true, Bool.and_eq_true, decide_eq_true_eq, decide_eq_true_eq, decide_eq_true_eq]
      exact hdue.symm
    exact ⟨{ s with peat := p }, congrArg Host.Outcome.next ((if_pos hcond).trans hp), rfl, h⟩
  case pageWaits =>
    have hheld : s.peatFree .audit = false := by
      rw [← Bool.not_eq_true, peatFree_iff]
      exact fun h => absurd (h.1 hdue) (by decide)
    exact congrArg Host.Outcome.next (if_neg (by simp [hheld]))
  case recordWaits =>
    have hheld : s.peatFree .record = false := by
      rw [← Bool.not_eq_true, peatFree_iff]
      rintro ⟨hj, ha, -⟩
      rcases hdue with h | h
      · exact absurd (hj h) (by decide)
      · exact absurd (ha h) (by decide)
    exact congrArg Host.Outcome.next (if_neg (by simp [hheld]))
  case page =>
    obtain ⟨p, hp, -, h⟩ := auditPage_spec s
    have hdue' : s.auditDue = true := by
      rw [State.auditDue, Bool.or_eq_true, Bool.and_eq_true, decide_eq_true_eq, decide_eq_true_eq, decide_eq_true_eq]
      exact hdue
    have hgo : s.peatFree .audit = true := (peatFree_iff s .audit).mpr ⟨fun h => by simp [hfree] at h, fun _ => by decide, fun _ => by decide⟩
    exact ⟨{ s with peat := p }, congrArg Host.Outcome.next ((if_pos (by rw [hup, hdue', hgo]; rfl)).trans hp), rfl, h⟩
  case record =>
    have hgo : s.peatFree .record = true :=
      (peatFree_iff s .record).mpr ⟨fun h => by simp [hj] at h, fun h => by simp [ha] at h, fun _ => by decide⟩
    have hkept : ∀ n, State.recRoom r.size n s = s := fun n => by
      cases n with
      | zero => rfl
      | succ n => exact if_pos hroom
    obtain ⟨q, hq⟩ : ∃ q, q = (s.peat.ran s.now).takeN s.now 8 r.num ((r.size + 262143) / 262144) := ⟨_, rfl⟩
    have hflash : s.peat.Flash q := hq ▸ (Store.Flash.refl s.peat).ran.takeN
    have hwrite : s.recWrite = { s with
        peat := { q with recs := r :: s.peat.recs, recUsed := s.peat.recUsed + r.size, full := false }, acq := { s.acq with done_ := l } } := by
      unfold State.recWrite
      rw [hrec]
      dsimp only
      rw [hkept, ite_self, if_neg (by simp [hspare, hroom]), hq]
      rfl
    refine ⟨_, congrArg Host.Outcome.next ((if_pos (by rw [hup, hgo]; rfl)).trans hwrite), rfl, rfl, rfl, rfl, ?_⟩
    obtain ⟨_, _, _, _, _, _, rfl⟩ := hflash
    rfl

/-! ### Scrub reads (R515, R521, R522) -/

/-- Peat once a page has been read: its codewords in their classes, its retries, and the read counted (R515). -/
def Store.counted (p : Store) (pg : PageObs) : Store :=
  { p with
    hist := pg.bits.foldl (fun h b => h.modify (errClass b) (fun k => wrap32 (k + 1))) p.hist
    nRetry := wrap32 (p.nRetry + pg.retries), reads := mPut pg.block ((mGet p.reads pg.block).getD 0 + 1) p.reads }

/-- A page has so many bit errors, or its block so many reads, that the block is written anew (R521). -/
def State.refreshDue (s : State) (pg : PageObs) : Bool :=
  pg.bits.any (fun b => decide (s.pn gSTO 2 ≤ b) && b ≤ 24) || decide (100000 ≤ (mGet s.peat.reads pg.block).getD 0 + 1)

/-- A scrub read: levelling goes with it, and the pass goes on or ends with the last page (R520, R522). -/
theorem scrubRead_spec {s : State} {pg : PageObs} (hup : s.up = true) (hfree : s.peatFree .scrub = true) {u : State} {q : Store}
    (hu : u = if s.refreshDue pg then ({ s with peat := s.peat.counted pg } : State).peatRefresh pg.block else { s with peat := s.peat.counted pg })
    (hq : q = u.peat.level u.now u.peat.goodN (u.pn gSTO 3)) :
    ∃ p : Store, exec (.scrubRead pg) s = .next { u with peat := p } ∧ p.blocks = q.blocks ∧ p.movs = q.movs ∧ p.bad = q.bad ∧ p.recs = q.recs ∧
      p.nRetry = q.nRetry ∧ p.hist = q.hist ∧
      (q.pages ≤ q.scrub.getD 0 + 1 → p.scrub = none ∧ p.scrubT = u.now ∧ p.overdue = false) ∧
      (q.scrub.getD 0 + 1 < q.pages → p.scrub = some (q.scrub.getD 0 + 1)) := by
  have hexec : exec (.scrubRead pg) s = .next (if q.scrub.getD 0 + 1 ≥ q.pages then
      ({ u with peat := { q with scrub := none, scrubT := u.now, scrubR := q.passR, overdue := false } } : State)
      else { u with peat := { q with scrub := some (q.scrub.getD 0 + 1), passR := if q.scrub.isNone then 0 else q.passR } }) := by
    rw [hq, hu]
    exact congrArg Host.Outcome.next (if_neg (by simp [hup, hfree]))
  by_cases hend : q.scrub.getD 0 + 1 ≥ q.pages
  · rw [if_pos hend] at hexec
    exact ⟨_, hexec, rfl, rfl, rfl, rfl, rfl, rfl, fun _ => ⟨rfl, rfl, rfl⟩, fun h => absurd hend (Nat.not_le.mpr h)⟩
  · rw [if_neg hend] at hexec
    exact ⟨_, hexec, rfl, rfl, rfl, rfl, rfl, rfl, fun h => absurd h hend, fun _ => rfl⟩

/-! ### Failures (R517, R530 to R533) -/

/-- The health bits change with their records in the log alone. -/
theorem peatHealth_spec (s : State) : ∃ l n o k u a b, s.peatHealth = { s with
    sys := { s.sys with log := l, seqNo := n, logOver := o }
    peat := { s.peat with pageN := k, pageT := u, endLow := a, spLow := b } } := by
  have note : ∀ (u : State) (k : Nat) (old new : Bool), SameButLog s u →
      SameButLog s (if old == new then u else u.audit (Config.auditType 2) {} k (if old then 1 else 0) (if new then 1 else 0)) := by
    intro u k old new h
    split
    · exact h
    · exact h.trans (audit_sameButLog ..)
  obtain ⟨l, n, o, k, u, h⟩ := (note _ 2 s.peat.spLow (decide (s.peat.spare ≤ s.pn gSTO 11))
    (note s 3 s.peat.endLow (decide (s.peat.endurance < s.pn gSTO 12)) (SameButLog.refl s))).parts
  refine ⟨l, n, o, k, u, decide (s.peat.endurance < s.pn gSTO 12), decide (s.peat.spare ≤ s.pn gSTO 11), ?_⟩
  rw [State.peatHealth]
  dsimp only
  rw [h]
  rfl

/-- Peat without a block that has failed, before its data is written again (R517). -/
def Store.without (p : Store) (block : Nat) (isErase : Bool) : Store :=
  { (p.unmove [block]) with
    bad := p.bad ++ [block], spare := p.spare - 1, dirty := p.dirty + 1
    movs := p.movs.filter (fun m => m.1 != block && m.2 != block), ers := p.ers.filter (fun x => x.1 != block)
    nProg := if isErase then p.nProg else wrap32 (p.nProg + 1)
    nErase := if isErase then wrap32 (p.nErase + 1) else p.nErase }

/-- The data of a block that has failed is written to another. -/
def Store.replaced (p : Store) (t block : Nat) : Store :=
  match p.blocks.find? (fun x => x.1 == block) with
  | some x => ({ p with blocks := p.blocks.filter (fun y => y.1 != block) } : Store).take t x.2.1 x.2.2
  | none => p

/-- Nothing is mapped to a block that is bad once its data has been written again. -/
theorem replaced_blocks {p : Store} {block : Nat} (hbad : block ∈ p.bad) (t : Nat) : ∀ x ∈ (p.replaced t block).blocks, x.1 ≠ block := by
  intro x hx
  unfold Store.replaced at hx
  split at hx
  case h_1 y _ =>
    obtain ⟨l, hblocks, hfree, -⟩ := take_map ({ p with blocks := p.blocks.filter (fun y => y.1 != block) } : Store) t y.2.1 y.2.2
    rw [hblocks] at hx
    rcases List.mem_append.mp hx with hkept | hnew
    · simpa using (List.mem_filter.mp hkept).2
    · intro h
      have hgood := hfree x hnew
      simp only [Store.freeBlocks, Store.good, List.mem_filter, Bool.and_eq_true, Bool.not_eq_true'] at hgood
      exact Bool.noConfusion ((List.contains_iff_mem.mpr (h ▸ hbad)).symm.trans hgood.1.2.2)
  case h_2 hnone => simpa using List.find?_eq_none.mp hnone x hx

theorem replaced_flash (p : Store) (t block : Nat) : p.Flash (p.replaced t block) := by
  unfold Store.replaced
  split
  · exact Store.Flash.take ⟨_, _, _, _, _, _, rfl⟩
  · exact .refl p

/-- A second bit of one diagnostic leaves the first standing. -/
theorem rcBit_rcSet_rcSet (s : State) (d e k j : Nat) (hk : k < 32) : ((s.rcSet d e k).rcSet d e j).rcBit d e k = true := by
  have join : ∀ (m n : Word) (l : List (Nat × Nat × Word)),
      evGet (evPut d e n (evPut d e m l)) d e = evGet (evPut d e m l) d e ||| n := by
    intro m n l
    induction l with
    | nil => simp [evPut, evGet]
    | cons p l ih =>
      by_cases hp : (p.1 == d && p.2.1 == e) = true
      · simp [evPut, evGet, hp]
      · by_cases hlt : (decide (d < p.1) || (d == p.1 && decide (e < p.2.1))) = true
        · simp [evPut, evGet, hp, hlt]
        · have hskip : ∀ (w : Word) (r : List (Nat × Nat × Word)), evPut d e w (p :: r) = p :: evPut d e w r := fun w r => by
            rw [evPut, if_neg hp, if_neg hlt]
          have hget : ∀ r : List (Nat × Nat × Word), evGet (p :: r) d e = evGet r d e := fun r => by
            simp only [evGet, List.find?_cons, Bool.not_eq_true _ ▸ hp]
          rw [hskip, hskip, hget, hget, ih]
  show (evGet (evPut d e (bitAt true j) (evPut d e (bitAt true k) s.pub.ev)) d e).getLsbD k = true
  rw [join, BitVec.getLsbD_or, evGet_evPut_self _ _ _ _ hk, Bool.true_or]

/-- Data of a partition cannot be read: one event in the log and its bit (R532). -/
def State.unreadable (s : State) (part : Nat) : State := (s.audit (Config.auditType 2) {} 5 0 1 part).rcSet 250 0 5

theorem unreadable_spec (s : State) (part : Nat) : (s.unreadable part).rcBit 250 0 5 = true ∧
    ∃ l n o k u e, s.unreadable part = { s with
      sys := { s.sys with log := l, seqNo := n, logOver := o }, peat := { s.peat with pageN := k, pageT := u }, pub := { s.pub with ev := e } } := by
  obtain ⟨l, n, o, k, u, h⟩ := (audit_sameButLog s (Config.auditType 2) {} 5 0 1 part 0 [] []).parts
  exact ⟨rcBit_rcSet _ 250 0 5 (by decide), l, n, o, k, u, _, congrArg (fun s => s.rcSet 250 0 5) h⟩

/-- Settles O52: a read by what it counts, a failure by the block it takes away, and lost data by what its page held. -/
theorem peatReadsAndFailures : Obligations.PeatReadsAndFailures := by
  intro s hup
  refine ⟨fun pg hfree hbits hreads => ?counts, fun pg hfree hbits hmov hblocks => ?refreshes, fun pg hdue => ?waits, fun b e hb hgood => ?fails,
    fun part item last hcopies => ?oneCopy, fun item last => ?lost⟩
  case counts =>
    have hno : s.refreshDue pg = false := by
      rw [State.refreshDue, Bool.or_eq_false_iff]
      refine ⟨List.any_eq_false.mpr fun b hb => ?_, decide_eq_false (Nat.not_le.mpr hreads)⟩
      rcases hbits b hb with h | h <;> simp <;> omega
    obtain ⟨q, hq⟩ : ∃ q, q = (s.peat.counted pg).level s.now (s.peat.counted pg).goodN (s.pn gSTO 3) := ⟨_, rfl⟩
    obtain ⟨p, hexec, hblocks, -, hbad, hrecs, hretry, hhist, hends, hgoes⟩ :=
      scrubRead_spec (s := s) (pg := pg) (u := { s with peat := s.peat.counted pg }) hup hfree (by rw [hno]; rfl) hq
    have hmap : q.blocks = s.peat.blocks := hq ▸ (level_map ..).1
    have hflash : (s.peat.counted pg).Flash q := hq ▸ (Store.Flash.refl _).level
    have hpages : q.pages = s.peat.pages := by rw [Store.pages, Store.pages, hmap]
    obtain ⟨_, _, _, _, _, _, rfl⟩ := hflash
    rw [hpages] at hends hgoes
    exact ⟨_, hexec, rfl, hblocks.trans hmap, hbad, hrecs, hretry, hhist, hends, hgoes⟩
  case refreshes =>
    have hyes : s.refreshDue pg = true := by
      obtain ⟨b, hb, hlo, hhi⟩ := hbits
      rw [State.refreshDue, Bool.or_eq_true]
      exact .inl (List.any_eq_true.mpr ⟨b, hb, by simp [hlo, hhi]⟩)
    obtain ⟨n, hn, hmovs⟩ := renew_movs (p := s.peat.counted pg) (b := pg.block) hmov hblocks s.now
    obtain ⟨u, hu⟩ : ∃ u, u = (({ s with peat := { ((s.peat.counted pg).renew s.now pg.block) with passR := s.peat.passR + 1 } } : State).rcSet 250 0 4) :=
      ⟨_, rfl⟩
    have hrefresh : ({ s with peat := s.peat.counted pg } : State).peatRefresh pg.block = u := by
      rw [hu]
      exact if_pos hmov
    obtain ⟨q, hq⟩ : ∃ q, q = u.peat.level u.now u.peat.goodN (u.pn gSTO 3) := ⟨_, rfl⟩
    obtain ⟨p, hexec, hpb, hpm, -, hrecs, -, -, -, -⟩ := scrubRead_spec (s := s) (pg := pg) (u := u) hup hfree (by rw [if_pos hyes, hrefresh]) hq
    obtain ⟨hmap, l, hlevel⟩ := level_map u.peat u.now u.peat.goodN (u.pn gSTO 3)
    refine ⟨_, n, hexec, hn, ?_, ?_, ?_, ?_⟩
    · have hum : u.peat.movs = s.peat.movs ++ [(pg.block, n)] := by rw [hu]; exact hmovs
      rw [hpm, hq, hlevel, hum]
      simp
    · have hub : u.peat.blocks = s.peat.blocks := by rw [hu]; exact renew_blocks (s.peat.counted pg) s.now pg.block
      rw [hpb, hq, hmap, hub]
    · have hflash : s.peat.recs = u.peat.recs := by
        obtain ⟨_, _, _, _, _, _, hr⟩ := (Store.Flash.refl (s.peat.counted pg)).renew (t := s.now) (b := pg.block)
        rw [hu]
        show s.peat.recs = ((s.peat.counted pg).renew s.now pg.block).recs
        rw [hr]
        rfl
      obtain ⟨_, _, _, _, _, _, hl⟩ := (Store.Flash.refl u.peat).level (t := u.now) (n := u.peat.goodN) (k := u.pn gSTO 3)
      rw [hrecs, hq, hl, hflash]
    · have hbit : u.rcBit 250 0 4 = true := by rw [hu]; exact rcBit_rcSet _ 250 0 4 (by decide)
      exact hbit
  case waits =>
    have hheld : s.peatFree .scrub = false := by
      rw [← Bool.not_eq_true, peatFree_iff]
      rintro ⟨hj, ha, hr⟩
      rcases hdue with h | h | h
      · exact absurd (hj h) (by decide)
      · exact absurd (ha h) (by decide)
      · exact absurd (hr h) (by decide)
    exact congrArg Host.Outcome.next (if_pos (by simp [hheld]))
  case fails =>
    obtain ⟨q, hq⟩ : ∃ q, q = (s.peat.without b e).replaced s.now b := ⟨_, rfl⟩
    have hexec : exec (.programEraseFailure b e) s = .next ({ s with peat := q } : State).peatHealth := by
      rw [hq]
      exact congrArg Host.Outcome.next (if_neg (by simp [hup, hgood, peatTotal, hb]))
    have hblocks : ∀ x ∈ q.blocks, x.1 ≠ b := hq ▸ replaced_blocks (List.mem_append_right _ (List.mem_singleton.mpr rfl)) s.now
    have hflash : (s.peat.without b e).Flash q := hq ▸ replaced_flash ..
    obtain ⟨_, _, _, _, _, _, _, hhealth⟩ := peatHealth_spec ({ s with peat := q } : State)
    rw [hhealth] at hexec
    refine ⟨_, hexec, rfl, ?_, ?_, ?_, ?_, hblocks, ?_, rfl⟩
    all_goals
      obtain ⟨_, _, _, _, _, _, rfl⟩ := hflash
      rfl
  case oneCopy =>
    obtain ⟨q, hq⟩ : ∃ q, q = s.peat.renew s.now last := ⟨_, rfl⟩
    have hexec : exec (.uncorrectable part false item last) s = .next (({ s with peat := q } : State).rcSet 250 0 4) := by
      rw [hq]
      exact congrArg Host.Outcome.next ((if_neg (by simp [hup])).trans (if_pos (by simp [hcopies])))
    have hflash : s.peat.Flash q := hq ▸ (Store.Flash.refl _).renew
    have hmap : q.blocks = s.peat.blocks := hq ▸ renew_blocks ..
    refine ⟨_, hexec, rfl, hmap, ?_, ?_, rcBit_rcSet _ 250 0 4 (by decide), fun hmov hfree => hq ▸ ?_⟩
    · obtain ⟨_, _, _, _, _, _, rfl⟩ := hflash
      rfl
    · obtain ⟨_, _, _, _, _, _, rfl⟩ := hflash
      rfl
    · exact renew_movs hmov hfree s.now
  case lost =>
    have reported : ∀ {r v : State}, r = (if !s.up then s else v) → r = v := fun h => h.trans (if_neg (by simp [hup]))
    have noCopy : ∀ {c : Bool} {r v w : State}, c = false → r = (if c then v else w) → r = w := fun hc h => h.trans (if_neg (by simp [hc]))
    obtain ⟨ha, _, _, _, _, _, _, hua⟩ := unreadable_spec s 0
    obtain ⟨hb, _, _, _, _, _, _, hub⟩ := unreadable_spec s 1
    obtain ⟨hc, _, _, _, _, _, _, huc⟩ := unreadable_spec s 3
    obtain ⟨hd, _, _, _, _, _, _, hud⟩ := unreadable_spec s 5
    obtain ⟨he, _, _, _, _, _, _, hue⟩ := unreadable_spec s 8
    obtain ⟨-, _, _, _, _, _, _, huf⟩ := unreadable_spec s 2
    obtain ⟨_, _, _, _, _, hkeys⟩ := (audit_sameButLog (s.unreadable 2) (Config.auditType 2) {} 11 0 1 0 0 [] []).parts
    refine ⟨(s.unreadable 0).modSys (fun x => { x with fwOk := x.fwOk.set item false }),
      (s.unreadable 1).modSys (fun x => { x with slots := x.slots.modify item (fun y => { y with complete := false }) }),
      ((s.unreadable 3).modSys (fun x => { x with xfer := none })).modPeat (fun p => { p with guFile := [] }),
      (s.unreadable 5).modSys (fun x => { x with cache := x.cache.filter (fun r => r.1 != item) }),
      ((s.unreadable 8).modPeat (fun p => { p with
          recs := p.recs.map (fun r => if r.num == item && r.kept then { r with status := 3, dam := r.dam ++ [last] } else r)
          nDam := if p.recs.any (fun r => r.num == item && r.status == 0) then wrap32 (p.nDam + 1) else p.nDam })).rcSet 250 0 7,
      ((s.unreadable 2).audit (Config.auditType 2) {} 11 0 1).modPeat (fun p => { p with keysLost := true }), ?frame,
      congrArg Host.Outcome.next (noCopy rfl (reported rfl)), ?_, ?_,
      congrArg Host.Outcome.next (noCopy rfl (reported rfl)), ?_, ?_,
      congrArg Host.Outcome.next (noCopy rfl (reported rfl)), rfl, ?_,
      congrArg Host.Outcome.next (noCopy rfl (reported rfl)), rfl, rfl, ?_,
      congrArg Host.Outcome.next (noCopy rfl (reported rfl)), ?_,
      congrArg Host.Outcome.next (noCopy rfl (reported rfl)), ?_, ?_, rcBit_rcSet _ 250 0 7 (by decide),
      ha, hb, hc, hd, rcBit_rcSet_rcSet _ 250 0 5 7 (by decide)⟩
    case frame =>
      simp only [List.forall_mem_cons]
      refine ⟨?_, ?_, ?_, ?_, ?_, ?_, fun _ h => (nomatch h)⟩
      · rw [hua]; rfl
      · rw [hub]; rfl
      · rw [huc]; rfl
      · rw [hud]; rfl
      · rw [hue]; rfl
      · rw [hkeys, huf]; rfl
    · rw [hua]; rfl
    · rw [hua]; rfl
    · rw [hub]; rfl
    · rw [hub]; rfl
    · exact Bool.or_true _
    · rw [huc]; rfl
    · rw [hud]; rfl
    · rw [hue]; rfl
    · rw [hue]; rfl

end Sys2Proof.Machine
end

section
/-!
SUPPORT. The repetition of the identity match (R492): what a waiting write of the wrong term does to a bank.
-/
namespace Sys2Proof.Machine
open Sys2Proof

/-- A write of the Bank parameter GFM.017 that waits with the term Restart. No request leaves one, but the statement is about every state. -/
def bankAsRestart : Write :=
  { ch := 0, role := .engineer, sess := 1, cred := 0, id := ⟨gGFM, 17⟩, e := 0, v := 5, eff := .restart, at_ := restartAt }

/-- A root in CONFIG_PENDING whose repetition is due, with bank A in use, a bank B of one word, the word of GFM.017, and the write waiting. -/
def retryWithBankWrite : State :=
  let s := { State.reset with eng := { State.reset.eng with bankB := [0] } }
  ((s.setRaw ⟨gSYS, 1⟩ 0 3).modSys (fun y => { y with
    st := .configPending, retry := true, run := some { ({} : Content) with gfmAddr := [(17, 0)] } })).modPar (fun p =>
      { p with wait := [bankAsRestart] })

/-- Bank B of the state that follows. -/
def nextBankB : Host.Outcome State Fault Refusal → List Word
  | .next t => t.eng.bankB
  | _ => []

/-- The match passes, and at the entry into READY the waiting write goes to the inactive bank. -/
theorem identityRetry_writes_bank : nextBankB (exec (.identityRetry {}) retryWithBankWrite) = [5] := by decide +kernel

/-- Refutes O50: the banks need not stay. A repetition that passes enters READY and applies every waiting write of the term Restart; one
of a Bank parameter goes to the inactive bank. -/
theorem not_identityRetryRepeatsTheMatch : ¬ Obligations.IdentityRetryRepeatsTheMatch := by
  intro h
  obtain ⟨t, hexec, -, -, -, hbank, -⟩ := (h retryWithBankWrite {} rfl rfl).1 (by decide +kernel)
  have hwritten : t.eng.bankB = [5] := by
    have hnext := identityRetry_writes_bank
    rwa [hexec] at hnext
  exact absurd (hbank.symm.trans hwritten) (by decide +kernel)

end Sys2Proof.Machine
end

section
/-!
SUPPORT. The self-test (R497 to R502): what a slice's result, the next slice and the end of the shut-down change in the module's record.
-/
namespace Sys2Proof.Machine
open Sys2Proof

theorem endTest_sys (s : State) : s.endTest.sys = s.sys := by
  unfold State.endTest
  split <;> rfl

/-- Entering a state is one record in the log, the state, and an interrupt bit. -/
theorem enter_spec (s : State) (m : MState) (w : Who) : ∃ l n o p b,
    s.enter m w = { s with sys := { s.sys with st := m, log := l, seqNo := n, logOver := o }, peat := p, mbx := b } ∧ s.sys.seqNo < n := by
  obtain ⟨l, n, o, k, u, h⟩ := (audit_sameButLog s 0x20 w 0 s.sys.st.code m.code 0 0 [] []).parts
  have hseq := audit_seqNo s 0x20 w 0 s.sys.st.code m.code 0 0 [] []
  rw [h] at hseq
  exact ⟨l, n, o, _, _, by rw [State.enter, h]; rfl, hseq⟩

theorem enter_sys (s : State) (m : MState) (w : Who) : ∃ l n o, (s.enter m w).sys = { s.sys with st := m, log := l, seqNo := n, logOver := o } ∧
    s.sys.seqNo < n := by
  obtain ⟨l, n, o, _, _, h, hseq⟩ := enter_spec s m w
  exact ⟨l, n, o, by rw [h], hseq⟩

/-- Without a request, the life-cycle state of an entry into STANDBY stays (R505). -/
theorem lifeApply_none {s : State} (h : s.sys.lifeReq = none) : s.lifeApply = s.modSys (fun y => { y with lifeReq := none }) := by
  unfold State.lifeApply
  rw [h]

/-- STANDBY (R441, R497): the sequence ends, and the entry joins the log. -/
theorem toStandby_sys {s : State} (h : s.sys.lifeReq = none) : ∃ l n o, s.toStandby.sys = { s.sys with
    st := .standby, shut := 0, keep := 0, sliceGo := false, retry := false, fwB := if s.sys.activFw then s.sys.fwSelB else s.sys.fwB
    activFw := false, lifeReq := none, log := l, seqNo := n, logOver := o } ∧ s.sys.seqNo < n := by
  obtain ⟨v, hv⟩ : ∃ v : State, v.sys = { s.sys with
      shut := 0, keep := 0, sliceGo := false, retry := false, fwB := if s.sys.activFw then s.sys.fwSelB else s.sys.fwB, activFw := false } ∧
      s.toStandby = ((v.enter .standby).lifeApply.openReq).publishSys false :=
    ⟨_, by rw [← endTest_sys s]; rfl, rfl⟩
  obtain ⟨hsys, hlast⟩ := hv
  obtain ⟨l, n, o, henter, hseq⟩ := enter_sys v .standby {}
  have hreq : (v.enter .standby).sys.lifeReq = none := by rw [henter, hsys]; exact h
  refine ⟨l, n, o, ?_, by rwa [hsys] at hseq⟩
  rw [hlast, lifeApply_none hreq]
  show { (v.enter .standby).sys with lifeReq := none } = _
  rw [henter, hsys]

/-- A result marked as skipped keeps what its slice found. -/
def SliceS.found (x : SliceS) : Nat × Nat × Nat × Nat × Nat × Nat := (x.tai, x.ms, x.spares, x.fails, x.units, x.okTai)

/-- The self-test has gone on from `s`: the results stay in what they found, and another slice runs or the module is in STANDBY. -/
def TestGoesOn (s t : State) : Prop :=
  t.sys.slots = s.sys.slots ∧ t.sys.life = s.sys.life ∧ t.sys.lastSl = s.sys.lastSl ∧ s.sys.seqNo ≤ t.sys.seqNo ∧
    (t.sys.sliceGo = true ∧ t.sys.shut = s.sys.shut ∧ t.sys.st = s.sys.st ∨ t.sys.sliceGo = false ∧ t.sys.st = .standby) ∧
    ∀ k : Nat, (t.sys.tests[k]?).map SliceS.found = (s.sys.tests[k]?).map SliceS.found

/-- The self-test ends with the shut-down (R497). -/
theorem TestGoesOn.shutEnd {s : State} (h : s.sys.lifeReq = none) : TestGoesOn s s.shutEnd := by
  obtain ⟨p, hp, -⟩ := journalCommit_spec s
  obtain ⟨l, n, o, hsys, hseq⟩ := toStandby_sys (s := s.journalCommit) (by rw [hp]; exact h)
  unfold TestGoesOn
  rw [State.shutEnd, hsys]
  rw [hp] at hseq ⊢
  exact ⟨rfl, rfl, rfl, Nat.le_of_lt hseq, .inr ⟨rfl, rfl⟩, fun _ => rfl⟩

/-- Slices not reached keep what they found (R498). -/
theorem TestGoesOn.skipped {s : State} (h : s.sys.lifeReq = none) : TestGoesOn s s.sliceSkip.shutEnd := by
  obtain ⟨hslots, hlife, hlast, hseq, hgo, htests⟩ := TestGoesOn.shutEnd (s := s.sliceSkip) h
  refine ⟨hslots, hlife, hlast, hseq, hgo, fun k => (htests k).trans ?_⟩
  simp only [State.sliceSkip, State.modSys, List.getElem?_mapIdx]
  cases s.sys.tests[k]? with
  | none => rfl
  | some x =>
    simp only [Option.map_some]
    split <;> rfl

/-- The next slice starts, or the self-test ends (R498). -/
theorem TestGoesOn.sliceStart {s : State} (h : s.sys.lifeReq = none) : TestGoesOn s s.sliceStart := by
  unfold State.sliceStart
  split
  · split
    · exact ⟨rfl, rfl, rfl, Nat.le_refl _, .inl ⟨rfl, rfl, rfl⟩, fun _ => rfl⟩
    · exact .skipped h
  · exact .shutEnd h

theorem sliceClear_sys (s : State) (k : Nat) : (s.sliceClear k).sys = s.sys := by
  unfold State.sliceClear
  split <;> rfl

/-- The record of a slice once it has the result `r` (R501). -/
def SliceS.done (x : SliceS) (now : Nat) (r : SliceRes) : SliceS :=
  { x with
    res := r.outcome, last := r.outcome, aged := false, spares := min 255 r.spares, fails := min 255 r.fails, units := r.units, tai := now
    ms := r.ms, okTai := if r.outcome == .pass || r.outcome == .repaired then now else x.okTai, addr := r.failAddr, bit := r.failBit }

/-- The record once the slice that runs has the result `r`, a change that waits for the journal (R498, R501). -/
def State.sliceNoted (s : State) (r : SliceRes) : State :=
  (s.modSys (fun y => { y with
    sliceGo := false, lastSl := s.sys.slice, sliceN := y.sliceN + (s.sys.slice + sliceCount - y.lastSl - 1) % sliceCount + 1
    sliceMs := y.sliceMs + r.ms, tests := y.tests.modify s.sys.slice (fun x => x.done s.now r) })).modPeat (fun p =>
      { p with dirty := p.dirty + 1 })

/-- Code of a result in its audit record (R501). -/
def resultCode : TestRes → Nat
  | .pass => 1 | .repaired => 2 | .fail => 3 | .timeout => 4 | _ => 0

/-- A result is noted and logged, its slice leaves its memory, and the self-test goes on (R498, R501). -/
theorem sliceDone_eq (s : State) (r : SliceRes) : s.sliceDone r =
    (((s.sliceNoted r).audit 0x53 {} s.sys.slice 0 ((resultCode r.outcome : Nat) : Int) r.fails).sliceClear s.sys.slice).sliceStart := by
  delta State.sliceDone
  rfl

theorem sliceDone_spec {s : State} (r : SliceRes) (hreq : s.sys.lifeReq = none) : ∃ u, TestGoesOn u (s.sliceDone r) ∧
    u.sys.slots = s.sys.slots ∧ u.sys.life = s.sys.life ∧ u.sys.shut = s.sys.shut ∧ u.sys.st = s.sys.st ∧ u.sys.lastSl = s.sys.slice ∧
    s.sys.seqNo < u.sys.seqNo ∧ u.sys.tests = s.sys.tests.modify s.sys.slice (fun x => x.done s.now r) := by
  obtain ⟨code, hcode⟩ : ∃ code : Int, code = ((resultCode r.outcome : Nat) : Int) := ⟨_, rfl⟩
  obtain ⟨v, hv⟩ : ∃ v, v = s.sliceNoted r := ⟨_, rfl⟩
  obtain ⟨u, hu⟩ : ∃ u, u = (v.audit 0x53 {} s.sys.slice 0 code r.fails).sliceClear s.sys.slice := ⟨_, rfl⟩
  have hmore := audit_seqNo v 0x53 {} s.sys.slice 0 code r.fails 0 [] []
  obtain ⟨l, n, o, k, w, haudit⟩ := (audit_sameButLog v 0x53 {} s.sys.slice 0 code r.fails 0 [] []).parts
  have hsys : u.sys = { v.sys with log := l, seqNo := n, logOver := o } := by
    rw [hu, sliceClear_sys, haudit]
  rw [haudit] at hmore
  have hlifeReq : u.sys.lifeReq = none := by rw [hsys, hv]; exact hreq
  refine ⟨u, ?_, ?_⟩
  · rw [sliceDone_eq, ← hcode, ← hv, ← hu]
    exact .sliceStart hlifeReq
  · rw [hsys]
    rw [hv] at hmore ⊢
    exact ⟨rfl, rfl, rfl, rfl, rfl, hmore, rfl⟩

/-- Settles O49: the result is noted for the slice that ran, and what follows leaves what every slice has found. -/
theorem selfTestSlicesAreRecorded : Obligations.SelfTestSlicesAreRecorded := by
  intro s x hshut hgo hx hreq
  dsimp only
  have recorded : ∀ r : SliceRes, ((s.sliceDone r).sys.slots = s.sys.slots ∧ (s.sliceDone r).sys.life = s.sys.life ∧
      ((s.sliceDone r).sys.sliceGo = true ∧ (s.sliceDone r).sys.shut = 2 ∧ (s.sliceDone r).sys.st = s.sys.st ∨
        (s.sliceDone r).sys.sliceGo = false ∧ (s.sliceDone r).sys.st = .standby) ∧
      (s.sliceDone r).sys.lastSl = s.sys.slice ∧ s.sys.seqNo < (s.sliceDone r).sys.seqNo ∧
      ∀ (k : Nat) (y : SliceS), k ≠ s.sys.slice → s.sys.tests[k]? = some y → ∃ z : SliceS, (s.sliceDone r).sys.tests[k]? = some z ∧
        z.tai = y.tai ∧ z.ms = y.ms ∧ z.spares = y.spares ∧ z.fails = y.fails ∧ z.units = y.units ∧ z.okTai = y.okTai) ∧
      ∃ z : SliceS, (s.sliceDone r).sys.tests[s.sys.slice]? = some z ∧ z.found = (x.done s.now r).found := by
    intro r
    obtain ⟨u, ⟨hslots, hlife, hlast, hseq, hnext, htests⟩, kslots, klife, kshut, kst, klast, kseq, ktests⟩ := sliceDone_spec r hreq
    rw [kshut, hshut, kst] at hnext
    refine ⟨⟨hslots.trans kslots, hlife.trans klife, hnext, hlast.trans klast, Nat.lt_of_lt_of_le kseq hseq, fun k y hk hy => ?_⟩, ?_⟩
    · have hfound := htests k
      rw [ktests, List.getElem?_modify_ne _ _ (Ne.symm hk), hy] at hfound
      obtain ⟨z, hz, heq⟩ := Option.map_eq_some_iff.mp hfound
      simp only [SliceS.found, Prod.mk.injEq] at heq
      exact ⟨z, hz, heq⟩
    · have hfound := htests s.sys.slice
      rw [ktests, List.getElem?_modify_eq, hx] at hfound
      exact Option.map_eq_some_iff.mp hfound
  refine ⟨fun r hr => ?ended, ?timedOut⟩
  case ended =>
    obtain ⟨hkept, z, hz, hfound⟩ := recorded r
    simp only [SliceS.found, SliceS.done, Prod.mk.injEq] at hfound
    obtain ⟨htai, hms, hspares, hfails, hunits, hok⟩ := hfound
    have hexec : exec (.selfTestSliceEnd r) s = .next (s.sliceDone r) := congrArg Host.Outcome.next (if_pos (by
      rcases hr with h | h | h <;> simp [hshut, hgo, h]))
    refine ⟨_, z, hexec, hkept, hz, htai, hms, hspares, hfails, hunits, hok.trans ?_⟩
    rcases hr with h | h | h <;> simp [h]
  case timedOut =>
    obtain ⟨hkept, z, hz, hfound⟩ := recorded { outcome := .timeout, spares := 0, fails := 0, ms := sliceBudget s.sys.slice }
    simp only [SliceS.found, SliceS.done, Prod.mk.injEq] at hfound
    obtain ⟨htai, hms, -, -, -, hok⟩ := hfound
    exact ⟨_, z, congrArg Host.Outcome.next (if_pos (by simp [hshut, hgo])), hkept, hz, htai, hms, hok⟩

end Sys2Proof.Machine
end

section
/-!
SUPPORT. Loss and return of supply (R441, R444 to R446): what a power-up keeps, what the power-fail sequence sends and saves.
-/
namespace Sys2Proof.Machine
open Sys2Proof

/-! ### Power-up (R441, R446, R479, R487) -/

/-- The parameters of the slot of the next start are values, and their section valid on both channels. -/
theorem bootParams_spec (s : State) : ∃ par hdg, s.bootParams = { s with par := par, hdg := hdg } ∧ hdg.outs = s.hdg.outs := by
  have kept : ∃ par hdg, s = { s with par := par, hdg := hdg } ∧ hdg.outs = s.hdg.outs := ⟨_, _, rfl, rfl⟩
  unfold State.bootParams
  dsimp only
  split
  · generalize Slot_.complete _ = whole
    cases whole with
    | false => exact kept
    | true => exact ⟨_, _, rfl, rfl⟩
  · exact kept

/-- The frame number follows from station time and the frame period (R25). -/
def State.framed (s : State) : State := s.modClk (fun c => { c with frame := c.tai / s.tf })

/-- The module after an attempt that boots, before it enters STANDBY (R441, R446, R479). -/
def State.bootedUp (s : State) (slot : Nat) (strapped : Bool) (secs : Nat) : State :=
  (((s.booted (slot % 16) strapped true secs).modSys (fun y => { y with fwB := s.sys.fwSelB, bootBad := 0 })).framed.bootParams).framed

theorem bootedUp_spec (s : State) (slot : Nat) (strapped : Bool) (secs : Nat) :
    (s.bootedUp slot strapped secs).safetyOff ∧
    (s.bootedUp slot strapped secs).sys = { (s.booted (slot % 16) strapped true secs).sys with fwB := s.sys.fwSelB, bootBad := 0 } ∧
    (s.bootedUp slot strapped secs).pending = s.pending ∧ (s.bootedUp slot strapped secs).peat.stored = s.peat.stored ∧
    (s.bootedUp slot strapped secs).clk.aoSec = s.clk.aoSec + secs := by
  obtain ⟨v, hv⟩ : ∃ v, v = ((s.booted (slot % 16) strapped true secs).modSys (fun y => { y with fwB := s.sys.fwSelB, bootBad := 0 })).framed := ⟨_, rfl⟩
  obtain ⟨par, hdg, hboot, houts⟩ := bootParams_spec v
  have heq : s.bootedUp slot strapped secs = ({ v with par := par, hdg := hdg } : State).framed := by
    rw [State.bootedUp, ← hv, hboot]
  have hao : v.clk.aoSec = s.clk.aoSec + secs := by
    rw [hv]
    exact Nat.mul_div_cancel _ (by decide)
  rw [heq]
  refine ⟨fun o ho => ?_, by rw [hv]; rfl, by rw [hv]; rfl, by rw [hv]; rfl, hao⟩
  rw [show ({ v with par := par, hdg := hdg } : State).framed.hdg.outs = v.hdg.outs from houts, hv] at ho
  exact booted_safetyOff s (slot % 16) strapped true secs o ho

/-- With its first attempt the selected firmware boots, and the module enters STANDBY (R487). -/
theorem powerUp_eq {s : State} {slot secs : Nat} {strapped : Bool} (hst : s.sys.st = .dormant) (hbad : s.sys.bootBad = 0)
    (hlim : 0 < s.pn gCFG 31) (hok : s.sys.fwOk.getD (if s.sys.fwSelB then 1 else 0) false = true) (hlog : s.sys.seqNo ≤ s.peat.stored) :
    exec (.powerUp slot strapped true secs [true]) s =
      .next ((((s.bootedUp slot strapped secs).enter .standby).lifeApply).publishSys false) := by
  have hfall : ((decide (s.pn gCFG 31 ≤ s.sys.bootBad + 0) || !s.sys.fwOk.getD (if s.sys.fwSelB then 1 else 0) false) &&
      s.sys.fwOk.getD (if !s.sys.fwSelB then 1 else 0) false) = false := by
    simp only [hok, hbad, Nat.add_zero, decide_eq_false (Nat.not_le.mpr hlim), Bool.not_true, Bool.or_self, Bool.false_and]
  have hgap : decide ((s.bootedUp slot strapped secs).peat.stored < (s.bootedUp slot strapped secs).sys.seqNo) = false := by
    obtain ⟨-, hsys, -, hstored, -⟩ := bootedUp_spec s slot strapped secs
    rw [hstored, hsys]
    exact decide_eq_false (Nat.not_lt.mpr hlog)
  refine congrArg Host.Outcome.next ((if_neg (by simp [hst])).trans ((if_neg ?_).trans ?_))
  · rw [show (List.takeWhile (fun b => !b) [true]).length = 0 from rfl, hfall]
    simp only [hok]
    decide
  · rw [show (List.takeWhile (fun b => !b) [true]).length = 0 from rfl, hfall]
    refine congrArg (fun u : State => ((u.enter .standby).lifeApply).publishSys false) (?_ : State.when _ _ _ = _)
    refine (congrArg (fun b => State.when _ b _) hgap).trans ?_
    rfl

/-! ### What goes out when power fails (R308, R344, R444) -/

/-- `t` is `s` but for nest frames, the root's records and bits, and demands of every child go out where the module is not RUNNING. -/
def SentDown (s t : State) : Prop :=
  (∃ nest arm pub, t = { s with nest := nest, arm := arm, pub := pub }) ∧ (s.running = false → ∀ d ∈ t.nest.txDown, d.2.demand = true)

theorem SentDown.sameFrames {s t u : State} (h : SentDown s t) (k : ∃ arm pub, u = { t with arm := arm, pub := pub }) : SentDown s u := by
  obtain ⟨⟨_, _, _, rfl⟩, hd⟩ := h
  obtain ⟨_, _, rfl⟩ := k
  exact ⟨⟨_, _, _, rfl⟩, hd⟩

/-- The frames to the children (R270, R309). -/
theorem sendDown_spec (s : State) : SentDown s s.sendDown := by
  unfold State.sendDown
  extract_lets cleared demandIn frame none0 m gv plan tx sent lost
  split
  · exact ⟨⟨_, _, _, rfl⟩, fun _ _ h => (nomatch h)⟩
  · have hsent : SentDown s sent := by
      refine ⟨⟨_, _, _, rfl⟩, fun hstill d hd => ?_⟩
      have hmem : d ∈ tx := hd
      simp only [tx] at hmem
      split at hmem
      · obtain ⟨p, -, rfl⟩ := List.mem_map.mp hmem
        have hrun : cleared.running = false := hstill
        simp [frame, hrun]
      · nomatch hmem
    have hlost : SentDown s lost := by
      simp only [lost]
      split
      · exact hsent.sameFrames ⟨_, _, rfl⟩
      · exact hsent
    exact forAll_invariant hlost fun _ _ h => h.sameFrames ⟨_, _, rfl⟩

/-- BLOCK_ALL stays sent on a port. -/
def Blocked (p : Nat) (s : State) : Prop := (s.port p).baSent = true

/-- `t` is `s` but for ports and bits; ports stay as many, and BLOCK_ALL stays sent. -/
def SentBlock (s t : State) : Prop :=
  (∃ tx ports pub, t = { s with link := { s.link with tx := tx, ports := ports }, pub := pub } ∧ ports.length = s.link.ports.length) ∧
    ∀ p, Blocked p s → Blocked p t

theorem SentBlock.refl (s : State) : SentBlock s s := ⟨⟨_, _, _, rfl, rfl⟩, fun _ => id⟩

theorem SentBlock.trans {s t u : State} (h : SentBlock s t) (k : SentBlock t u) : SentBlock s u := by
  obtain ⟨⟨_, _, _, rfl, hl⟩, hb⟩ := h
  obtain ⟨⟨_, _, _, rfl, kl⟩, kb⟩ := k
  exact ⟨⟨_, _, _, rfl, kl.trans hl⟩, fun p => kb p ∘ hb p⟩

theorem getD_modify {α : Type} {P : α → Prop} {l : List α} {d : α} {i j : Nat} {f : α → α} (hf : ∀ x, P x → P (f x)) (h : P (l.getD j d)) :
    P ((l.modify i f).getD j d) := by
  rw [List.getD] at h ⊢
  rw [List.getElem?_modify]
  cases hx : l[j]? with
  | none => rwa [hx] at h
  | some x =>
    rw [hx] at h
    show P (if i = j then f x else x)
    split
    · exact hf x h
    · exact h

theorem getD_modify_at {α : Type} {l : List α} {d : α} {i : Nat} {f : α → α} (hi : i < l.length) : (l.modify i f).getD i d = f l[i] := by
  rw [List.getD, List.getElem?_modify_eq, List.getElem?_eq_getElem hi]
  rfl

/-- BLOCK_ALL on a port (R247). -/
theorem sendBlockAll_spec (s : State) (t p : Nat) : SentBlock s (State.sendBlockAll t s p) ∧
    (s.txGo = true → s.cellPort p = true → p < s.link.ports.length → Blocked p (State.sendBlockAll t s p)) := by
  unfold State.sendBlockAll
  split
  case isTrue =>
    refine ⟨⟨⟨_, _, _, rfl, List.length_modify ..⟩, fun j hj => ?_⟩, fun _ _ hp => ?_⟩
    · exact getD_modify (P := fun x : Port => x.baSent = true) (fun _ _ => rfl) hj
    · exact congrArg Port.baSent (getD_modify_at hp)
  case isFalse hno => exact ⟨.refl s, fun hgo hport _ => absurd (by rw [hgo, hport]; rfl) hno⟩

/-- BLOCK_ALL on a list of ports goes out on every cell port of the list (R308). -/
theorem sendBlockAlls_spec (l : List Nat) (s : State) (t : Nat) : SentBlock s (forAll l (State.sendBlockAll t) s) ∧
    ∀ p ∈ l, s.txGo = true → s.cellPort p = true → p < s.link.ports.length → Blocked p (forAll l (State.sendBlockAll t) s) := by
  induction l generalizing s with
  | nil => exact ⟨.refl s, fun _ h => (nomatch h)⟩
  | cons a l ih =>
    obtain ⟨hfirst, hsends⟩ := sendBlockAll_spec s t a
    obtain ⟨hrest, hall⟩ := ih (State.sendBlockAll t s a)
    refine ⟨hfirst.trans hrest, fun p hp hgo hport hlen => ?_⟩
    rcases List.mem_cons.mp hp with rfl | hp
    · exact hrest.2 p (hsends hgo hport hlen)
    · obtain ⟨_, _, _, hframe, hports⟩ := hfirst.1
      refine hall p hp ?_ ?_ ?_
      · rw [hframe]; exact hgo
      · exact (show State.cellPort _ p = s.cellPort p by rw [State.cellPort, State.cellPort, topoOf_of_par (s := s) (by rw [hframe])]).trans hport
      · rw [hframe]; exact hports ▸ hlen

/-! ### The power-fail sequence (R444, R445, R502, R527, R529) -/

/-- What no stage of the power-fail sequence loses: time, the commands that wait, slots, life cycle and credentials, the log and the count of
commits. -/
def Survives (s t : State) : Prop :=
  t.clk = s.clk ∧ t.pending = s.pending ∧ t.sys.slots = s.sys.slots ∧ t.sys.life = s.sys.life ∧ t.sys.creds = s.sys.creds ∧
    s.sys.seqNo ≤ t.sys.seqNo ∧ t.peat.commitN = s.peat.commitN

namespace Survives
variable {s t u : State}

theorem refl (s : State) : Survives s s := ⟨rfl, rfl, rfl, rfl, rfl, Nat.le_refl _, rfl⟩

theorem trans (h : Survives s t) (k : Survives t u) : Survives s u := by
  obtain ⟨hclk, hpend, hslots, hlife, hcreds, hseq, hcommit⟩ := h
  obtain ⟨kclk, kpend, kslots, klife, kcreds, kseq, kcommit⟩ := k
  exact ⟨kclk.trans hclk, kpend.trans hpend, kslots.trans hslots, klife.trans hlife, kcreds.trans hcreds, Nat.le_trans hseq kseq, kcommit.trans hcommit⟩

theorem ite {c : Prop} [Decidable c] (h : Survives s t) (k : Survives s u) : Survives s (if c then t else u) := by
  split
  · exact h
  · exact k

/-- Other units of the module do not bear on it. -/
theorem beside {arm par link nest twin hdg mbx acq pub} : Survives s
    { s with arm := arm, par := par, link := link, nest := nest, twin := twin, hdg := hdg, mbx := mbx, acq := acq, pub := pub } := refl s

theorem audit {ty : Nat} {w : Who} {subj : Nat} {old new detail : Int} {result : Nat} {more : List Reason} {vals : List (List Int)} :
    Survives s (s.audit ty w subj old new detail result more vals) := by
  have hseq := audit_seqNo s ty w subj old new detail result more vals
  obtain ⟨l, n, o, k, u, h⟩ := (audit_sameButLog s ty w subj old new detail result more vals).parts
  rw [h] at hseq ⊢
  exact ⟨rfl, rfl, rfl, rfl, rfl, Nat.le_of_lt hseq, rfl⟩

theorem enter {m : MState} : Survives s (s.enter m) := (audit (ty := 0x20) (w := {}) (old := s.sys.st.code) (new := m.code)).trans (refl _)
theorem endTest : Survives s s.endTest := .ite beside (refl s)
theorem toFaulted : Survives s s.toFaulted := .ite (endTest.trans enter) (refl s)
theorem tSend {b : TBody} : Survives s (s.tSend b) := .ite beside (refl s)
theorem selfFail {k : Nat} : Survives s (s.selfFail k) := .ite (refl s) ((tSend.trans beside).trans toFaulted)

theorem sentBlock (h : SentBlock s t) : Survives s t := by
  obtain ⟨⟨_, _, _, rfl, _⟩, -⟩ := h
  exact beside

theorem sentDown (h : SentDown s t) : Survives s t := by
  obtain ⟨⟨_, _, _, rfl⟩, -⟩ := h
  exact beside

theorem failOutputs : Survives s s.failOutputs := by
  have hsent : Survives s (forAll (upTo 32) (State.sendBlockAll s.actU) s).sendDown :=
    (sentBlock (sendBlockAlls_spec (upTo 32) s s.actU).1).trans (sentDown (sendDown_spec _))
  exact (Survives.ite (selfFail.trans beside) hsent).trans beside

end Survives

/-- The module first stops (R444). -/
def State.stopped (s : State) : State := if s.awake && s.sys.st != .faulted then s.endTest.enter .faulted else s

/-- The sequence notes itself in the log, and a slice of the self-test as interrupted (R444, R502). -/
def State.cutOff (s : State) : State :=
  (s.audit 0x52).modSys (fun y => { y with
    tests := if y.sliceGo then y.tests.modify y.slice (fun x => { x with last := x.newest, res := .interrupted }) else y.tests })

/-- What the sequence saves: the records it loses, the page buffer and the journal (R445, R527, R529). -/
def State.saved (s : State) : State := ((s.loseRecords.flushAudit).journalCommit).modPeat (fun p => p.abortErase s.now)

theorem powerFail_eq {s : State} (h : s.sys.st ≠ .dormant) : exec .powerFail s = .next s.stopped.failOutputs.cutOff.saved.powerDown :=
  congrArg Host.Outcome.next (if_neg (by simpa using h))

/-- The note is one record of the log. -/
theorem cutOff_spec (s : State) : (∃ sys peat, s.cutOff = { s with sys := sys, peat := peat }) ∧ Survives s s.cutOff ∧
    s.sys.seqNo < s.cutOff.sys.seqNo := by
  obtain ⟨l, n, o, k, u, h⟩ := (audit_sameButLog s 0x52 {} 0 0 0 0 0 [] []).parts
  have hsurvives : Survives s (s.audit 0x52) := .audit
  exact ⟨⟨_, _, by rw [State.cutOff, h]; rfl⟩, hsurvives.trans (.refl _), audit_seqNo s 0x52 {} 0 0 0 0 0 [] []⟩

theorem flushAudit_spec (s : State) : ∃ p : Store, s.flushAudit = { s with peat := p } ∧ p.commitN = s.peat.commitN := by
  refine forAll_invariant (P := fun t => ∃ p : Store, t = { s with peat := p } ∧ p.commitN = s.peat.commitN) ⟨_, rfl, rfl⟩ fun u _ h => ?_
  obtain ⟨p, rfl, hp⟩ := h
  split
  · exact ⟨p, rfl, hp⟩
  · obtain ⟨q, hq, hcommit, -⟩ := auditPage_spec { s with peat := p }
    exact ⟨q, hq, hcommit.trans hp⟩

/-- Saving ends with a commit of the journal; it touches Peat and the recorder alone. -/
theorem saved_spec (s : State) : ∃ (p : Store) (a : Acq), s.saved = { s with peat := p, acq := a } ∧ p.dirty = 0 ∧
    p.commitN = s.peat.commitN + 1 := by
  obtain ⟨p, hflush, hp⟩ := flushAudit_spec s.loseRecords
  obtain ⟨q, hcommit, hdirty, hq, -⟩ := journalCommit_spec s.loseRecords.flushAudit
  refine ⟨q.abortErase s.now, s.loseRecords.acq, ?_, hdirty, hq.trans (congrArg (· + 1) ?_)⟩
  · rw [State.saved, hcommit, hflush]
    rfl
  · rw [hflush]
    exact hp

/-! ### What stopping keeps -/

/-- A value of one parameter does not bear on another. -/
theorem raw_setRaw_ne {s : State} {g n g' n' e e' : Nat} {v : Raw} (hg : g ≠ gPRT) (hid : (⟨g', n'⟩ : Pid) ≠ ⟨g, n⟩) :
    (s.setRaw ⟨g', n'⟩ e' v).raw g n e = s.raw g n e := by
  simp only [State.raw, State.setRaw, State.modPar, pStored_pvPut_ne (v := ⟨⟨g', n'⟩, e', v⟩) (id := ⟨g, n⟩) e s.par.vals hid, dfltRaw, beq_eq_false_iff_ne.mpr hg, Bool.false_and,
    Bool.false_eq_true, if_false]

/-- The end of test mode bears on the arms and on PWM.030 (R221). -/
theorem endTest_spec (s : State) : ∃ arm par, s.endTest = { s with arm := arm, par := par } ∧
    ∀ g n e, g ≠ gPRT → (⟨gPWM, 30⟩ : Pid) ≠ ⟨g, n⟩ → s.endTest.raw g n e = s.raw g n e := by
  unfold State.endTest
  split
  · exact ⟨_, _, rfl, fun g n e hg hid => raw_setRaw_ne (s := s.modArm (fun a => { a with test := false })) hg hid |>.trans
      (raw_of_par (s := s) rfl hg n e)⟩
  · exact ⟨_, _, rfl, fun _ _ _ _ _ => rfl⟩

/-- Stopping leaves the link, the pair and every parameter but the test mode; a module that is awake is then FAULTED. -/
theorem stopped_spec (s : State) : Survives s s.stopped ∧ s.stopped.twin = s.twin ∧ s.stopped.link = s.link ∧
    (∀ g n e, g ≠ gPRT → (⟨gPWM, 30⟩ : Pid) ≠ ⟨g, n⟩ → s.stopped.raw g n e = s.raw g n e) ∧
    s.stopped.awake = s.awake ∧ (s.awake = true → s.stopped.sys.st = .faulted) := by
  unfold State.stopped
  split
  case isTrue hgo =>
    have hawake : s.awake = true := (Bool.and_eq_true_iff.mp hgo).1
    obtain ⟨l, n, o, hsys, -⟩ := enter_sys s.endTest .faulted {}
    have hst : (s.endTest.enter .faulted).sys.st = .faulted := by rw [hsys]
    obtain ⟨_, _, _, _, _, henter, -⟩ := enter_spec s.endTest .faulted {}
    obtain ⟨_, _, hend, hraw⟩ := endTest_spec s
    refine ⟨Survives.endTest.trans .enter, by rw [henter, hend], by rw [henter, hend], fun g n e hg hid => ?_, ?_, fun _ => hst⟩
    · exact (raw_of_par (by rw [henter]) hg n e).trans (hraw g n e hg hid)
    · rw [State.awake, hst, hawake]
      rfl
  case isFalse hno =>
    refine ⟨.refl s, rfl, rfl, fun _ _ _ _ _ => rfl, rfl, fun hawake => ?_⟩
    simpa [hawake] using hno

/-! ### What has gone out at the end (R308, R344, R444) -/

/-- A working pair's shadow says FAIL on link T and no more to its children. -/
theorem failOutputs_fail {s : State} (hpair : s.pb gTWN 1 = true) (hshadow : s.twin.shadow = true) (hself : s.twin.selfFailed = false)
    (hon : s.twinOn = true) (htx : s.link.txOn = true) (hst : s.sys.st = .faulted) :
    (s.fr, TBody.fail noSource) ∈ s.failOutputs.twin.txT ∧ s.failOutputs.nest.txDown = [] := by
  have hcond : (s.pb gTWN 1 && s.awake && (s.twin.shadow || s.inStep)) = true := by
    rw [hpair, hshadow, State.awake, hst]
    rfl
  have hsend : s.tSend (.fail noSource) = s.modTwin (fun t => { t with txT := t.txT ++ [(s.fr, .fail noSource)] }) := if_pos (by rw [hon, htx]; rfl)
  have hfail : s.selfFail noSource = (s.modTwin (fun t => { t with txT := t.txT ++ [(s.fr, .fail noSource)] })).modTwin (fun t =>
      { t with selfFailed := true, shadow := true, ready := false }) := by
    rw [State.selfFail, if_neg (by simp [hself]), hsend]
    exact if_neg (by simp [State.modTwin, hst])
  unfold State.failOutputs
  dsimp only
  rw [if_pos hcond, hfail]
  exact ⟨List.mem_append_right _ (List.mem_singleton.mpr rfl), rfl⟩

/-- A module outside a pair demands BLOCK of every child it reaches, and BLOCK_ALL has gone out on every cell port. -/
theorem failOutputs_block {s : State} (hpair : s.pb gTWN 1 = false) (hstill : s.awake = true → s.sys.st = .faulted) :
    (∀ d ∈ s.failOutputs.nest.txDown, d.2.demand = true) ∧
    ∀ p, p < 32 → s.txGo = true → s.cellPort p = true → p < s.link.ports.length → Blocked p s.failOutputs := by
  obtain ⟨u, hu⟩ : ∃ u, u = forAll (upTo 32) (State.sendBlockAll s.actU) s := ⟨_, rfl⟩
  obtain ⟨⟨⟨_, _, _, hframe, -⟩, -⟩, hblocked⟩ := hu ▸ sendBlockAlls_spec (upTo 32) s s.actU
  obtain ⟨⟨_, _, _, hdown⟩, hdemand⟩ := sendDown_spec u
  have hout : s.failOutputs = u.sendDown.modHdg (fun h => { h with outs := h.outs.map (fun o => { o with hs := false, ls := false }) }) := by
    unfold State.failOutputs
    dsimp only
    rw [hpair, ← hu]
    rfl
  have hrun : u.running = false := by
    rw [State.running, hframe]
    cases ha : s.awake with
    | true => rw [hstill ha]; rfl
    | false =>
      have hrest : s.sys.st = .dormant ∨ s.sys.st = .standby := by simpa [State.awake, Classical.or_iff_not_imp_left] using ha
      rcases hrest with h | h <;> rw [h] <;> rfl
  rw [hout]
  refine ⟨hdemand hrun, fun p hp hgo hport hlen => ?_⟩
  have hsent := hblocked p (List.mem_range.mpr hp) hgo hport hlen
  have hlink : u.sendDown.link = u.link := by rw [hdown]
  unfold Blocked State.port at hsent ⊢
  rw [show (u.sendDown.modHdg _).link = u.sendDown.link from rfl, hlink]
  exact hsent

/-- What saving and the end of supply leave of what has gone out. -/
theorem powerDown_sent {s : State} : s.cutOff.saved.powerDown.twin.txT = s.twin.txT ∧ s.cutOff.saved.powerDown.nest.txDown = s.nest.txDown ∧
    ∀ p, Blocked p s → Blocked p s.cutOff.saved.powerDown := by
  obtain ⟨⟨_, _, hcut⟩, -⟩ := cutOff_spec s
  obtain ⟨_, _, hsaved, -⟩ := saved_spec s.cutOff
  rw [hsaved, hcut]
  refine ⟨rfl, rfl, fun p hp => ?_⟩
  have hp' : (s.link.ports.getD p Port.reset).baSent = true := hp
  show ((s.link.ports.map Port.kept).getD p Port.reset).baSent = true
  rw [List.getD] at hp' ⊢
  rw [List.getElem?_map]
  cases hx : s.link.ports[p]? with
  | none => rwa [hx] at hp'
  | some x => rwa [hx] at hp'

/-! ### The statement -/

theorem publishSys_frame (s : State) (tests : Bool) : ∃ pub, s.publishSys tests = { s with pub := pub } := by
  unfold State.publishSys
  split <;> exact ⟨_, rfl⟩

/-- A power-up whose first attempt boots reaches STANDBY (R441, R446, R487). -/
theorem powerUp_spec {s : State} {slot secs : Nat} {strapped : Bool} (hst : s.sys.st = .dormant) (hbad : s.sys.bootBad = 0)
    (hlim : 0 < s.pn gCFG 31) (hok : s.sys.fwOk.getD (if s.sys.fwSelB then 1 else 0) false = true) (hreq : s.sys.lifeReq = none)
    (hlog : s.sys.seqNo ≤ s.peat.stored) :
    ∃ t : State, exec (.powerUp slot strapped true secs [true]) s = .next t ∧ t.sys.st = .standby ∧ t.safetyOff ∧
      t.sys.life = s.sys.life ∧ t.sys.slots = s.sys.slots ∧ t.sys.creds = s.sys.creds ∧ t.pending = s.pending ∧
      t.sys.fwB = s.sys.fwSelB ∧ LoggedOne s t 0x20 ∧ t.clk.aoSec = s.clk.aoSec + secs ∧ t.sys.slotId = slot % 16 := by
  obtain ⟨b, hb⟩ : ∃ b, b = s.bootedUp slot strapped secs := ⟨_, rfl⟩
  obtain ⟨hoff, hsys, hpend, -, hao⟩ := hb ▸ bootedUp_spec s slot strapped secs
  obtain ⟨l, n, o, p, m, henter, -⟩ := enter_spec b .standby {}
  have hnone : (b.enter .standby).sys.lifeReq = none := by rw [henter]; exact (congrArg Sys.lifeReq hsys).trans hreq
  have hone : LoggedOne b (b.enter .standby) 0x20 := audit_loggedOne b 0x20 {} 0 b.sys.st.code MState.standby.code 0 0
  have hexec := powerUp_eq (secs := secs) (slot := slot) (strapped := strapped) hst hbad hlim hok hlog
  obtain ⟨pub, hpub⟩ := publishSys_frame ((b.enter .standby).modSys (fun y => { y with lifeReq := none })) false
  rw [henter] at hone hpub hnone
  rw [← hb, henter, lifeApply_none hnone, hpub] at hexec
  have hlife : b.sys.life = s.sys.life := by rw [hsys]; rfl
  have hslots : b.sys.slots = s.sys.slots := by rw [hsys]; rfl
  have hcreds : b.sys.creds = s.sys.creds := by rw [hsys]; rfl
  have hfw : b.sys.fwB = s.sys.fwSelB := by rw [hsys]
  have hslot : b.sys.slotId = slot % 16 := by rw [hsys]; rfl
  exact ⟨_, hexec, rfl, hoff, hlife, hslots, hcreds, hpend, hfw,
    LoggedOne.of_log (u := b) hone (by rw [hsys]; rfl) (by rw [hsys]; rfl), hao, hslot⟩

/-- Settles O47: a power-up by the state it boots from, a power failure by what stops, goes out and is saved in turn. -/
theorem powerUpAndPowerFail : Obligations.PowerUpAndPowerFail := by
  intro s
  refine ⟨fun slot secs strapped => powerUp_spec, fun slot secs strapped vbatOk boots hst => ?stays, fun hst => ?fails, fun hst => ?dormant⟩
  case stays => exact congrArg Host.Outcome.next (if_pos (by simpa using hst))
  case dormant => exact congrArg Host.Outcome.next (if_pos (by simp [hst]))
  case fails =>
    obtain ⟨v, hv⟩ : ∃ v, v = s.stopped := ⟨_, rfl⟩
    obtain ⟨hstop, htwin, hlink, hraw, hawake, hfaulted⟩ := hv ▸ stopped_spec s
    obtain ⟨u, hu⟩ : ∃ u, u = v.failOutputs := ⟨_, rfl⟩
    obtain ⟨-, hcutSurvives, hseq⟩ := cutOff_spec u
    obtain ⟨hclk, hpend, hslots, hlife, hcreds, hold, hcommits⟩ := hstop.trans (hu ▸ Survives.failOutputs)
    obtain ⟨cclk, cpend, cslots, clife, ccreds, -, ccommits⟩ := hcutSurvives
    obtain ⟨p, a, hsaved, hdirty, hcommit⟩ := saved_spec u.cutOff
    obtain ⟨htxT, htxDown, hba⟩ := powerDown_sent (s := u)
    have hexec := powerFail_eq hst
    rw [← hv, ← hu] at hexec
    have hpb : v.pb gTWN 1 = s.pb gTWN 1 := congrArg (· != 0) (hraw gTWN 1 0 (by decide) (by decide))
    have hlanes : v.lanesOn = s.lanesOn := by rw [State.lanesOn, hawake, hstop.1]; rfl
    refine ⟨_, hexec, rfl, off_safetyOff _, rfl, rfl, rfl, ?_, ?_, rfl, rfl, rfl, ?_, ?_, ?_, ?_, ?_, ?_, ?fail, ?block⟩
    case fail =>
      intro hpair hshadow hself hon htx
      rw [htxT, htxDown, hu]
      have hvst : v.sys.st = .faulted := hfaulted (by
        have hgo := (Bool.and_eq_true_iff.mp hon).2
        exact (Bool.and_eq_true_iff.mp hgo).1)
      have hfail := failOutputs_fail (s := v) (hpb.trans hpair) (by rw [htwin]; exact hshadow) (by rw [htwin]; exact hself)
        (by rw [State.twinOn, hpb, hlanes]; exact hon) (by rw [hlink]; exact htx) hvst
      rwa [State.fr, hstop.1] at hfail
    case block =>
      intro hpair
      obtain ⟨hdemand, hblocked⟩ := failOutputs_block (s := v) (hpb.trans hpair) (fun h => hfaulted (hawake ▸ h))
      rw [htxDown, hu]
      refine ⟨hdemand, fun _ hgo q hq hport hlen => ?_⟩
      have htopo : v.topoOf q = s.topoOf q := congrArg BitVec.toNat (hraw gLNK 1 q (by decide) (by decide))
      exact hu ▸ hba q (hu ▸ hblocked q hq (by rw [State.txGo, hlanes, hlink]; exact hgo) (by rw [State.cellPort, htopo]; exact hport)
        (by rw [hlink]; exact hlen))
    all_goals rw [hsaved]
    · exact hdirty
    · exact hcommit.trans (congrArg (· + 1) (ccommits.trans hcommits))
    · exact cslots.trans hslots
    · exact clife.trans hlife
    · exact ccreds.trans hcreds
    · exact cpend.trans hpend
    · exact congrArg (fun c : Clk => c.tai / 1000000000) (cclk.trans hclk)
    · exact Nat.lt_of_le_of_lt hold hseq

end Sys2Proof.Machine
end

section
/-!
SUPPORT. Sleep and wake (R441 to R443, R490, R491, R496, R574): what the wake sequence leaves, and the states in which it ends.
-/
namespace Sys2Proof.Machine
open Sys2Proof

/-- From `s` to `t` a wake that is held back stays so, and the mailbox channels stay. -/
def HostKept (s t : State) : Prop := t.sys.coldHold = s.sys.coldHold ∧ t.mbx.chans = s.mbx.chans

namespace HostKept
variable {s t u : State}

/-! ### Composition -/

theorem refl (s : State) : HostKept s s := ⟨rfl, rfl⟩

theorem trans (h : HostKept s t) (k : HostKept t u) : HostKept s u := by
  obtain ⟨hcold, hchans⟩ := h
  obtain ⟨kcold, kchans⟩ := k
  exact ⟨kcold.trans hcold, kchans.trans hchans⟩

theorem when {b : Bool} {f : State → State} (h : HostKept s t) (hf : ∀ v, HostKept s v → HostKept s (f v)) : HostKept s (t.when b f) := by
  cases b with
  | false => exact h
  | true => exact hf t h

theorem ite {c : Prop} [Decidable c] (h : HostKept s t) (k : HostKept s u) : HostKept s (if c then t else u) := by
  split
  · exact h
  · exact k

theorem forAll {β : Type} {l : List β} {f : State → β → State} (h : HostKept s t) (hf : ∀ v b, HostKept s v → HostKept s (f v b)) :
    HostKept s (forAll l f t) := forAll_invariant h hf

section
variable (h : HostKept s t)
include h

/-! ### Records of the state and shared operations -/

theorem modSys {g : Sys → Sys} (hg : (g t.sys).coldHold = t.sys.coldHold) : HostKept s (t.modSys g) := h.trans ⟨hg, rfl⟩
theorem modClk {g : Clk → Clk} : HostKept s (t.modClk g) := h
theorem modMeas {g : Meas → Meas} : HostKept s (t.modMeas g) := h
theorem modEng {g : Eng → Eng} : HostKept s (t.modEng g) := h
theorem modKern {g : Kern → Kern} : HostKept s (t.modKern g) := h
theorem modArm {g : Arm → Arm} : HostKept s (t.modArm g) := h
theorem modLink {g : Link → Link} : HostKept s (t.modLink g) := h
theorem modTwin {g : Twin → Twin} : HostKept s (t.modTwin g) := h
theorem modHdg {g : Hdg → Hdg} : HostKept s (t.modHdg g) := h
theorem modAcq {g : Acq → Acq} : HostKept s (t.modAcq g) := h
theorem modPar {g : Par → Par} : HostKept s (t.modPar g) := h
theorem modPeat {g : Store → Store} : HostKept s (t.modPeat g) := h
theorem modFio {g : Fio → Fio} : HostKept s (t.modFio g) := h
theorem modPub {g : Pub → Pub} : HostKept s (t.modPub g) := h
theorem modTrk {g : List Trk → List Trk} : HostKept s (t.modTrk g) := h
theorem setRaw {id : Pid} {e : Nat} {v : Raw} : HostKept s (t.setRaw id e v) := h
theorem updCell {c : Nat} {f : Cell → Cell} : HostKept s (t.updCell c f) := h
theorem mapCells {f : Nat → Cell → Cell} : HostKept s (t.mapCells f) := h
theorem updPort {p : Nat} {f : Port → Port} : HostKept s (t.updPort p f) := h
theorem updTrk {k : Nat} {f : Trk → Trk} : HostKept s (t.updTrk k f) := h
theorem updOut {o : Nat} {f : OutS → OutS} : HostKept s (t.updOut o f) := h
theorem rcSet {d e k : Nat} : HostKept s (t.rcSet d e k) := h
theorem publishSys {tests : Bool} : HostKept s (t.publishSys tests) := .ite h.modPub h.modPub.modPub
theorem openReq : HostKept s t.openReq := h

theorem audit {ty : Nat} {w : Who} {subj : Nat} {old new detail : Int} {result : Nat} {more : List Reason} {vals : List (List Int)} :
    HostKept s (t.audit ty w subj old new detail result more vals) := forAll_invariant h fun _ _ h => h

theorem enter {m : MState} {w : Who} : HostKept s (t.enter m w) := h.audit (ty := 0x20) (w := w) (old := t.sys.st.code) (new := m.code)
theorem endTest : HostKept s t.endTest := .ite h.modArm.setRaw h
theorem toFaulted : HostKept s t.toFaulted := .ite h.endTest.enter h
theorem faultCheck : HostKept s t.faultCheck := .ite h.toFaulted h

/-! ### Writes that take effect at a wake (R10, R470) -/

theorem store {id : Pid} {e : Nat} {v : Raw} : HostKept s (t.store id e v) := by
  unfold State.store
  split
  · exact h
  · refine .ite h (.ite h.updCell (.ite h.updCell (.ite h.updCell (.ite ?_ h.setRaw))))
    dsimp only
    split
    · exact h.modPar.modEng
    · exact h.modPar

theorem cmpWrite {k n : Nat} {v : Raw} : HostKept s (t.cmpWrite k n v) := .ite h.updTrk (.ite h.updTrk h)
theorem commit {mask : Nat} : HostKept s (t.commit mask) := h.forAll fun _ _ h => h.updCell
theorem ocRefresh : HostKept s t.ocRefresh := h
theorem startResync : HostKept s t.startResync := h
theorem planSwap : HostKept s t.planSwap := .ite (.ite h.modTwin.modTwin h.modTwin) h
theorem acqArm : HostKept s t.acqArm := .ite h.modAcq.modAcq h.modAcq

theorem acqDisarm : HostKept s t.acqDisarm := by
  unfold State.acqDisarm
  split <;> exact h.modAcq

theorem condRestart {i : Nat} : HostKept s (t.condRestart i) := h
theorem outFault {o bit : Nat} {on : Bool} {f : OutS → OutS} : HostKept s (t.outFault o bit on f) := h.audit.updOut

theorem faultRelease {mask : Nat} : HostKept s (t.faultRelease mask) :=
  h.forAll fun _ _ h => (HostKept.ite (HostKept.ite h.outFault h).outFault (.ite h.outFault h)).updOut

theorem hook {w : Write} : HostKept s (t.hook w) := by
  refine .ite h.modKern (.ite h.cmpWrite (.ite h.updCell (.ite h (.ite h.commit (.ite h.modArm (.ite h.updPort (.ite h.ocRefresh ?_)))))))
  refine .ite (.ite h.modTwin.startResync h) (.ite (.ite h.planSwap h) (.ite h.modEng (.ite h.modEng (.ite h.modHdg ?_))))
  refine .ite (.ite h.acqArm h.acqDisarm) (.ite h.modAcq (.ite h.condRestart (.ite (.ite h.modPeat h) (.ite (.ite h.modFio h) ?_))))
  exact .ite h.faultRelease (.ite (.ite h.modClk h) (.ite h.modClk (.ite h.modClk h)))

theorem applyWrite {w : Write} : HostKept s (t.applyWrite w) :=
  .ite (h.when fun _ h => h.modMeas).store.hook.audit.audit (h.when fun _ h => h.modMeas).store.hook.audit

theorem applyRestart : HostKept s t.applyRestart := h.modPar.forAll fun _ _ h => h.applyWrite

/-! ### Loading an image and the identity match (R443, R488, R489) -/

theorem setReach : HostKept s t.setReach := h
theorem trkLoad : HostKept s t.trkLoad := (h.forAll fun _ _ h => h.when fun _ h => h.rcSet).modTrk

theorem loadImage {c : Content} {b : List Byte} {keep : Bool} : HostKept s (t.loadImage c b keep) := by
  unfold State.loadImage
  refine setReach (ocRefresh (modArm (trkLoad (modKern (modEng (modHdg ?_))))))
  exact .ite (h.modSys rfl).modPar.modArm ((h.modSys rfl).modPar.modArm.modHdg)

theorem noImage : HostKept s t.noImage := (h.modSys rfl).modPar.modArm.modEng.trkLoad
theorem groupsApply : HostKept s t.groupsApply := h
theorem pwmRestart : HostKept s t.pwmRestart := h

theorem takeIdent {l : List SeenPort} {c : Nat} : HostKept s (t.takeIdent l c) := by
  unfold State.takeIdent
  split <;> exact h.updCell

theorem enumerate {now : List Nat} {l : List SeenPort} {leads : Bool} : HostKept s (t.enumerate now l leads) := by
  unfold State.enumerate
  exact ((h.modSys rfl).modLink.forAll fun _ _ h => h.takeIdent).modLink

theorem countIdent : HostKept s t.countIdent := h

theorem identity {obs : WakeObs} {again : Bool} : HostKept s (t.identity obs again).1 := by
  unfold State.identity
  dsimp only
  exact h.enumerate.countIdent.modTwin

/-! ### The end of a validation (R490, R491) -/

theorem stepTime {off : Int} {frac : Nat} : HostKept s (t.stepTime off frac) := h.audit.modClk.rcSet.modMeas.mapCells
theorem takeStep : HostKept s t.takeStep := .ite (.ite h.stepTime h.modClk) h
theorem openBooks : HostKept s t.openBooks := h

theorem toReady : HostKept s t.toReady := by
  unfold State.toReady
  exact h.openBooks.takeStep.enter.faultCheck

theorem record {finds : List Find} {retry : Bool} : HostKept s (t.record finds retry) := (h.modSys rfl).when fun _ h => h.audit

theorem toPending {finds : List Find} {retry : Bool} : HostKept s (t.toPending finds retry) := by
  have hnoted {g : Link → Link} : HostKept s ((t.record finds retry).modLink g) := h.record.modLink
  exact (HostKept.ite hnoted hnoted.enter).openReq.publishSys

theorem passReady : HostKept s t.passReady := by
  unfold State.passReady
  refine publishSys (toReady ?_)
  exact .ite h.record.applyRestart.modLink.modEng.modTwin.mapCells.acqArm h.record.applyRestart.modLink.modEng.modTwin.mapCells

theorem freshUnits : HostKept s t.freshUnits := h
theorem softRepair : HostKept s t.softRepair := (h.modSys rfl).publishSys
theorem scrubAtWake : HostKept s t.scrubAtWake := .ite h.modPeat h

theorem validate {obs : WakeObs} : HostKept s (t.validate obs) := by
  have hid {u v : State} {l : List Find} (hv : HostKept s v) (heq : v.identity obs false = (u, l)) : HostKept s u := by
    simpa only [heq] using hv.identity (obs := obs) (again := false)
  unfold State.validate
  dsimp only
  split
  · split
    · split
      next heq => exact (hid (h.modSys rfl).loadImage.groupsApply.pwmRestart heq).passReady
      next heq => exact (hid (h.modSys rfl).loadImage.groupsApply.pwmRestart heq).toPending
    · refine toPending ?_
      exact .ite (h.modSys rfl).loadImage.groupsApply.pwmRestart (.ite (h.modSys rfl).noImage (h.modSys rfl).loadImage.groupsApply)
  · exact (h.modSys rfl).noImage.toPending

end
end HostKept

/-! ### The states in which a wake ends (R302, R490, R491) -/

/-- READY, CONFIG_PENDING or FAULTED. -/
def State.woken (s : State) : Prop := s.sys.st = .ready ∨ s.sys.st = .configPending ∨ s.sys.st = .faulted

theorem faultCheck_woken {s : State} (h : s.woken) : s.faultCheck.woken := by
  unfold State.faultCheck State.toFaulted
  split
  · split
    · obtain ⟨_, _, _, _, _, henter, -⟩ := enter_spec s.endTest .faulted {}
      exact .inr (.inr (by rw [henter]))
    · exact h
  · exact h

theorem publishSys_woken {s : State} (tests : Bool) : (s.publishSys tests).woken ↔ s.woken := by
  obtain ⟨_, h⟩ := publishSys_frame s tests
  rw [h]
  rfl

theorem toReady_woken (s : State) : s.toReady.woken := by
  obtain ⟨_, _, _, _, _, henter, -⟩ := enter_spec s.openBooks.takeStep .ready {}
  exact faultCheck_woken (.inl (by rw [henter]))

theorem passReady_woken (s : State) : s.passReady.woken := by
  unfold State.passReady
  exact (publishSys_woken _).mpr (toReady_woken _)

theorem toPending_woken (s : State) (finds : List Find) (retry : Bool) : (s.toPending finds retry).woken := by
  unfold State.toPending
  refine (publishSys_woken _).mpr (.inr (.inl ?_))
  show (ite _ _ _ : State).sys.st = _
  split
  next h => exact eq_of_beq h
  next =>
    obtain ⟨_, _, _, _, _, henter, -⟩ := enter_spec ((s.record finds retry).modLink (fun l => { l with txOn := true })) .configPending {}
    exact congrArg (fun u : State => u.sys.st) henter

theorem validate_woken (s : State) (obs : WakeObs) : (s.validate obs).woken := by
  unfold State.validate
  dsimp only
  split
  · split
    · split
      · exact passReady_woken _
      · exact toPending_woken ..
    · exact toPending_woken ..
  · exact toPending_woken ..

/-- The wake sequence ends in one of these states, no wake is held back, and the channels stay. -/
theorem wakeSeq_spec (s : State) (obs : WakeObs) : (s.wakeSeq obs).woken ∧ (s.wakeSeq obs).sys.coldHold = false ∧
    (s.wakeSeq obs).mbx.chans = s.mbx.chans := by
  obtain ⟨u, hu⟩ : ∃ u, u = ((s.modClk (fun c => { c with
    powC := true, lockC := true, backC := false, powL := true, lockL := true, backL := false
    pllStand := (c.pllStand.set 0 false).set 1 false, refFallback := c.refFallback && !obs.refOk })).modSys (fun y =>
      { y with coldHold := false, wakeWait := false, activ := false })) := ⟨_, rfl⟩
  have hkept : HostKept u (u.freshUnits.softRepair.scrubAtWake.validate obs) := (HostKept.refl u).freshUnits.softRepair.scrubAtWake.validate
  have hwake : s.wakeSeq obs = (u.freshUnits.softRepair.scrubAtWake.validate obs).modClk (fun c =>
      { c with refinLocked := c.refinLocked && (u.freshUnits.softRepair.scrubAtWake.validate obs).pn gTIM 1 == 1 }) := by
    rw [hu]
    rfl
  rw [hwake]
  exact ⟨validate_woken _ obs, hkept.1.trans (by rw [hu]; rfl), hkept.2.trans (by rw [hu]; rfl)⟩

/-! ### Wake sources (R442, R574) -/

theorem wakeUp_cold {s : State} {obs : WakeObs} (hst : s.sys.st = .standby) (hcold : fLt s.hw.base (degC (-25)) = true) :
    s.wakeUp obs = { s with sys := { s.sys with coldHold := true } } :=
  (if_pos (by simp [hst])).trans (if_pos hcold)

theorem wakeUp_warm {s : State} {obs : WakeObs} (hst : s.sys.st = .standby) (hcold : fLt s.hw.base (degC (-25)) = false) :
    s.wakeUp obs = s.wakeSeq obs :=
  (if_pos (by simp [hst])).trans (if_neg (by simp [hcold]))

/-- A wake from STANDBY keeps the channels, whether it is held back or not. -/
theorem wakeUp_chans {s : State} {obs : WakeObs} (hst : s.sys.st = .standby) : (s.wakeUp obs).mbx.chans = s.mbx.chans := by
  cases hcold : fLt s.hw.base (degC (-25)) with
  | true => rw [wakeUp_cold hst hcold]
  | false =>
    obtain ⟨-, -, hchans⟩ := wakeSeq_spec s obs
    rw [wakeUp_warm hst hcold, hchans]

/-- A wake from STANDBY waits for warmth, or starts the module. -/
theorem wakeUp_spec {s : State} {obs : WakeObs} (hst : s.sys.st = .standby) :
    (fLt s.hw.base (degC (-25)) = true → s.wakeUp obs = { s with sys := { s.sys with coldHold := true } }) ∧
    (fLt s.hw.base (degC (-25)) = false → (s.wakeUp obs).woken ∧ (s.wakeUp obs).sys.coldHold = false) := by
  refine ⟨wakeUp_cold hst, fun hcold => ?_⟩
  obtain ⟨hwoken, hhold, -⟩ := wakeSeq_spec s obs
  rw [wakeUp_warm hst hcold]
  exact ⟨hwoken, hhold⟩

/-! ### Sleep (R221, R496, R497) -/

/-- `t` is `s` but for Peat, the recorder and the sticky bits. -/
def StoreStep (s t : State) : Prop := ∃ peat acq pub, t = { s with peat := peat, acq := acq, pub := pub }

namespace StoreStep
variable {s t : State}

theorem refl (s : State) : StoreStep s s := ⟨_, _, _, rfl⟩

section
variable (h : StoreStep s t)
include h

theorem modPeat {g : Store → Store} : StoreStep s (t.modPeat g) := by
  obtain ⟨_, _, _, rfl⟩ := h
  exact ⟨_, _, _, rfl⟩

theorem modAcq {g : Acq → Acq} : StoreStep s (t.modAcq g) := by
  obtain ⟨_, _, _, rfl⟩ := h
  exact ⟨_, _, _, rfl⟩

theorem rcSet {d e k : Nat} : StoreStep s (t.rcSet d e k) := by
  obtain ⟨_, _, _, rfl⟩ := h
  exact ⟨_, _, _, rfl⟩

theorem ite {u : State} {c : Prop} [Decidable c] (k : StoreStep s u) : StoreStep s (if c then t else u) := by
  split
  · exact h
  · exact k

theorem recFree : StoreStep s t.recFree := by
  unfold State.recFree
  split
  · exact h.modPeat.rcSet
  · exact h

theorem recRoom {size n : Nat} : StoreStep s (State.recRoom size n t) := by
  induction n generalizing t with
  | zero => exact h
  | succ n ih => exact h.ite (ih h.recFree)

theorem recWrite : StoreStep s t.recWrite := by
  unfold State.recWrite
  split
  · exact h
  · exact (h.ite h.recRoom).modPeat.ite (h.ite h.recRoom).modPeat.modAcq

theorem recFlush : StoreStep s t.recFlush := forAll_invariant h fun _ _ h => h.recWrite

end
end StoreStep

theorem endTest_test (s : State) : s.endTest.arm.test = false := by
  unfold State.endTest
  split
  · rfl
  next h => simpa using h

/-- The shut-down starts after 16 KEEPALIVE frames to come, outside test mode (R221, R486, R497). -/
theorem shutStart_spec (s : State) : ∃ peat acq pub arm par, s.shutStart = { s with
    peat := peat, acq := acq, pub := pub, arm := arm, par := par, sys := { s.sys with shut := 1, keep := 16, retry := false } } ∧
    arm.test = false := by
  obtain ⟨_, _, _, hflush⟩ := (StoreStep.refl s).recFlush
  have htest := endTest_test s.recFlush
  obtain ⟨_, _, hend, -⟩ := endTest_spec s.recFlush
  rw [hend] at htest
  exact ⟨_, _, _, _, _, by rw [State.shutStart, hend, hflush]; rfl, htest⟩

/-- SLEEP outside RUNNING is logged and carried, and the shut-down starts (R330, R496, R497). -/
theorem sleep_starts {s : State} {ch : Nat} {q : Req} (hmute : s.mute = false) (hq : s.executing ch 0x32 q) (hawake : s.awake = true)
    (hst : s.sys.st ≠ .running) (hshut : s.sys.shut = 0) :
    ∃ t : State, exec (.sleep ch) s = .next t ∧ t.sys.st = s.sys.st ∧ t.sys.shut = 1 ∧ t.sys.keep = 16 ∧ t.arm.test = false ∧
      Answered s t ch q .ok [] ∧ MailboxStep s t ch ∧ t.hdg = s.hdg ∧ t.eng = s.eng ∧ t.prot = s.prot ∧ t.clk = s.clk := by
  obtain ⟨a, ha⟩ : ∃ a, a = s.author ch q := ⟨_, rfl⟩
  obtain ⟨v, hv⟩ : ∃ v, v = s.audit 0x02 (s.whoAct a.ch a.sess a.cred) q.op 0 0 0 Status.ok.code := ⟨_, rfl⟩
  obtain ⟨f, hexec, hf⟩ : ∃ f, exec (.sleep ch) s = .next (s.command ch 0x32 f) ∧
      f s q a = ((v.carryCmd 0x32 a v.fr 0 []).shutStart, {}) := by
    refine ⟨_, rfl, ?_⟩
    have hreq : s.sleepReq = (s, {}) := (if_neg (by simpa using hst)).trans (if_neg (by simp [hawake, hshut]))
    simp only [State.logged, hreq, hv]
    rfl
  have hsame : SameButLog s v := hv ▸ audit_sameButLog ..
  obtain ⟨_, _, _, _, _, hv'⟩ := hsame.parts
  obtain ⟨_, hcarry⟩ : ∃ twin, v.carryCmd 0x32 a v.fr 0 [] = { v with twin := twin } := by
    unfold State.carryCmd
    split <;> exact ⟨_, rfl⟩
  obtain ⟨_, _, _, _, _, hshutStart, htest⟩ := shutStart_spec (v.carryCmd 0x32 a v.fr 0 [])
  rw [hcarry, hv'] at hshutStart
  rw [hcarry, hv', hshutStart, ha] at hf
  obtain ⟨ht, hstep, hans⟩ := command_answers s ch 0x32 q f hq (.inl hmute) _ _ hf rfl
  obtain ⟨t, hdef⟩ : ∃ t, t = s.command ch 0x32 f := ⟨_, rfl⟩
  rw [← hdef] at hexec ht hstep hans
  refine ⟨t, hexec, ?_, ?_, ?_, ?_, hans, hstep, ?_, ?_, ?_, ?_⟩
  all_goals rw [ht]
  exact htest

/-- Settles O42: SLEEP by what its command leaves, and each wake source by the wake it brings about. -/
theorem sleepShutsDownAndWakesStart : Obligations.SleepShutsDownAndWakesStart := by
  intro s ch q obs
  dsimp only
  refine ⟨sleep_starts, fun hmute hq hrun => ?refused, fun hmute hq hperm hst => ?wake, fun hst hin hperm => ?input, fun hst hhold hcold => ?warm,
    fun hup hin => ?black⟩
  case refused =>
    have hreq : s.sleepReq = (s, refuse .pwrRunning) := if_pos (by simp [hrun])
    obtain ⟨f, hexec, hf⟩ : ∃ f, exec (.sleep ch) s = .next (s.command ch 0x32 f) ∧
        f s q (s.author ch q) = State.logged (fun s _ _ => s.sleepReq) s q (s.author ch q) := by
      refine ⟨_, rfl, ?_⟩
      simp only [State.logged, hreq]
      rfl
    have hlog : f s q (s.author ch q) = (s.audit 0x02 (s.whoAct (s.author ch q).ch (s.author ch q).sess (s.author ch q).cred) q.op 0 0 0
        Status.refused.code (refuse .pwrRunning).why.toList, refuse .pwrRunning) := by
      rw [hf, State.logged, hreq]
      rfl
    obtain ⟨hframe, -, -, hans, -⟩ := recorded_answers hq hmute hlog rfl
    exact ⟨_, hexec, hframe, hans⟩
  case wake =>
    obtain ⟨v, hv⟩ : ∃ v, v = s.audit 0x02 (s.whoAct (s.author ch q).ch (s.author ch q).sess (s.author ch q).cred) q.op := ⟨_, rfl⟩
    obtain ⟨_, _, _, _, _, hv'⟩ := (hv ▸ audit_sameButLog .. : SameButLog s v).parts
    have hvst : v.sys.st = .standby := by rw [hv']; exact hst
    have hbase : v.hw.base = s.hw.base := by rw [hv']
    have hchans : v.mbx.chans = s.mbx.chans := by rw [hv']
    obtain ⟨hcold, hwarm⟩ := wakeUp_spec (obs := obs) hvst
    rw [hbase] at hcold hwarm
    obtain ⟨f, hexec, hf⟩ : ∃ f, exec (.wake ch obs) s = .next (s.command ch 0x33 f) ∧ f s q (s.author ch q) = (v.wakeUp obs, {}) := by
      refine ⟨_, rfl, (if_pos ?_).trans (by rw [hv])⟩
      rw [hperm, hst]
      rfl
    obtain ⟨ht, -, hans⟩ := command_answers s ch 0x33 q f hq (.inl hmute) _ _ hf ((wakeUp_chans hvst).trans hchans)
    have hsys : (s.command ch 0x33 f).sys = (v.wakeUp obs).sys := by rw [ht]
    refine ⟨_, hexec, hans, fun h => ?_, fun h => ?_⟩
    · rw [hsys, hcold h]
      exact ⟨hvst, rfl⟩
    · rw [hsys]
      exact hwarm h
  case input =>
    obtain ⟨hcold, hwarm⟩ := wakeUp_spec (obs := obs) hst
    refine ⟨s.wakeUp obs, congrArg Host.Outcome.next (if_pos ?_), hcold, hwarm⟩
    rw [hperm, State.up, hst]
    simp [hin]
  case warm =>
    obtain ⟨hwoken, hheld, -⟩ := wakeSeq_spec s obs
    exact ⟨s.wakeSeq obs, congrArg Host.Outcome.next (if_pos (by simp [hst, hhold, hcold])), hwoken, hheld⟩
  case black =>
    obtain ⟨v, hv⟩ : ∃ v, v = s.modKern (fun k => { k with bsEdge := true }) := ⟨_, rfl⟩
    have hperm : (v.raw gPWR 1).getLsbD 1 = (s.raw gPWR 1).getLsbD 1 := by rw [raw_of_par (s := s) (by rw [hv]; rfl) (by decide)]
    have hexec : exec (.blackStartRequestEdge obs) s = .next (if (v.raw gPWR 1).getLsbD 1 then v.wakeUp obs else v) := by
      rw [hv]
      exact congrArg Host.Outcome.next (if_neg (by simp [hup, hin]))
    refine ⟨_, hexec, fun hstays => ?_, fun hst hp hcold => ?_⟩
    · rcases hstays with h | ⟨hst, hshut⟩
      · rw [hperm, h]
        exact hv
      · have hasleep : v.wakeUp obs = v := by
          rw [hv]
          exact (if_neg (by simpa using hst)).trans (if_neg (by simp [State.modKern, hshut]))
        rw [hasleep, ite_self]
        exact hv
    · have hvst : v.sys.st = .standby := by rw [hv]; exact hst
      obtain ⟨-, hwarm⟩ := wakeUp_spec (obs := obs) hvst
      rw [hperm, hp]
      exact (hwarm (by rw [hv]; exact hcold)).1

end Sys2Proof.Machine
end
